-- ==== Sys2Proof/Word.lean ====
section
/-! DEFINITION. The word types of the block and the indices of its ports, channels, selects and networks. -/
namespace Sys2Proof

abbrev Byte := BitVec 8
abbrev Half := BitVec 16
abbrev Word := BitVec 32
abbrev DWord := BitVec 64
abbrev Bytes := List Byte

/-- A host port, and a flash channel: 0 to 23 (R14). -/
abbrev Host24 := Fin 24
abbrev Chan := Fin 24
/-- A device select of a channel: 0 to 3. -/
abbrev Sel := Fin 4
/-- A network port: 0 to 3 CAN FD, 4 to 7 10BASE-T1S. -/
abbrev NetPort := Fin 8

end Sys2Proof
end

