-- ==== Sys2Proof/Machine/Bits.lean ====
section
/-! DEFINITION. Bytes, little-endian packing, bit fields and the saturating counts of R58. -/
namespace Sys2Proof

/-- The `n` low bytes of `v`, the lowest first. -/
def leBytes : Nat → Nat → Bytes
  | 0, _ => []
  | n + 1, v => BitVec.ofNat 8 v :: leBytes n (v / 256)

/-- The number that bytes spell, the lowest first. -/
def leNat : Bytes → Nat
  | [] => 0
  | b :: bs => b.toNat + 256 * leNat bs

/-- The number that bytes spell, the highest first. -/
def beNat (bs : Bytes) : Nat := leNat bs.reverse

/-- The `n` low bytes of `v`, the highest first. -/
def beBytes (n v : Nat) : Bytes := (leBytes n v).reverse

def p8 (v : Nat) : Bytes := leBytes 1 v
def p16 (v : Nat) : Bytes := leBytes 2 v
def p32 (v : Nat) : Bytes := leBytes 4 v
def p64 (v : Nat) : Bytes := leBytes 8 v

/-- `n` bytes of `bs` from offset `o`; bytes beyond the end read as 0. -/
def field (bs : Bytes) (o n : Nat) : Bytes :=
  let t := (bs.drop o).take n
  t ++ List.replicate (n - t.length) 0

/-- The little-endian number of `n` bytes at offset `o`. -/
def u (bs : Bytes) (o n : Nat) : Nat := leNat (field bs o n)

def u8 (bs : Bytes) (o : Nat) : Nat := u bs o 1
def u16 (bs : Bytes) (o : Nat) : Nat := u bs o 2
def u32 (bs : Bytes) (o : Nat) : Nat := u bs o 4
def u64 (bs : Bytes) (o : Nat) : Nat := u bs o 8

/-- Bit `i` of a number. -/
def bit (v i : Nat) : Bool := v.testBit i

/-- The number of bits `[lo + w - 1 : lo]` of `v`. -/
def bits (v lo w : Nat) : Nat := v / 2 ^ lo % 2 ^ w

def b2n (b : Bool) : Nat := if b then 1 else 0

/-- Bytes that are all zero. -/
def allZero (bs : Bytes) : Bool := bs.all (· == 0)

/-- The bytes of text, one a character. -/
def ascii (t : String) : Bytes := t.toList.map fun c => BitVec.ofNat 8 c.toNat

/-- A count that sticks at its largest value, with its OVF bit (R58, HPC_TORNCNT). -/
structure SatCount where
  count : BitVec 31 := 0
  ovf : Bool := false
  deriving DecidableEq, Repr

/-- One more event on a saturating count: OVF is set where the count comes to its largest value, at which it stays. -/
def SatCount.inc (c : SatCount) : SatCount :=
  let n := if c.count = BitVec.allOnes 31 then c.count else c.count + 1
  { count := n, ovf := c.ovf || n = BitVec.allOnes 31 }

/-- Writing 1 to OVF clears OVF and COUNT. -/
def SatCount.w1c (c : SatCount) (v : Word) : SatCount :=
  if v.getLsbD 31 then { count := 0, ovf := false } else c

/-- The register's value: COUNT in [30:0], OVF in [31]. -/
def SatCount.word (c : SatCount) : Word := BitVec.ofNat 32 (c.count.toNat + 2 ^ 31 * b2n c.ovf)

end Sys2Proof
end

