-- ==== Sys2Proof/Machine/OperandTypes.lean ====
section
/-! DEFINITION. The operand records that commands carry: host frames, device answers, messages. -/
namespace Sys2Proof

/-- The command states of a host port (R31). -/
inductive CmdState where
  | s1 | s4 | d8
  deriving DecidableEq, Repr

/-- Where in a host frame the select rises (Table 2.9). -/
inductive FrameEnd where
  /-- after whole data units, or for a frame without a data phase after its last edge -/
  | whole
  /-- in the command phase -/
  | inCommand
  /-- in the address phase -/
  | inAddress
  /-- in the mode or dummy phase, after the whole address -/
  | inDummy
  /-- within a data unit -/
  | partialUnit
  /-- after extra clocks that the frame's shape does not have -/
  | extraClocks
  deriving DecidableEq, Repr

/-- One host frame, from select fall to select rise (or with the select still low), as the lanes carry it. -/
structure Frame where
  port : Host24
  /-- the byte the lanes carry in the command phase, in the port's own command state (R53) -/
  lead : Byte := 0
  /-- the second command byte of an 8D frame (R32) -/
  inverse : Byte := 0
  addr : Word := 0
  /-- the mode byte M (R34) -/
  mode : Byte := 0
  /-- the data phase of a program, write or mailbox write, a CRC byte included -/
  data : Bytes := []
  ending : FrameEnd := .whole
  /-- data bytes that the host clocks out in a read's data phase -/
  want : Nat := 0
  /-- of the bytes that come from flash, how many are in the line buffer when they are due (R36) -/
  avail : Nat := 0
  /-- the host stops SCK when HPn_RDY is low (R38) -/
  honoursRdy : Bool := true
  /-- the select stays low after the last byte clocked (Table 2.9, last row) -/
  keepsSelect : Bool := false
  /-- what the lanes carry where an armed port takes an address and a mode byte (R53) -/
  laneAddr : Word := 0
  laneMode : Byte := 0
  deriving DecidableEq, Repr

/-- What a device answers during discovery (R94, R95). -/
structure DeviceAnswers where
  idBytes : Bytes := []
  /-- a valid SFDP table, one that declares all that the select's MODE needs, and its density -/
  sfdp : Bool := false
  sfdpComplete : Bool := false
  densityMbit : Nat := 0
  /-- the two reads of the label, 32 bytes each -/
  label : Bytes := []
  label2 : Bytes := []
  deriving DecidableEq, Repr

/-- What a device's status tells when an operation completes (Table 4.8). -/
inductive DevStatus where
  | ok | programFail | eraseFail | uncorrectable | atThreshold
  /-- a queue parity error: 0 out, 1 capture, 2 in (Table 18.9) -/
  | parity (queue : Fin 3)
  deriving DecidableEq, Repr

/-- A copy location chosen by the Registrar (Table 5.1). -/
structure CopyLoc where
  chan : Chan
  sel : Sel
  dpage : BitVec 24
  deriving DecidableEq, Repr

/-- A NOR page of a WRITABLE extent that fails its CRC in the power-up scan (R157). -/
structure TornPage where
  host : Host24
  vpage : Nat
  /-- false COPY0, true COPY1 -/
  copy1 : Bool
  deriving DecidableEq, Repr

/-- The kinds of master of Table 14.2. -/
inductive Master where
  | host (n : Host24)
  | mgpPriv
  | mgpUser
  | debug
  | dataPath
  /-- DGC, SIG, PLC, PAT, ARC, NET, RNG in the order of their IDs 0x31 to 0x37 -/
  | hw (n : Fin 7)
  deriving DecidableEq, Repr

/-- A received DDP message: port, sender's address (6 bytes, R308) and the message. -/
structure DdpIn where
  port : NetPort
  addr : Bytes
  bytes : Bytes
  deriving DecidableEq, Repr

/-- Who makes a dictionary write or read: a session by its number, or a role on no session (1 to 4, 0 for none). -/
structure Caller where
  session : Nat
  role : Nat
  deriving DecidableEq, Repr

/-- What a cold start meets: known-answer tests that fail (core, algorithm), blocks that do not load (BLOCK_ID and the cause of
EV 0x0301), generations whose directory is not whole, copies of the activation record and of the boot record that are not
whole, and firmware slots with an unreadable page. -/
structure ColdStart where
  kat : List (Nat × Nat) := []
  badBlocks : List (Nat × Nat) := []
  badDirs : List Word := []
  badRec0 : Bool := false
  badRec1 : Bool := false
  bootRecord : Bool := true
  badSlots : List Nat := []
  deriving DecidableEq, Repr

/-- A background job that waits: its rank of Table 12.5, its class, and the host it is tied to. -/
structure JobOffer where
  rank : Nat
  cls : Nat
  host : Option Host24
  deriving DecidableEq, Repr

/-- A frame on a CAN port: 11-bit identifier, FD or classical format, and data field. Extended-format and remote frames are no
frames of this kind (Table 10.1). -/
structure CanFrame where
  id : BitVec 11
  fd : Bool
  data : Bytes
  deriving DecidableEq, Repr

/-- A frame on a T1S port, or a beacon that the port did not send. -/
structure T1sFrame where
  dst : Bytes
  src : Bytes
  etherType : Half
  payload : Bytes
  fcsOk : Bool
  foreignBeacon : Bool
  deriving DecidableEq, Repr

/-- Names a transfer: its session (0 for a sessionless read, which port and address tell apart) and its XID. -/
structure XferKey where
  session : Nat
  port : NetPort
  addr : Bytes
  xid : Nat
  deriving DecidableEq, Repr

/-- The fault confinement states of a CAN port (R298). -/
inductive CanErrState where
  | active | passive | busOff
  deriving DecidableEq, Repr

end Sys2Proof
end

