-- ==== Sys2Proof/Syntax.lean ====
section
/-! DEFINITION. The commands of the block: one constructor of `Instr` per row of spec/opcode_table.json. What a device, a host
or a partner answers, and what had come in time, is an operand of the command that reports it. -/
namespace Sys2Proof

/-- The commands of the block: one constructor per row of the opcode table, in the table's order, but for
fifteen without operands that stand last (Lean compiles no use of a constructor with operands past the 244th). -/
inductive Instr where
  /-- READ (R33): Host frame with opcode 0x03: a read with no dummy clocks, served page by page as the clauses allow. -/
  | read (f : Frame)
  /-- READ4 (R33): Host frame with opcode 0x13: a read with a 4-byte address and no dummy clocks. -/
  | read4 (f : Frame)
  /-- FAST (R33): Host frame with opcode 0x0B: a fast read whose dummy count comes from the Timetable. -/
  | fast (f : Frame)
  /-- FAST4 (R33): Host frame with opcode 0x0C: a fast read with a 4-byte address. -/
  | fast4 (f : Frame)
  /-- DUAL_IO (R34): Host frame with opcode 0xBC: a dual I/O read whose mode byte can arm continuous read. -/
  | dualIo (f : Frame)
  /-- QUAD_IO (R34): Host frame with opcode 0xEC: a quad I/O read whose mode byte can arm continuous read. -/
  | quadIo (f : Frame)
  /-- OCTAL_IO (R33): Host frame with opcode 0xCC: an octal I/O read. -/
  | octalIo (f : Frame)
  /-- DDR_READ (R32): Host frame with opcode 0xEE: a DDR read in the 4S or 8D command state. -/
  | ddrRead (f : Frame)
  /-- CONT_READ_FRAME (R53): Address-first host frame decoded while continuous read is armed, and matched in the span of the arming opcode. -/
  | contReadFrame (f : Frame)
  /-- PP4 (R49): Page program 0x12, which commits at select release only if the frame is whole and WEL is set. -/
  | pp4 (f : Frame)
  /-- PP (R49): Page program 0x02 in the 1S command state. -/
  | pp (f : Frame)
  /-- SE4K4 (R48): Erase of a 4 KiB block, opcode 0x21, judged against the clauses as a whole block. -/
  | se4k4 (f : Frame)
  /-- SE4K (R48): Erase of a 4 KiB block, opcode 0x20, at the current address width. -/
  | se4k (f : Frame)
  /-- BE64K4 (R48): Erase of a 64 KiB block, opcode 0xDC. -/
  | be64k4 (f : Frame)
  /-- BE64K (R48): Erase of a 64 KiB block, opcode 0xD8. -/
  | be64k (f : Frame)
  /-- ERASE_ALL (R74): Erase-all 0xC7, which erases every range that the span's clauses permit this host to erase. -/
  | eraseAll (f : Frame)
  /-- WREN (R45): Write Enable 0x06 sets WEL. -/
  | wren (f : Frame)
  /-- WRDI (R45): Write Disable 0x04 clears WEL. -/
  | wrdi (f : Frame)
  /-- RDSR (R43): Read Status Register 0x05 returns a fresh sample of WIP and WEL with each byte. -/
  | rdsr (f : Frame)
  /-- RDFSR (R44): Read Flag Status 0x70 returns READY, ERASE_ERR, PROG_ERR and PROT. -/
  | rdfsr (f : Frame)
  /-- CLFSR (R44): Clear Flag Status 0x50 clears bits 5, 4 and 1 of the flag status. -/
  | clfsr (f : Frame)
  /-- WRSR (R43): Write Status Register 0x01 changes nothing and clears WEL. -/
  | wrsr (f : Frame)
  /-- WRMR (R31): Write Mode Register 0x81 changes the command state at select release, or is refused. -/
  | wrmr (f : Frame)
  /-- RDMR (R31): Read Mode Register 0x85 returns the mode register byte. -/
  | rdmr (f : Frame)
  /-- EN4B (R33): Opcode 0xB7 switches the 1S address mode to 4 bytes. -/
  | en4b (f : Frame)
  /-- EX4B (R33): Opcode 0xE9 switches the 1S address mode to 3 bytes. -/
  | ex4b (f : Frame)
  /-- RDID (R50): Read ID 0x9F returns the ID bytes from the Timetable header, then 0x00. -/
  | rdid (f : Frame)
  /-- RDSFDP (R50): Read SFDP 0x5A returns the SFDP tables generated from the committed Timetable. -/
  | rdsfdp (f : Frame)
  /-- RSTEN (R31): Reset Enable 0x66 arms the soft reset. -/
  | rsten (f : Frame)
  /-- RST (R47): Reset 0x99 right after Reset Enable: returns to 1S, clears WEL, disarms continuous read and discards prefetch. -/
  | rst (f : Frame)
  /-- DP (R33): Power down 0xB9 is accepted and does nothing. -/
  | dp (f : Frame)
  /-- RES (R33): Release from power down 0xAB is accepted and does nothing. -/
  | res (f : Frame)
  /-- MBW (R59): Mailbox write writes whole words to HPW registers at select release. -/
  | mbw (f : Frame)
  /-- MBR (R59): Mailbox read returns a frame status byte and then HPW bytes from the given offset. -/
  | mbr (f : Frame)
  /-- UNKNOWN_OPCODE (R33): A frame whose opcode is unrecognised is ignored until select release and sets DENIED. -/
  | unknownOpcode (f : Frame)
  /-- RDY_TIMEOUT (R39): HPn_RDY low beyond HPC_RDY_TMO: the port raises RDY and drives fill for the rest of the frame. -/
  | rdyTimeout (h : Host24)
  /-- NATIVE_TIMEOUT (R41): READY still 0 after HPC_RDY_TMO: the port sends ERR and drives fill for the rest of the frame. -/
  | nativeTimeout (h : Host24)
  /-- LINE_BUFFER_FILLED (R37): The next byte a host frame needs arrives in the line buffer, so RDY rises or data follows. -/
  | lineBufferFilled (h : Host24) (n : Nat)
  /-- PREFETCH_FILL_DONE (R106): A prefetch fill completes, and the buffer becomes valid once the page CRC has matched. -/
  | prefetchFillDone (h : Host24) (crcOk : Bool)
  /-- WRITE_DURABLE (R145): Every required destination of a write is durable, so WIP clears. -/
  | writeDurable (h : Host24)
  /-- HPW_MB_GO (R63): GO copies the mailbox request into the controller and marks it PENDING. -/
  | hpwMbGo (h : Host24) (v : Word)
  /-- HPW_ATTN_WRITE (R62): A write to HPW_ATTN clears causes or sets enables, and HCn_ATTN is recomputed. -/
  | hpwAttnWrite (h : Host24) (v : Word)
  /-- HPW_LTV_WRITE (R357): A host writes its latency tolerance, and T_min changes in the next core cycle. -/
  | hpwLtvWrite (h : Host24) (v : Word)
  /-- HPW_HEALTH_WRITE (R248): A host writes its health token, which can meet its Trial condition. -/
  | hpwHealthWrite (h : Host24) (v : Word)
  /-- HPW_STAT_CLEAR (R61): Writing 1s to HPW_STAT bits [8:0] clears them in HPC_STAT. -/
  | hpwStatClear (h : Host24) (v : Word)
  /-- ARCHIVE_APPEND (R267): Mailbox service 0x01 appends host records to the archive. -/
  | archiveAppend (h : Host24)
  /-- CARD_MAKE (R287): Service 0x02 OP 0 makes a signed or HMAC Report card for the host. -/
  | cardMake (h : Host24)
  /-- CARD_READ (R287): Service 0x02 OP 1 returns part of the host's newest card. -/
  | cardRead (h : Host24)
  /-- COUNTER_INCREMENT (R389): Service 0x03 increments the host's own counter. -/
  | counterIncrement (h : Host24)
  /-- COUNTER_READ (R389): Service 0x04 returns a counter value. -/
  | counterRead (h : Host24)
  /-- KEYED_DIGEST (R216): Service 0x05 computes an HMAC with a key slot over inline or flash data. -/
  | keyedDigest (h : Host24)
  /-- PLAIN_DIGEST (R216): Service 0x06 computes a hash over inline or flash data. -/
  | plainDigest (h : Host24)
  /-- EVENT_LOG_READ (R489): Service 0x07 returns event records from FROM onward. -/
  | eventLogRead (h : Host24)
  /-- TIME_READ (R64): Service 0x08 returns UTC and the time base sampled together. -/
  | timeRead (h : Host24)
  /-- ARCHIVE_READ (R278): Service 0x09 returns archive records from FROM onward. -/
  | archiveRead (h : Host24)
  /-- KEY_SLOT_STATUS_READ (R384): Service 0x0A returns the status of one key slot or of all slots. -/
  | keySlotStatusRead (h : Host24)
  /-- MAILBOX_SERVICE_DONE (R63): A pending mailbox service completes: the response is written, then DONE and MB_DONE are set. -/
  | mailboxServiceDone (h : Host24)
  /-- TTB_READY_WRITE (R84): A write to TTB_READY declares a host's inactive bank ready, unless its PEND bit is set. -/
  | ttbReadyWrite (v : Word)
  /-- TTB_COMMIT (R85): TTB_COMMIT flips the named hosts' active banks in one cycle if all are READY, or sets REFUSED. -/
  | ttbCommit (v : Word)
  /-- TT_SWITCH_POINT (R85): At a port's switch point the new Timetable is loaded, EPOCH is set and prefetch is discarded. -/
  | ttSwitchPoint (h : Host24)
  /-- PEND_LONG (R86): A PEND bit set beyond TTB_PEND_TMO sets PEND_LONG and logs EV 0x0127. -/
  | pendLong (h : Host24)
  /-- SELECT_DISCOVERY (R94): The channel discovers a select through reset, ID, SFDP, mode setup and label read. -/
  | selectDiscovery (c : Chan) (k : Sel) (a : DeviceAnswers)
  /-- RETIRE (R122): Channel command 0x01 marks a select RETIRING, and the Registrar moves its copies off. -/
  | retire (c : Chan) (k : Sel)
  /-- RETIRE_COMPLETE (R122): A RETIRING select with no copies left becomes RETIRED. -/
  | retireComplete (c : Chan) (k : Sel)
  /-- PARK (R122): Channel command 0x02 parks every select and puts the pins at park levels. -/
  | park (c : Chan)
  /-- UNPARK (R122): Channel command 0x03 releases park and runs discovery on every select. -/
  | unpark (c : Chan)
  /-- ADMIT (R123): Channel command 0x04 scans, erases and labels a select. -/
  | admitSelect (c : Chan) (k : Sel) (factoryBad : List Nat)
  /-- ADMIT_COMPLETE (R123): The label of an ADMIT is written and read back, and the select becomes READY. -/
  | admitComplete (c : Chan) (k : Sel) (labelOk : Bool)
  /-- TRANSFER_START (R115): A channel starts the next request that its slot and the service order allow. -/
  | transferStart (c : Chan)
  /-- TRANSFER_CUT (R100): A higher-row request cuts a running transfer at its next cut point. -/
  | transferCut (c : Chan) (bytes : Nat)
  /-- STATUS_POLL (R98): The channel polls the status of a select with an outstanding operation every POLL_NS. -/
  | statusPoll (c : Chan)
  /-- DEVICE_OPERATION_COMPLETE (R102): The device status shows that a program, erase or page read has completed. -/
  | deviceOperationComplete (c : Chan) (k : Sel) (st : DevStatus)
  /-- PAGE_READ_DONE (R106): A whole-page read completes and its page CRC is checked. -/
  | pageReadDone (c : Chan) (k : Sel) (crcOk : Bool)
  /-- COMMAND_TIMEOUT (R108): No completion within twice the maximum time: the device is reset and the command retried. -/
  | commandTimeout (c : Chan) (k : Sel) (idSame : Bool)
  /-- FC_RDY_RISE (R102): A rise of FCc_RDY makes the channel poll every busy select. -/
  | fcRdyRise (c : Chan)
  /-- FC_RDY_TIMEOUT (R102): FCc_RDY low beyond FCC_RDY_TMO sets RDY_TIMEOUT, and the channel polls without it. -/
  | fcRdyTimeout (c : Chan)
  /-- BELL_SLOT_BOUNDARY (R114): Every 2 µs of time base a new Bell slot governs what is started and cut. -/
  | bellSlotBoundary
  /-- FCC_BELL_READY_WRITE (R120): Setting FCC_BELL.READY declares the inactive Bell schedule checked. -/
  | fccBellReadyWrite (c : Chan) (v : Bool)
  /-- FCC_BELL_COMMIT (R119): A write to FCC_BELL_COMMIT requests a commit of the named channels at the next cycle boundary. -/
  | fccBellCommit (v : Word)
  /-- BELL_COMMIT_TAKE_EFFECT (R119): At the cycle boundary the named channels flip banks and load their registers. -/
  | bellCommitTakeEffect
  /-- RELOCATION_START (R151): A relocation is admitted: its record is written and the entry is committed with MOVING set. -/
  | relocationStart (h : Host24) (e : Nat) (target : CopyLoc) (replaces : Fin 3) (fold : Bool)
  /-- RELOCATION_PAGE_COPIED (R151): A page is durable on the TARGET, and COPIED advances. -/
  | relocationPageCopied (h : Host24) (e : Nat)
  /-- RELOCATION_COMMIT (R151): With every page copied and no write pending, the new mapping is recorded and committed. -/
  | relocationCommit (h : Host24) (e : Nat)
  /-- CHECKPOINT_DONE (R155): Both checkpoint copies are durable, and the registry root block is switched. -/
  | checkpointDone
  /-- RELOCATION_DRAIN_DONE (R152): No transfer uses the old run any more, so it and the relocation record are freed. -/
  | relocationDrainDone (h : Host24) (e : Nat)
  /-- RELOCATION_DEADLINE (R153): A waited-on relocation passes RELOC_DEADLINE_S and becomes overdue. -/
  | relocationDeadline (h : Host24) (e : Nat)
  /-- PLC_DISCARD_WRITE (R149): Setting a PLC_DISCARD bit stops the host's shadows overlaying and starts their discard. -/
  | plcDiscardWrite (v : Word)
  /-- SHADOW_DISCARD_DONE (R149): All of a host's discarded shadows are free, and hardware clears its PLC_DISCARD bit. -/
  | shadowDiscardDone (h : Host24)
  /-- STG_WAIT_TIMEOUT (R150): A write waiting for staging space passes STG_WAIT_MS and becomes unrecoverable. -/
  | stgWaitTimeout (h : Host24)
  /-- JOURNAL_SPACE_AVAILABLE (R150): Folds free staging space, and a waiting write proceeds. -/
  | journalSpaceAvailable (h : Host24)
  /-- REGISTRAR_POWER_UP (R156): After discovery the Registrar replays the registry, rebuilds the journal index and scans writable NOR copies. -/
  | registrarPowerUp (torn : List TornPage)
  /-- SCAN_COMPLETE (R156): The power-up steps finish, and SCANNING clears. -/
  | scanComplete
  /-- STEADY_EXIT (R161): Every Steady condition has been clear for 10 s, so Steady mode ends. -/
  | steadyExit
  /-- PLACEMENT_RELEASE (R164): Command 0x01 of 0x2600.20 releases a dormant or staged extent. -/
  | placementRelease (h : Host24) (e : Nat)
  /-- PLACEMENT_RECREATE (R164): Command 0x02 of 0x2600.20 recreates a lost extent, erased. -/
  | placementRecreate (h : Host24) (e : Nat)
  /-- POWER_ON (R178): Host command POWER_ON takes a host from Off to Held. -/
  | powerOn (who : Caller) (h : Host24)
  /-- POWER_OFF (R178): Host command POWER_OFF asserts reset, discards shadows and powers the host off. -/
  | powerOff (who : Caller) (h : Host24)
  /-- HOLD (R178): Host command HOLD returns a host to Held and runs selection again. -/
  | hold (who : Caller) (h : Host24)
  /-- RETRY (R178): Host command RETRY takes a host out of Detention for a new selection. -/
  | retry (who : Caller) (h : Host24)
  /-- SETTLE_MS_ELAPSED (R177): SETTLE_MS has passed since HCn_PWREN rose. -/
  | settleMsElapsed (h : Host24)
  /-- IMAGE_SELECTION (R173): The controller tries the host's candidate slots in order against the checks of Table 6.3. -/
  | imageSelection (h : Host24)
  /-- HOST_RELEASE (R177): A candidate that passed checks 1 to 6 is released On Hall pass, measured, or released to Running or Trial. -/
  | hostRelease (h : Host24)
  /-- BLOCK_VERIFIED (R180): A block digest job completes and is compared in hardware with its list entry. -/
  | blockVerified (h : Host24) (b : Nat) (readable : Bool)
  /-- HALL_RELEASE (R186): After the pending write is durable, the shadows commit, the host becomes Running and egress rises. -/
  | hallRelease (h : Host24)
  /-- SWEEP_DEADLINE (R185): The Hall-pass deadline passes, so the host returns to Measuring. -/
  | sweepDeadline (h : Host24)
  /-- KEY_REVOKE (R189): A write to 0x2701.01 records a key slot as revoked and applies its revocation mode. -/
  | keyRevoke (who : Caller) (k : Byte)
  /-- DGC_SUBMIT (R197): A descriptor is submitted, checked and queued, or refused. -/
  | dgcSubmit (m : Master) (a : Word)
  /-- DGC_RES_REL (R214): Releasing a DONE result set clears it and frees it. -/
  | dgcResRel (m : Master) (k : Fin 64)
  /-- DGC_ABORT (R214): An abort removes a queued job, or stops a running one at its next block boundary. -/
  | dgcAbort (m : Master) (k : Fin 64)
  /-- DGC_RES_DIN (R206): A DIN write feeds four message bytes to a PUSH job. -/
  | dgcResDin (m : Master) (k : Fin 64) (v : Word)
  /-- DGC_LASTW (R208): A DGC_LASTW write ends a KR1208-mode message. -/
  | dgcLastw (m : Master) (k : Fin 64) (v : Word)
  /-- JOB_START (R198): A waiting job starts on the lowest free core it may use. -/
  | jobStart (kat : List (Nat × Nat))
  /-- JOB_COMPLETE (R213): A digest job ends, and its result set is written and marked DONE. -/
  | jobComplete (k : Fin 64)
  /-- JOB_STALL (R207): A job waiting for data passes STALL_MS and ends with LENGTH_SHORT. -/
  | jobStall (k : Fin 64)
  /-- SIG_VERIFY_START (R220): SIG_VCMD.START starts an HSS verification. -/
  | sigVerifyStart
  /-- SIG_VERIFY_ABORT (R220): SIG_VCMD.ABORT ends a verification with ABORTED. -/
  | sigVerifyAbort
  /-- SIG_VERIFY_DONE (R221): A verification ends with its outcome reported in SIG_VSTAT. -/
  | sigVerifyDone
  /-- BUNDLE_PIECE (R237): A bundle piece written to 0x2801 is made durable, and the resume offset advances. -/
  | bundlePiece (who : Caller) (data : Bytes)
  /-- CHECKING_COMPLETE (R242): Checking ends, and the bundle is STAGED or rejected. -/
  | checkingComplete (writeErr : Option Nat)
  /-- ACTIVATE (R244): Command 1 of 0x2802.01 starts activation, or is refused. -/
  | activate (who : Caller)
  /-- DISCARD (R235): Command 2 of 0x2802.01 releases the bundle and the STAGED extents. -/
  | discard (who : Caller)
  /-- ABANDON (R255): Command 3 of 0x2802.01 reverts a Trial with reason ABANDONED. -/
  | abandon (who : Caller)
  /-- ACTIVATION (R245): Once the activation conditions hold, the new record and ACT_WORD are written and the roll-forward runs. -/
  | activation
  /-- ACT_WAIT_TIMEOUT (R244): ACT_WAIT_S passes before the activation conditions hold, so the Syllabus stays STAGED. -/
  | actWaitTimeout
  /-- TRIAL_DEADLINE (R247): The Trial deadline passes without confirmation. -/
  | trialDeadline
  /-- CONFIRMATION (R250): With the conditions met, writes are held, the CONFIRMED record committed and shadows committed. -/
  | confirmation
  /-- PAT_START (R233): PAT_CMD.START builds the target that PAT_JOB describes. -/
  | patStart
  /-- PAT_ABORT (R234): PAT_CMD.ABORT stops the build at the next output page. -/
  | patAbort
  /-- PAT_DONE (R233): A patch build ends with its outcome in PAT_STAT. -/
  | patDone (pages : Nat) (writeErr : Bool)
  /-- ARCHIVE_CREATE (R259): CREATE appends GENESIS, seals Term 0 and opens Term 1. -/
  | archiveCreate (who : Caller)
  /-- SEAL_NOW (R271): Command 2 of 0x2902.01 ends the open Term. -/
  | sealNow (who : Caller)
  /-- TERM_BOUNDARY (R271): The Term reaches its UTC or time-base boundary, or its limit. -/
  | termBoundary
  /-- SEAL_COMPUTE (R275): A closed Term is sealed when the budget admits it, and the seal is stored twice. -/
  | sealCompute
  /-- PAGE_FLUSH_DONE (R266): Both copies of a closed archive page are durable, and its tail buffer is freed. -/
  | pageFlushDone
  /-- PARTNER_APPEND (R268): A partner append written to 0x2905 makes records with SRC 0x81. -/
  | partnerAppend (who : Caller) (data : Bytes)
  /-- EXPORT_ACK (R277): An export acknowledgement to 0x2903 advances ACKED_UPTO, or is rejected. -/
  | exportAck (who : Caller) (data : Bytes)
  /-- PAGE_SELECT (R279): A write to 0x2907 selects the archive page that 0x2908 returns. -/
  | pageSelect (who : Caller) (n : Word)
  /-- TERM_SELECT (R279): A write to 0x2909 selects the seal that 0x290A returns. -/
  | termSelect (who : Caller) (n : Word)
  /-- CARD_REQUEST (R288): A partner requests a Report card through 0x2920. -/
  | cardRequest (who : Caller) (data : Bytes)
  /-- UTC_SET (R273): A write to 0x3000.02 appends TIME_STEP, then steps UTC, possibly closing the Term. -/
  | utcSet (who : Caller) (v : DWord)
  /-- SIG_SCMD_START (R282): SIG_SCMD.START reserves an index and makes an identity signature. -/
  | sigScmdStart
  /-- SIGNATURE_DONE (R282): An identity signature completes and is written out. -/
  | signatureDone
  /-- PACE_TOKEN_REFILL (R284): A signing pace token is added to the bucket. -/
  | paceTokenRefill
  /-- CAN_FRAME_RECEIVED (R300): A CAN frame in a DDP range is received, filtered and buffered. -/
  | canFrameReceived (k : Fin 4) (f : CanFrame)
  /-- T1S_FRAME_RECEIVED (R301): A 10BASE-T1S frame for the port is received and buffered. -/
  | t1sFrameReceived (k : Fin 4) (f : T1sFrame)
  /-- ROLLCALL (R308): A received ROLLCALL makes or refreshes a partner table entry. -/
  | rollcall (m : DdpIn)
  /-- OPEN_REQ (R310): OPEN_REQ is answered with OPEN_CHAL and a half-open session, or refused. -/
  | openReq (m : DdpIn)
  /-- OPEN_PROOF (R315): OPEN_PROOF opens the session with OPEN_OK, or fails and frees it. -/
  | openProof (m : DdpIn)
  /-- CLOSE (R315): CLOSE from the partner frees the session. -/
  | close (m : DdpIn)
  /-- REQ_READ (R316): A READ request returns a snapshot of an entry, or starts a segmented read. -/
  | reqRead (m : DdpIn)
  /-- REQ_WRITE (R318): A WRITE request is checked and takes effect as one action. -/
  | reqWrite (m : DdpIn)
  /-- REQ_NOP (R316): A NOP request is answered with an empty RSP and keeps the session alive. -/
  | reqNop (m : DdpIn)
  /-- SEG_INIT (R319): SEG_INIT opens a segmented transfer and is answered with a grant. -/
  | segInit (m : DdpIn)
  /-- SEG_DATA (R320): A segment is resolved and held, ignored, compared or rejected. -/
  | segData (m : DdpIn)
  /-- SEG_ACK (R321): A SEG_ACK from the partner advances or repairs a segmented read. -/
  | segAck (m : DdpIn)
  /-- SEG_END (R323): SEG_END is checked, and the transfer commits or aborts. -/
  | segEnd (m : DdpIn)
  /-- ABORT (R324): An ABORT from the partner ends a transfer, and nothing is committed. -/
  | abort (m : DdpIn)
  /-- ROLLCALL_INTERVAL (R307): Every ROLLCALL_S the controller sends a ROLLCALL query on each enabled port. -/
  | rollcallInterval
  /-- HALF_OPEN_TIMEOUT (R315): A half-open session passes 2 s and is freed. -/
  | halfOpenTimeout (k : Nat)
  /-- SESSION_IDLE_TIMEOUT (R315): An open session passes IDLE_S without a message and closes with cause 2. -/
  | sessionIdleTimeout (k : Nat)
  /-- GAP_ACK_TIMER (R321): 50 ms after a segment above a gap, the receiver sends SEG_ACK. -/
  | gapAckTimer (t : XferKey)
  /-- TRANSFER_RETRANSMIT_TIMER (R322): 500 ms without progress makes a resend or acknowledgement, and the ninth aborts. -/
  | transferRetransmitTimer (t : XferKey)
  /-- LOCKOUT_EXPIRY (R314): An address's 60 s lockout ends. -/
  | lockoutExpiry (p : NetPort) (addr : Bytes)
  /-- APPLY (R331): Command 1 of 0x1110.10 schedules the stored communication block. -/
  | apply (who : Caller)
  /-- APPLY_TAKE_EFFECT (R331): 1 s after APPLY, the changed ports close their sessions and take the new parameters. -/
  | applyTakeEffect
  /-- APPLY_VALIDATION_TIMEOUT (R331): No session opened on a changed port within 120 s, so the parameters revert. -/
  | applyValidationTimeout
  /-- KEY_DERIVATION (R328): A derivation request written to 0x1210 derives a new role key in place. -/
  | keyDerivation (who : Caller) (data : Bytes)
  /-- TIMETABLE_WRITE (R340): A Timetable image written to 0x2400 + n is checked, then stored and committed. -/
  | timetableWrite (who : Caller) (h : Host24) (data : Bytes)
  /-- BELL_SCHEDULE_WRITE (R341): A Bell schedule written to 0x2500 + c, .01 is checked, stored and committed. -/
  | bellScheduleWrite (who : Caller) (c : Chan) (data : Bytes)
  /-- GATE_SET_WRITE (R411): A gate set written to 0x2A00 is checked and stored for the next firmware start. -/
  | gateSetWrite (who : Caller) (data : Bytes)
  /-- COUNTER_ADVANCE (R342): A write to 0x2C01 advances a counter to VALUE. -/
  | counterAdvance (who : Caller) (data : Bytes)
  /-- NVC_WRITE (R352): NVC_CMD.WRITE starts an NV word write, unless NVC is busy. -/
  | nvcWrite
  /-- NV_WORD_WRITE_DONE (R352): An NV word write completes and is read back. -/
  | nvWordWriteDone (ok : Bool)
  /-- POWER_STATE_ENTRY (R360): The entry conditions of a deeper permitted state have held for its dwell, so it is entered. -/
  | powerStateEntry (p : Fin 5)
  /-- P1_EXIT (R362): A P1 event, such as traffic at 6.4 GB/s, returns the controller to P0. -/
  | p1Exit
  /-- HOST_SELECT_WAKE (R362): A falling HPn_CS_N wakes the controller from P3 while RDY stretches the frame. -/
  | hostSelectWake (h : Host24)
  /-- NETWORK_WAKE (R362): Activity on a network port wakes the controller from P3 or P4. -/
  | networkWake (k : NetPort)
  /-- WAKE_TIMER (R363): The always-on wake timer expires and wakes the controller. -/
  | wakeTimer
  /-- JOB_ADMISSION (R367): A free background master takes the highest-ranked job that fits the bucket. -/
  | jobAdmission (offers : List JobOffer)
  /-- SENSOR_SAMPLE (R368): The junction sensors are sampled, and T_max and R_eff are updated. -/
  | sensorSample (a : Option Int) (b : Option Int) (c : Option Int) (d : Option Int)
  /-- HOLDUP_SAMPLE (R427): HOLDUP_SENSE and VBAK_SENSE are sampled, and the stored energy is updated. -/
  | holdupSample (vBall : Nat) (vbak : Nat)
  /-- KEY_LOAD (R379): KEY_CMD with OP = LOAD writes a key into a slot. -/
  | keyLoad (m : Master) (k : Fin 64)
  /-- KEY_GENERATE (R380): KEY_CMD with OP = GENERATE starts creating the identity key. -/
  | keyGenerate (m : Master) (k : Fin 64)
  /-- GENERATE_DONE (R380): The identity key's top tree is built, and slot 0 becomes live. -/
  | generateDone
  /-- KEY_CMD_REVOKE (R382): KEY_CMD with OP = REVOKE writes the slot's revocation word. -/
  | keyCmdRevoke (m : Master) (k : Fin 64) (confirm : Half)
  /-- CTR_INCREMENT (R388): CTR_CMD op 1 increments a counter. -/
  | ctrIncrement (k : Fin 64)
  /-- CTR_ADVANCE (R388): CTR_CMD op 2 advances a counter to CTR_ARG. -/
  | ctrAdvance (k : Fin 64)
  /-- ENTROPY_BLOCK (R392): A block of 1,024 raw bits is collected and conditioned. -/
  | entropyBlock (raw : Bytes)
  /-- RNG_GEN_START (R225): RNG_GEN.START requests DRBG output. -/
  | rngGenStart
  /-- RNG_GEN_RESEED (R396): RNG_GEN.RESEED reseeds the DRBG first, exempt from the budget. -/
  | rngGenReseed (start : Bool)
  /-- DRBG_RESEED_DUE (R396): 24 h or 2^20 requests since the last reseed make a reseed due. -/
  | drbgReseedDue
  /-- DRBG_REQUEST_DONE (R225): A DRBG request completes with its output, or is refused. -/
  | drbgRequestDone
  /-- GATE_CLR (R409): GATE_CLR or 0x2A01 + g, .06 clears a gate's violation record. -/
  | gateClr (m : Master) (g : Fin 22)
  /-- GATE_REGION_WRITE (R407): A write to a region register, ignored when the region is locked or enabled. -/
  | gateRegionWrite (m : Master) (g : Fin 21) (k : Fin 8) (r : Fin 3) (v : Word)
  /-- LC_TRANSITION_REQUEST (R422): A transition request written to 0x2001 is checked and run. -/
  | lcTransitionRequest (who : Caller) (data : Bytes)
  /-- LCC_CMD (R422): LCC_CMD requests a transition from a JTAG provisioning session. -/
  | lccCmd (m : Master) (v : Word)
  /-- FUSE_WRITE_DONE (R426): The fuse group is programmed and decoded, and the new state is in force. -/
  | fuseWriteDone (a : Word) (b : Word) (c : Word) (d : Word)
  /-- DEBUG_CHALLENGE (R431): A read of 0x2003 issues a fresh debug unlock challenge. -/
  | debugChallenge (who : Caller)
  /-- DEBUG_RESPONSE (R431): An unlock response written to 0x2004 is checked and may open the debug master. -/
  | debugResponse (who : Caller) (data : Bytes)
  /-- DBG_LOCK (R432): DBG_CTRL.LOCK locks the debug master. -/
  | dbgLock
  /-- DBG_CLR_STICKY (R408): DBG_CTRL.CLR_STICKY clears the debug sticky error. -/
  | dbgClrSticky
  /-- DBG_CHAL (R431): DBG_CTRL.CHAL issues a JTAG-path challenge. -/
  | dbgChal
  /-- DBG_PROV_OPEN (R430): DBG_CTRL.PROV_OPEN opens a JTAG provisioning session. -/
  | dbgProvOpen
  /-- DBG_PROV_CLOSE (R430): DBG_CTRL.PROV_CLOSE closes the provisioning session. -/
  | dbgProvClose
  /-- DBG_RESPONSE_SUBMIT (R431): A write of DBG_RESP9 submits a JTAG-path unlock response. -/
  | dbgResponseSubmit (v : Word)
  /-- DEBUG_DURATION_EXPIRY (R432): DURATION_S elapses, and the debug master locks. -/
  | debugDurationExpiry
  /-- CHALLENGE_EXPIRY (R431): A challenge expires 300 s after it was issued. -/
  | challengeExpiry (session : Nat)
  /-- CHALLENGE_SUSPEND_END (R431): The 600 s suspension of challenges ends. -/
  | challengeSuspendEnd
  /-- EXTEST (R429): JTAG instruction EXTEST drives the pins, in Maker only. -/
  | extest
  /-- SAMPLE_PRELOAD (R429): JTAG instruction SAMPLE/PRELOAD selects the boundary-scan register. -/
  | samplePreload
  /-- IDCODE (R429): JTAG instruction IDCODE selects the ID register. -/
  | idcode
  /-- CLAMP (R429): JTAG instruction CLAMP holds the pins, in Maker only. -/
  | clamp
  /-- HIGHZ (R429): JTAG instruction HIGHZ floats the pins, in Maker only. -/
  | highz
  /-- DBGREG (R429): JTAG instruction DBGREG reaches the DBG registers directly. -/
  | dbgreg (off : Byte) (wr : Option Word)
  /-- DBGMEM (R429): A debug-master internal access through DBGMEM, judged by the gates. -/
  | dbgmem (a : Word) (wr : Option Word)
  /-- BYPASS (R429): JTAG instruction BYPASS selects the bypass register. -/
  | bypass
  /-- TAP_RESET (R471): TRST_N low or five TMS-high rises reset the TAP and close provisioning. -/
  | tapReset
  /-- TMP_CFG_WRITE (R509): A TMP_CFG write during provisioning stores the tamper configuration word. -/
  | tmpCfgWrite (m : Master) (v : Word)
  /-- POWER_ON_RESET (R471): First power, or VDD below retention, resets everything. -/
  | powerOnReset (burnt : List Word)
  /-- BROWN_OUT_VDD (R471): VDD below VDD_BOR makes a cold start. -/
  | brownOutVdd (burnt : List Word)
  /-- BROWN_OUT_VDDIO (R471): VDDIO below VDDIO_BOR makes a cold start. -/
  | brownOutVddio (burnt : List Word)
  /-- CLOCK_FAILURE (R459): A loss of lock on PLL_CORE or PLL_CH, or a REF failure, makes a cold start. -/
  | clockFailure (cause : Fin 3)
  /-- ROM_COLD_START (R442): On cold reset release the ROM runs its steps and hands over to verified firmware. -/
  | romColdStart (c : ColdStart)
  /-- SYS_RESTART_WARM (R452): SYS_RESTART with WARM restarts the management processor through the ROM's warm path. -/
  | sysRestartWarm (roll : Bool)
  /-- WDT_ENABLE (R447): SYS_WDT.EN enables the liveness watchdog. -/
  | wdtEnable (v : Word)
  /-- CWDT_OFF (R446): SYS_CWDT_OFF with its key disarms the confirmation watchdog. -/
  | cwdtOff (v : Word)
  /-- SYS_RLOAD (R450): SYS_RLOAD starts the checks of a recovery bundle placed in SRAM. -/
  | sysRload (m : Master) (v : Word)
  /-- RECOVERY_ACTIVATE (R450): ACTIVATE in recovery listen copies the firmware into bank 0 and hands over. -/
  | recoveryActivate (who : Caller)
  /-- CLK_UTC_SET (R476): A write to CLK_UTC_SET_HI sets UTC from both words. -/
  | clkUtcSet (v : Word)
  /-- EVL_RAISE (R491): A write to EVL_RAISE queues a firmware event. -/
  | evlRaise (v : Word)
  /-- SRAM_PATROL (R480): The patrol reads and corrects one SRAM beat every 4,096 core cycles. -/
  | sramPatrol (corrected : Nat) (unc : Option Nat)
  /-- TAMPER_CHANGE (R508): A debounced tamper input changes its active state. -/
  | tamperChange (k : Fin 8) (high : Bool)
  /-- HCS_PWREN_WRITE (R503): A write to HCS_PWREN powers hosts on, or starts powering them off. -/
  | hcsPwrenWrite (v : Word)
  /-- HCS_RUN_WRITE (R503): A write to HCS_RUN releases or asserts host resets. -/
  | hcsRunWrite (v : Word)
  /-- HCS_EGR_WRITE (R503): A write to HCS_EGR opens or closes host egress. -/
  | hcsEgrWrite (v : Word)
  /-- HCS_PEND_EXPIRY (R503): 1 ms after a power-off, HCn_PWREN falls. -/
  | hcsPendExpiry (h : Host24)
  /-- WRITE_REGISTER (R9): A write to a register with no row of its own acts as its access codes state. -/
  | writeRegister (m : Master) (a : Word) (v : Word)
  /-- CAN_ERROR_STATE_CHANGE (R298): A CAN port's fault confinement moves it between error active, error passive and bus off, including automatic recovery after 128 occurrences of 11 recessive bits. -/
  | canErrorStateChange (k : Fin 4) (st : CanErrState) (tec : Byte) (rec_ : Byte)
  /-- PLCA_STATUS_CHANGE (R301): A T1S port gains or loses PLCA beacons, and BEACON_OK and EV 0x0A0B change. -/
  | plcaStatusChange (k : Fin 4) (ok : Bool) (foreign : Bool)
  /-- FC_PWREN_DRIVEN_LOW (R499): 1 ms after a PARK takes effect, FCc_PWREN is driven low to switch off the channel's flash supply. -/
  | fcPwrenDrivenLow (c : Chan)
  /-- PORST_PIN (R471): PORST_N low for at least 1 µs makes a cold start. -/
  | porstPin
  /-- VDD_WARN (R474): VDD falls below VDD_WARN, so NVC starts no new word write. -/
  | vddWarn
  /-- SYS_RESTART_READY (R453): SYS_RESTART.READY ends the restart, so services and sweep deadlines resume. -/
  | sysRestartReady
  /-- WDT_KICK (R447): SYS_WDT.KICK restarts the watchdog count. -/
  | wdtKick
  /-- WDT_EXPIRY (R447): The liveness watchdog expires and restarts the processor warm. -/
  | wdtExpiry
  /-- CWDT_EXPIRY (R446): The confirmation watchdog expires and restarts warm, reverting a stalled Trial. -/
  | cwdtExpiry
  /-- PLL_NET_LOSS (R459): PLL_NET loses lock, stopping every NETk domain. -/
  | pllNetLoss
  /-- CLK_NETPLL_RELOCK (R476): CLK_NETPLL.RELOCK restarts PLL_NET. -/
  | clkNetpllRelock
  /-- X32_FAIL (R459): No X32 edge within 200 µs, so ALW moves to REF ÷ 763 and P4 is barred. -/
  | x32Fail
  /-- TIME_BASE_FLOOR_SAVE (R461): Every 60 s the firmware saves a time-base floor slot. -/
  | timeBaseFloorSave
  /-- EVENT_RECORD_WRITTEN (R485): A queued event is written to the ring, CRC last. -/
  | eventRecordWritten
  /-- VDD_WARN_CLEAR (R520): VDD rises back above VDD_WARN plus its hysteresis, and a word write held while VDD was low starts. -/
  | vddWarnClear
  /-- PLL_NET_RELOCKED (R459): PLL_NET locks again after a relock, and the NETk domains run again with EV 0x0C02 logged as relocked. -/
  | pllNetRelocked
  /-- X32_OK (R521): X32 edges first appear after power-on, so X32_OK sets and the always-on domain stops counting from REF and arms the X32 failure test. -/
  | x32Ok
  /-- DRBG_RESEED_FORCED (R396): A reseed that has waited 24 h after falling due, or that finds 2^23 requests since the last reseed, runs at once, exempt from the budget. -/
  | drbgReseedForced
  deriving DecidableEq, Repr

end Sys2Proof
end

