-- ==== Sys2Proof/Config.lean ====
section
/-! DEFINITION. What an implementation fixes or the spec leaves open: constants with no body, so that nothing can be
proved of their values. -/
namespace Sys2Proof.Config

/-- The n-th open choice of a run: where the spec lets the controller choose (which free run, which free page), the
choice is this number. -/
opaque choice : Nat → Nat

/-- The n-th conditioned entropy block that the source supplies within a command (R392). -/
opaque entropy : Nat → BitVec 256

/-- The n-th value that the spec leaves open after a command. -/
opaque freeWord : Nat → BitVec 64

/-- The n-th LM-OTS randomizer C (RFC 8554), whose source the spec does not state. -/
opaque randomizer : Nat → BitVec 256

/-- The code of the k-th value of an event parameter (a consumer, a cause, a source) whose coding the spec does not print. -/
opaque eventCode : Nat → Nat → BitVec 8

/-- What EVL_NEWEST and EVL_OLDEST read while the ring holds no record. -/
opaque emptyNewest : BitVec 64
opaque emptyOldest : BitVec 64

/-- UNIT_ID, written at manufacture (Table 11.2). -/
opaque unitId : BitVec 128

/-- Yalrath's two controller firmware verification keys, in slots 62 and 63 of a shipped unit (R529). -/
opaque firmwareKey : Nat → BitVec 480

/-- BODY_VER of the firmware (Table 11.11), and the indices that the envelope store gives its entries. -/
opaque bodyVer : BitVec 16
opaque storeIndex : Nat → Nat

/-- Pages that the registry and the firmware slots take on NAND or on NOR; the spec lets the firmware place them. -/
opaque controllerPages : Bool → Nat

/-- The bytes of the ROM, which the spec does not print. -/
opaque rom : Nat → BitVec 8

end Sys2Proof.Config
end

