-- ==== Sys2Proof/Machine/ArcTypes.lean ====
section
/-! DEFINITION. The state of the billing archive, the Report cards and identity signing (chapter 9). -/
namespace Sys2Proof.Machine

/-- An archive page (Table 9.3). -/
structure ArcPage where
  pageNo : Nat
  term : Nat
  /-- FLAGS bit 0 and TFLAGS bit 0 -/
  termFirst : Bool
  termLast : Bool
  firstSeq : Nat
  tbOpen : Nat
  chainIn : Bytes
  /-- the records, 64 bytes each -/
  records : List Bytes
  /-- H of the last record -/
  chainOut : Bytes
  /-- TB_CLOSE; none for the open page -/
  tbClose : Option Nat
  /-- both copies lie on the pool and the tail buffer is free (R266) -/
  flushed : Bool
  /-- selects 4c + k of the copies that are readable -/
  copies : List Nat
  /-- a lost page (R160, R266) -/
  lost : Bool
  deriving DecidableEq, Repr

/-- A closed Term and what its seal states (R272, Table 9.7). -/
structure ArcTerm where
  term : Nat
  records : Nat
  firstSeq : Nat
  lastSeq : Nat
  chainIn : Bytes
  chainOut : Bytes
  firstPage : Nat
  pages : Nat
  cause : Nat
  deriving DecidableEq, Repr

/-- The archive engine (Table 9.12). -/
structure Arc where
  created : Bool := false
  next : DWord := 0
  chain : Bytes := List.replicate 32 0
  /-- pages of Terms not retired, in order; the last is open once the archive exists -/
  pages : List ArcPage := []
  nextPage : Nat := 0
  term : Word := 0
  /-- of the open Term: opening time base, opening UTC, TERM_LEN_S, chain before it, first SEQ and page -/
  termTb : Nat := 0
  termUtc : Option DWord := none
  termLen : Nat := 86400
  termChainIn : Bytes := List.replicate 32 0
  termFirst : Nat := 0
  termPage : Nat := 0
  /-- closed Terms that await their seals (R272) -/
  awaiting : List ArcTerm := []
  /-- seals of Terms 0, 1, … -/
  seals : List Bytes := []
  acked : Word := 0
  /-- the oldest Term not retired; 0 stands before Term 1 exists -/
  oldest : Word := 0
  /-- what pages of retired Terms held: first and last SEQ, first and last PAGE_NO -/
  retired : List (Nat × Nat × Nat × Nat) := []
  refcnt : SatCount := {}
  seqStuck : Bool := false
  /-- ARC_USED is above ARC_WARN_PM and EV 0x0907 was logged -/
  warned : Bool := false
  /-- 0x2901; the area in force -/
  retire : Bool := false
  areaGib : Nat := 128
  termLenS : Nat := 86400
  sealMacSlot : Byte := 0xFF
  warnPm : Nat := 9000
  paceH : Nat := 4800
  /-- tokens of the pace bucket (R284) -/
  tokens : Nat := 0
  /-- time base of the last refill -/
  paceAt : Nat := 0
  /-- card requests that wait, in order: hosts 0 to 23, and 32 + k for session k (R287, R288) -/
  cardWait : List Nat := []
  lastCmd : Nat := 0
  lastResult : Nat := 0
  /-- newest card of each host (R287) -/
  cards : Vector (Option Bytes) 24 := Vector.replicate 24 none
  deriving DecidableEq, Repr

/-- Identity signing (R280 to R283, Table 9.12). -/
structure Signer where
  /-- the ring of NV words (R281), with those that read uncorrectable -/
  ring : List (Nat × Word) := []
  bad : List Nat := []
  next : Word := 0
  /-- EV 0x0904 was logged -/
  offLogged : Bool := false
  /-- top leaf whose bottom tree lies in SRAM, and its top-level signature -/
  bottom : Option (Nat × Bytes) := none
  msgAddr : Word := 0
  msgLen : BitVec 15 := 0
  outAddr : Word := 0
  busy : Bool := false
  done : Bool := false
  building : Bool := false
  reason : BitVec 4 := 0
  idx : Word := 0xFFFFFFFF
  time : Word := 0
  /-- the index reserved by the signature in progress -/
  reserved : Nat := 0
  deriving DecidableEq, Repr

end Sys2Proof.Machine
end

