-- ==== Sys2Proof/Machine/DgcTypes.lean ====
section
/-! DEFINITION. The state of the digest cluster and the signature sequencer (chapter 7). -/
namespace Sys2Proof.Machine

/-- A job descriptor (Table 7.2) as its eight words. -/
structure Desc where
  w : List Nat
  deriving DecidableEq, Repr

/-- A software job: submitter, descriptor, and the bytes a PUSH job has been fed. -/
structure DgcJob where
  set : Nat
  master : Master
  desc : Desc
  fed : Bytes
  /-- KR1208 mode: DGC_LASTW was written -/
  ended : Bool
  /-- words in the input buffer of a job that waits -/
  buffered : Nat
  /-- time base at which it took its core -/
  started : Nat
  deriving DecidableEq, Repr

/-- A result register set (Table 7.6). -/
structure ResSet where
  alloc : Bool := false
  queued : Bool := false
  running : Bool := false
  done : Bool := false
  truncated : Bool := false
  lengthShort : Bool := false
  aborted : Bool := false
  cmpFail : Bool := false
  readErr : Bool := false
  keyRefused : Bool := false
  lastwIgn : Bool := false
  dinFull : Bool := false
  alg : BitVec 3 := 0
  outLen : BitVec 7 := 0
  dinWords : BitVec 7 := 64
  tag : Word := 0
  count : DWord := 0
  out : Bytes := []
  /-- a PUSH job, its LEN_MODE, and whether EV 0x0503 was logged for it -/
  push : Bool := false
  lenMode : Bool := false
  excess : Bool := false
  /-- who submitted, who alone may feed, abort and release -/
  owner : Option Master := none
  /-- the job is no longer wanted: its set is freed when it ends (R202) -/
  orphan : Bool := false
  deriving DecidableEq, Repr

/-- The outcome of a master's last submission (DGC_LASTSUB). -/
structure LastSub where
  code : BitVec 3 := 0
  set : BitVec 6 := 0
  retry : Half := 0
  deriving DecidableEq, Repr

/-- The digest cluster (R193 to R217). -/
structure Dgc where
  reserve : BitVec 4 := 2
  stallMs : Half := 10
  ok : Half := 0
  on : Half := 0
  /-- cores that failed their test, until the next power-up (R195) -/
  excluded : Half := 0
  /-- cores and the software jobs on them -/
  running : List (Nat × DgcJob) := []
  queue : List DgcJob := []
  sets : Vector ResSet 64 := Vector.replicate 64 {}
  /-- by master ID -/
  lastSubs : List (Nat × LastSub) := []
  busyCnt : SatCount := {}
  shortCnt : SatCount := {}
  /-- last second in which EV 0x0502 was logged, by master ID -/
  shortLogged : List (Nat × Nat) := []
  deriving DecidableEq, Repr

/-- The verification registers of SIG (Table 7.14). -/
structure SigV where
  maxCores : BitVec 5 := 8
  slot : BitVec 6 := 0
  cls : Half := 0xFFFF
  src : BitVec 2 := 0
  host : BitVec 5 := 0
  msgAddr : Word := 0
  msgLen : Word := 0
  sigAddr : Word := 0
  sigLen : BitVec 15 := 0
  busy : Bool := false
  done : Bool := false
  pass : Bool := false
  reason : BitVec 4 := 0
  level : BitVec 3 := 0
  time : Word := 0
  /-- read errors of the message and of the signature that the gates gave at START -/
  start : Nat := 0
  deriving DecidableEq, Repr

end Sys2Proof.Machine
end

