-- ==== Sys2Proof/Machine/EventTypes.lean ====
section
/-! DEFINITION. The event log's state (chapter 18): the queue, the ring and the EVL and SRAM error registers. -/
namespace Sys2Proof.Machine

/-- An event as it is raised (R483): its record is this with SEQ, FORMAT, CLASS and CRC added. -/
structure Event where
  code : Nat
  source : Nat
  params : Bytes
  tb : DWord
  boot : Word
  deriving DecidableEq, Repr

/-- A record of the ring (R485). -/
structure EventRec where
  seq : Nat
  ev : Event
  deriving DecidableEq, Repr

/-- EVL (R486, R487, R491). `ring` is oldest first and holds at most 10,240 records. -/
structure Evl where
  queue : List Event := []
  ring : List EventRec := []
  nextSeq : Nat := 0
  writing : Bool := false
  scanning : Bool := true
  overwr : SatCount := {}
  drop : SatCount := {}
  /-- events dropped since the last EV 0x0002 -/
  dropped : Nat := 0
  /-- the second of `counts`, and the events accepted in it by code -/
  second : Nat := 0
  counts : List (Nat × Nat) := []
  raiseP : Vector Word 4 := Vector.replicate 4 0
  sramCorr : SatCount := {}
  sramUnc : SatCount := {}
  sramUncAddr : BitVec 24 := 0
  /-- SRAM words (8 bytes, by internal address) that are uncorrectable and not yet rewritten -/
  sramBad : List Nat := []
  deriving DecidableEq, Repr

end Sys2Proof.Machine
end

