-- ==== Sys2Proof/Machine/GateTypes.lean ====
section
/-! DEFINITION. The state of the access gates (chapter 14), the life-cycle controller and the debug port (chapter 15). -/
namespace Sys2Proof.Machine

/-- A region descriptor (Table 14.7): RBASE, RATTR and RPERM. -/
structure Region where
  base : Word := 0
  en : Bool := false
  lock : Bool := false
  size : BitVec 5 := 8
  srd : Byte := 0
  perm : BitVec 6 := 0
  deriving DecidableEq, Repr

/-- A gate's violation record and regions (Table 14.6); gate 21 uses no region. -/
structure Gate where
  valid : Bool := false
  firstAddr : Word := 0
  master : Byte := 0
  access : BitVec 2 := 0
  rule : BitVec 4 := 0
  firstTime : DWord := 0
  vcount : SatCount := {}
  regions : Vector Region 8 := Vector.replicate 8 {}
  deriving DecidableEq, Repr

inductive LcState where
  | maker | integrator | fielded | returned | scrapped | indeterminate
  deriving DecidableEq, Repr

/-- Where a running transition stands (R422). -/
inductive LcPhase where
  | none
  /-- steps 2 to 5 done; step 6 waits for a HOLDUP_SENSE sample -/
  | sample
  /-- step 7: the fuse group is being written -/
  | writing
  deriving DecidableEq, Repr

/-- LCC (Tables 15.5, 15.10) and 0x2002. -/
structure Lcc where
  fuses : Vector Word 16 := Vector.replicate 16 0
  state : LcState := .maker
  phase : LcPhase := .none
  target : Nat := 0
  xStatus : Nat := 0
  xCause : Nat := 0
  xTarget : Nat := 0
  /-- 0x2002: status in bits 7:0, target in bits 15:8 -/
  rec2002 : Nat := 0
  /-- hosts held at step 4, which select again at step 6 or 9 -/
  heldHosts : List (Fin 24) := []
  capUf : Half := 0
  div : BitVec 3 := 0
  vmin : Byte := 0
  huv : BitVec 11 := 0
  /-- E at the latest sample (R427) -/
  hue : Word := 0
  deriving DecidableEq, Repr

/-- A challenge of 32 bytes and the time base at which it was issued (R431). -/
structure Challenge where
  bytes : Bytes
  issued : Nat
  deriving DecidableEq, Repr

/-- What the JTAG port selects (Table 15.7). -/
inductive JtagReg where
  | idcode | bypass | boundary | dbgreg | dbgmem
  deriving DecidableEq, Repr

/-- How the boundary-scan instructions hold the pins. -/
inductive PinDrive where
  | functional | extest | clamp | highz
  deriving DecidableEq, Repr

/-- DBG and the JTAG port (Table 15.12, R429 to R432). -/
structure Dbg where
  open_ : Bool := false
  prov : Bool := false
  sticky : Bool := false
  result : BitVec 2 := 0
  /-- time base at which an unlock ends; none when the state itself opens the debug master -/
  until_ : Option Nat := none
  chal : Option Challenge := none
  /-- DBG_CHALk keep the bytes of the newest JTAG-path challenge -/
  chalBytes : Bytes := []
  resp : Vector Word 10 := Vector.replicate 10 0
  mismatches : List Nat := []
  suspended : Option Nat := none
  ir : JtagReg := .idcode
  pins : PinDrive := .functional
  /-- data of the last debug-master access -/
  data : Word := 0
  deriving DecidableEq, Repr

end Sys2Proof.Machine
end

