-- ==== Sys2Proof/Machine/Mem.lean ====
section
/-! DEFINITION. Sparse byte memory in one canonical form: addresses strictly rising, and no cell equal to what an
unlisted address reads as (the default byte `d`). -/
namespace Sys2Proof.Machine

abbrev Mem := List Host.Cell

/-- One byte; an unlisted address reads as `d`. -/
def Mem.read (d : Byte) : Mem → Nat → Byte
  | [], _ => d
  | (k, v) :: r, a => if k = a then v else Mem.read d r a

/-- Store a byte that differs from the default. -/
def Mem.put (m : Mem) (a : Nat) (b : Byte) : Mem :=
  match m with
  | [] => [(a, b)]
  | (k, v) :: r =>
    if a < k then (a, b) :: (k, v) :: r
    else if a = k then (a, b) :: r
    else (k, v) :: Mem.put r a b

/-- The memory without the cell at `a`. -/
def Mem.del (m : Mem) (a : Nat) : Mem := m.filter (fun c => c.1 != a)

/-- Write one byte, keeping the canonical form. -/
def Mem.write (d : Byte) (m : Mem) (a : Nat) (b : Byte) : Mem :=
  if b = d then m.del a else m.put a b

/-- `n` bytes from `a` upward. -/
def Mem.readN (d : Byte) (m : Mem) (a : Nat) : Nat → Bytes
  | 0 => []
  | n + 1 => m.read d a :: Mem.readN d m (a + 1) n

/-- Write bytes from `a` upward. -/
def Mem.writeN (d : Byte) (m : Mem) (a : Nat) : Bytes → Mem
  | [] => m
  | b :: bs => Mem.writeN d (m.write d a b) (a + 1) bs

/-- Return `n` bytes from `a` upward to the default. -/
def Mem.eraseN (m : Mem) (a n : Nat) : Mem := m.filter (fun c => c.1 < a || a + n ≤ c.1)

/-- The canonical form. -/
def Mem.wf (d : Byte) (m : Mem) : Bool :=
  (m.map Prod.fst).Pairwise (· < ·) && m.all (fun c => c.2 != d)

end Sys2Proof.Machine
end

