-- ==== Sys2Proof/Machine/TimetableTypes.lean ====
section
/-! DEFINITION. The Timetable image as data (chapter 3): header, opcode index, clauses, ranges and pool, as R65 to R71
lay them out, and the two clause banks of a host with the TTB control state (R83). -/
namespace Sys2Proof.Machine

/-- A clause of Table 3.5, kept as its four words. -/
structure Clause where
  w0 : Nat
  w1 : Nat
  w2 : Nat
  w3 : Nat
  deriving DecidableEq, Repr

/-- A range table entry (R70). -/
structure Range where
  base : Nat
  last : Nat
  attr : Nat
  rsvd : Nat
  deriving DecidableEq, Repr

/-- A Timetable image (R65, R66): `index` has 256 words, `costs` 16 entries of two words. -/
structure Timetable where
  host : Nat
  part : Nat
  flags : Nat
  generation : Nat
  sequence : Nat
  vsizePages : Nat
  cfg : Nat
  rdyTmo : Nat
  modesPermitted : Nat
  defaultAction : Nat
  serviceMask : Nat
  hpwDeny : Nat
  idBytes : Bytes
  tNorNs : Nat
  hallDeadlineMs : Nat
  /-- PROG_TYP, PROG_MAX, E4K_TYP, E4K_MAX, E64K_TYP, E64K_MAX, EALL_MAX (offsets 0x040 to 0x04D) -/
  times : List Nat
  index : List Nat
  costs : List (Nat × Nat)
  ranges : List Range
  pool : Bytes
  clauses : List Clause
  deriving DecidableEq, Repr

/-- The clause banks and epoch state of one host (R82 to R87). -/
structure TtHost where
  bankA : Option Timetable := none
  bankB : Option Timetable := none
  /-- TTB_ACTIVE: false bank A, true bank B -/
  active : Bool := false
  ready : Bool := false
  pend : Bool := false
  /-- the bank the port itself runs under, which follows `active` at the switch point (R85) -/
  portBank : Bool := false
  epoch : Half := 0
  /-- PEND_LONG was logged for this commit (R86) -/
  pendLogged : Bool := false
  /-- a Timetable of 0x2400 + n, or of the block loaded at the start, that waits for checks 12 and 13 and for PEND
  (R84, R87, R89, R340) -/
  waiting : Option Timetable := none
  /-- its image and the role of the session that wrote it; none for one that is stored already -/
  waitImage : Option (Bytes × Nat) := none
  /-- 0x2300 + n, .22: status and failed check (R87, R340) -/
  status : Nat := 0
  failedCheck : Nat := 0
  /-- the last time of EV 0x0129 for a clause index (R79) -/
  logTimes : List (Nat × Nat) := []
  deriving DecidableEq, Repr

/-- TTB_STAT and TTB_PEND_TMO (Table 3.9). -/
structure TtbRegs where
  refused : Bool := false
  pendLong : Bool := false
  pendHost : BitVec 5 := 0
  pendTmo : Half := 1000
  deriving DecidableEq, Repr

end Sys2Proof.Machine
end

