-- ==== Sys2Proof/Machine/PortTypes.lean ====
section
/-! DEFINITION. The state of a host port (chapter 2): HPC and HPW registers, the frame in service, the pending write
and the prefetch buffer. -/
namespace Sys2Proof.Machine

/-- What a frame in service waits for. -/
inductive Waiting where
  | none | rdy | native
  deriving DecidableEq, Repr

/-- A frame whose select is still low: a read that is being served or waits for data (R36 to R42). -/
structure InFrame where
  /-- the opcode whose span and shape the frame has -/
  opcode : Nat
  /-- next host address to deliver -/
  addr : Nat
  /-- data bytes the host still clocks -/
  left : Nat
  /-- bytes of the present page not yet delivered, and whether they come from flash -/
  page : Bytes
  flash : Bool
  /-- the rest of the frame is fill (R36, R56) -/
  filling : Bool
  /-- the present page's bytes are data, not fill (R372) -/
  counted : Bool
  waiting : Waiting
  honours : Bool
  /-- the clause that matched the first page has CONT (R78) -/
  cont : Bool
  mode : Byte
  /-- native mode: bytes since the last CRC byte, status bytes included, and data bytes in the block (R42) -/
  crcAcc : Bytes
  inBlock : Nat
  keepsSelect : Bool
  deriving DecidableEq, Repr

/-- The prefetch buffer: one aligned 4 KiB page of the host's virtual flash (R51). -/
structure Prefetch where
  vpage : Nat
  valid : Bool
  deriving DecidableEq, Repr

/-- Where a byte of a pending write must become durable (R145). -/
inductive DestKind where
  | copy0 | copy1 | target | journal0 | journal1 | shadow0 | shadow1
  deriving DecidableEq, Repr

inductive DestState where
  | waiting | durable | failed
  deriving DecidableEq, Repr

/-- One destination of one page of a pending write. -/
structure Dest where
  vpage : Nat
  kind : DestKind
  /-- select index 4c + k that carries it -/
  select : Nat
  state : DestState
  deriving DecidableEq, Repr

/-- The single pending write of a host (R46, R144): new page contents, `none` for an erased page. -/
structure PendingWrite where
  erase : Bool
  /-- the virtual pages that a stage clause matched (R80) -/
  stage : List Nat
  pages : List (Nat × Option Bytes)
  dests : List Dest
  /-- waits for staging space (R150) -/
  waitsStaging : Bool
  /-- held: by a relocation (R151), or while shadows are committed (R186, R250) -/
  held : Bool
  deriving DecidableEq, Repr

/-- A mailbox request copied by GO (R63), and the service's result waiting to be delivered. -/
structure MbRequest where
  service : Nat
  len : Nat
  tag : Nat
  payload : Bytes
  deriving DecidableEq, Repr

structure MbResult where
  code : Nat
  retry : Nat
  rsp : Bytes
  deriving DecidableEq, Repr

/-- The HPW window registers of a host (R61, Table 2.13). -/
structure Hpw where
  ltv : Half := 0xFFFF
  health : Word := 0
  attnCause : Byte := 0
  attnEn : Byte := 0
  epochTt : Half := 0
  timeHi : Word := 0
  mbCmd : Word := 0
  mbCode : BitVec 3 := 0
  mbDone : Bool := false
  mbPending : Bool := false
  mbTag : Byte := 0
  mbRlen : BitVec 12 := 0
  mbRetry : Word := 0
  mbReq : Mem := []
  mbRsp : Mem := []
  request : Option MbRequest := none
  result : Option MbResult := none
  sweepDone : Bool := false
  deriving DecidableEq, Repr

/-- A host port (R30 to R58). `stat` holds HPC_STAT[8:0]. -/
structure Port where
  cfg : Word := 0x0088FF00
  rdyTmo : Half := 2000
  stat : BitVec 9 := 0
  cmd : CmdState := .s1
  addr4 : Bool := false
  /-- the opcode that armed continuous read -/
  armed : Option Nat := none
  /-- Reset Enable was the previous frame (R31) -/
  rstEn : Bool := false
  wel : Bool := false
  wip : Bool := false
  eraseErr : Bool := false
  progErr : Bool := false
  prot : Bool := false
  stale : Bool := true
  torn : SatCount := {}
  ign : SatCount := {}
  crc : SatCount := {}
  fillAddr : Word := 0
  /-- the clause or extent epoch has changed since the select fall of the newest frame, and between those of the two newest
  frames (EPOCH of Table 2.7) -/
  epochNews : Bool := false
  epochShown : Bool := false
  prefetch : Option Prefetch := none
  frame : Option InFrame := none
  pending : Option PendingWrite := none
  /-- bytes the port drove in the last frame (the model's record of what a host saw) -/
  out : Bytes := []
  /-- lost pages read in the current second, for the limit of EV 0x060E (R160) -/
  lostLog : List (Nat × Nat) := []
  hpw : Hpw := {}
  deriving DecidableEq, Repr

end Sys2Proof.Machine
end

