-- ==== Sys2Proof/Machine/FlashTypes.lean ====
section
/-! DEFINITION. The state of the flash channels (chapter 4) and of the Registrar (chapter 5): selects, Bell schedules,
requests, extents, journal, shadows, relocations and the registry. -/
namespace Sys2Proof.Machine

/-- The states of a select (Table 4.3), by code. -/
inductive SelState where
  | absent | mismatch | unformatted | foreign | formatting | ready | retiring | retired | failed | parked
  deriving DecidableEq, Repr

/-- A select descriptor of a Bell schedule (Table 4.12). -/
structure SelDesc where
  cls : Nat
  mode : Nat
  div : Nat
  dummy : Nat
  lead : Nat
  trail : Nat
  idle : Nat
  idBytes : Bytes
  cfgFeature : Nat
  densityMbit : Nat
  pagesPerBlock : Nat
  spareBytes : Nat
  userSpareOff : Nat
  trMaxUs : Nat
  tprogMaxUs : Nat
  tbersMax : Nat
  deriving DecidableEq, Repr

/-- A Bell schedule image (Table 4.11); a slot is its two words. -/
structure BellSchedule where
  channel : Nat
  part : Nat
  flags : Nat
  generation : Nat
  sequence : Nat
  headBytes : Nat
  pollNs : Nat
  rdyEn : Nat
  rdyTmoUs : Nat
  descs : List SelDesc
  slots : List (Nat × Nat)
  deriving DecidableEq, Repr

/-- What a queued transfer is for. -/
inductive ReqKind where
  /-- fetch of a page for a host read frame that has had no data yet (R116) -/
  | demand
  | stream
  /-- class 0 to 7 background work -/
  | background (cls : Nat)
  deriving DecidableEq, Repr

inductive DevOp where
  | read | program | erase | pageRead
  deriving DecidableEq, Repr

/-- A transfer request of a channel (R115); `host` is 24 for work tied to none. -/
structure Request where
  kind : ReqKind
  host : Nat
  sel : Nat
  op : DevOp
  /-- device page, and the virtual page it serves -/
  dpage : Nat
  vpage : Nat
  dest : Option DestKind
  bytesDone : Nat
  wasCut : Bool
  /-- retried or reissued once (R106, R108) -/
  retried : Bool
  deriving DecidableEq, Repr

/-- One device select (R92 to R112). -/
structure Select where
  cls : BitVec 2 := 0
  mode : BitVec 3 := 0
  addr4 : Bool := false
  div : BitVec 4 := 7
  dummy : BitVec 6 := 8
  lead : Byte := 2
  trail : Byte := 2
  idle : Byte := 8
  state : SelState := .absent
  /-- NOR or NAND as discovered -/
  nand : Bool := false
  densityMbit : Nat := 0
  pagesPerBlock : Nat := 0
  idBytes : Bytes := []
  /-- the operation outstanding on the device: BUSY -/
  busy : Option Request := none
  crcCnt : SatCount := {}
  eccCnt : SatCount := {}
  tmoCnt : SatCount := {}
  /-- consecutive command timeouts, and times of page errors (R109) -/
  timeouts : Nat := 0
  pageErrors : List Nat := []
  /-- NV store: bad-block list and the ADMIT record (Table 4.8a) -/
  badBlocks : List Nat := []
  /-- blocks for which EV 0x0416 was logged (Table 4.8: once per block) -/
  scrubAsked : List Nat := []
  admitWord : Nat := 0
  formatSeq : Word := 0
  deriving DecidableEq, Repr

/-- One flash channel. `stat` holds FCC_STAT[6:0]. -/
structure Channel where
  en : Bool := false
  rdyEn : Bool := false
  parked : Bool := false
  stat : BitVec 7 := 0
  rdyLevel : Bool := true
  stale : Bool := true
  rdyTmo : BitVec 20 := 20000
  poll : Half := 1000
  bankA : Option BellSchedule := none
  bankB : Option BellSchedule := none
  active : Bool := false
  ready : Bool := false
  /-- a commit was requested and waits for the cycle boundary (R119) -/
  commitPending : Bool := false
  slot : Nat := 0
  epoch : Half := 0
  /-- polls as if RDY_EN were 0 until the next commit (R102) -/
  ignoreRdy : Bool := false
  queue : List Request := []
  running : Option Request := none
  /-- hosts served last among guests, for round robin (Table 4.14) -/
  lastGuest : Nat := 23
  /-- selects polled by the last poll event -/
  polled : List Nat := []
  sels : Vector Select 4 := Vector.replicate 4 {}
  /-- FCc_PWREN (R499), and the 1 ms delay after PARK running -/
  pwren : Bool := true
  pwrenFalling : Bool := false
  /-- 0x2500 + c, .11 (R122) -/
  lastCmd : Nat := 0
  lastResult : Nat := 0
  deriving DecidableEq, Repr

/-- A copy location (Table 5.1): `valid` is V. -/
structure Loc where
  valid : Bool := false
  chan : Nat := 0
  sel : Nat := 0
  dpage : Nat := 0
  deriving DecidableEq, Repr

inductive ExtState where
  | live | lost
  deriving DecidableEq, Repr

/-- An extent table entry (Table 5.1) with its registry facts: CREATE_EPOCH and the fold mark. Links and the directory
(R131) follow from VBASE order. -/
structure Extent where
  index : Nat
  vbase : Nat
  pages : Nat
  state : ExtState := .live
  pinned : Bool := false
  mirror : Bool := false
  writable : Bool := false
  exec : Bool := false
  dormant : Bool := true
  staged : Bool := false
  degraded : Bool := false
  /-- DEGRADED because of a FAILED select (Table 5.6) -/
  byFailure : Bool := false
  moving : Bool := false
  journal : Bool := false
  gen : Word := 0
  copy0 : Loc := {}
  copy1 : Loc := {}
  target : Loc := {}
  rrec : Nat := 0
  replaces : Nat := 0
  copied : Nat := 0
  createEpoch : Word := 0
  mark : Nat := 0
  deriving DecidableEq, Repr

/-- A live journal page or a shadow page (R141, R148); `data = none` is an erased page. -/
structure StagedPage where
  host : Nat
  extent : Nat
  vpage : Nat
  wseq : Nat
  two : Bool
  /-- in the NOR shadow area -/
  nor : Bool
  /-- a shadow after SHADOW_COMMIT: extent data for every reader (R149) -/
  committed : Bool
  /-- selects 4c + k that hold it; the second counts only with `two` -/
  sel0 : Nat
  sel1 : Nat
  data : Option Bytes
  deriving DecidableEq, Repr

/-- The record of a NOR data page's spare area: records used, and whether the last one matches the page (R104). -/
structure SpareUse where
  used : Nat
  torn : Bool
  deriving DecidableEq, Repr

/-- A relocation in progress (R151, Table 5.4). -/
structure Reloc where
  slot : Nat
  host : Nat
  extent : Nat
  cls : Nat
  fold : Bool
  startWseq : Nat
  /-- waited on by a staged Timetable or a channel command, and the time it was queued (R153) -/
  waitedOn : Bool
  queuedAt : Nat
  overdue : Bool
  /-- step 7: draining, with the old run -/
  draining : Option Loc
  deriving DecidableEq, Repr

/-- A refresh of a NOR spare page (R146). -/
structure Refresh where
  select : Nat
  block : Nat
  deriving DecidableEq, Repr

/-- Registry records since the last checkpoint, by number; contents are the extent tables themselves. -/
structure Registry where
  lseq : Word := 0
  logUsed : Nat := 0
  rootSeq : Word := 0
  ckptSlot : Bool := false
  ckptRunning : Bool := false
  ckptCover : Nat := 0
  deriving DecidableEq, Repr

/-- The Registrar (chapter 5). -/
structure Placement where
  /-- host extents, and the extents themselves by index -/
  extents : Vector (List Extent) 24 := Vector.replicate 24 []
  xepoch : Vector DWord 24 := Vector.replicate 24 0
  flash : Mem := []
  spare : List (Nat × SpareUse) := []
  journal : List StagedPage := []
  shadows : List StagedPage := []
  /-- hosts whose shadows do not overlay any more (R149) -/
  discard : BitVec 24 := 0
  lost : List (Nat × Nat × Nat) := []
  relocs : List Reloc := []
  queued : List Reloc := []
  refreshes : List Refresh := []
  registry : Registry := {}
  wseq : DWord := 0
  wseqFloor : DWord := 0
  wseqSaves : Nat := 0
  steady : Bool := false
  mirrorLost : Bool := false
  stagingLow : Bool := false
  overdue : Bool := false
  scanning : Bool := true
  steadySince : Nat := 0
  poolId : DWord := 0
  /-- 0x2600.10 to .15 in effect and to take effect at the next power-up (R164) -/
  extSplitMib : Nat := 64
  journalMib : Nat := 512
  norShadowMib : Nat := 64
  relocDeadlineS : Nat := 600
  stgWaitMs : Nat := 5000
  lastCmd : Nat := 0
  lastResult : Nat := 0
  deriving DecidableEq, Repr

end Sys2Proof.Machine
end

