-- ==== Sys2Proof/Machine/ImageTypes.lean ====
section
/-! DEFINITION. Image verification and release state of a host (chapter 6). -/
namespace Sys2Proof.Machine

/-- The host states, in the order of HPW_STATE.STATE (Table 2.13). -/
inductive HostState where
  | off | held | measuring | hallPass | trial | running | detention
  deriving DecidableEq, Repr

/-- The envelope-store entry of a slot (R166, R229): the envelope's bytes, the slot's Timetable and its Bell set. -/
structure SlotStore where
  envelope : Option Bytes := none
  timetable : Option Timetable := none
  /-- channel and schedule of the set that came with the slot -/
  bells : List BellSchedule := []
  gen : Half := 0
  deriving DecidableEq, Repr

/-- The tap of a host On Hall pass (R184): block, and the expected address within the slot. -/
structure Tap where
  block : Nat
  expect : Nat
  deriving DecidableEq, Repr

/-- One host's configuration and state of verification (R166 to R186). Slots are 0 A, 1 B, 2 R. -/
structure HostImg where
  state : HostState := .off
  reason : Nat := 0
  hostClass : Half := 0xFFFF
  releaseMode : Byte := 0
  slotPage : Vector Word 3 := Vector.replicate 3 0xFFFFFFFF
  pagesAB : Word := 0
  pagesR : Word := 0
  settleMs : Half := 10
  ctrAB : Byte := 0xFF
  ctrR : Byte := 0xFF
  slots : Vector SlotStore 3 := Vector.replicate 3 {}
  selected : Option (Fin 3) := none
  /-- the selected candidate passed checks 1 to 6 -/
  passed : Bool := false
  /-- candidates already tried in this selection, and whether one that passed check 1 passed 2 to 5 (R182) -/
  tried : List (Fin 3) := []
  acceptable : Bool := false
  settled : Bool := false
  verified : List Nat := []
  tap : Option Tap := none
  /-- blocks that a tap has hashed whole, awaiting the compare (R184) -/
  tapDone : List Nat := []
  sweepQueue : List Nat := []
  listLoaded : Bool := false
  /-- signed-part digest of an image that caused HALL_MISMATCH since the last start (R179) -/
  barred : List Bytes := []
  deadlinePaused : Bool := false
  /-- step 2 of R186: new writes held -/
  releasing : Bool := false
  releaseTime : DWord := 0
  /-- released On Hall pass in this run (Table 9.10) -/
  hallRun : Bool := false
  /-- key slot of the image that the host last confirmed (R191) -/
  confirmedKey : Option Nat := none
  lastCmd : Nat := 0
  lastResult : Nat := 0
  deriving DecidableEq, Repr

end Sys2Proof.Machine
end

