-- ==== Sys2Proof/Machine/Hash.lean ====
section
/-! DEFINITION. The hash functions of Table 7.1 and HMAC (R210). The spec names FIPS 180-4, FIPS 202 and FIPS 198-1; their
constants and steps are PRESUMED from those standards (log entry 20). -/
namespace Sys2Proof.Hash

/-- SHA-256 round constants. -/
def k256 : List Nat :=
  [0x428A2F98, 0x71374491, 0xB5C0FBCF, 0xE9B5DBA5, 0x3956C25B, 0x59F111F1, 0x923F82A4, 0xAB1C5ED5,
   0xD807AA98, 0x12835B01, 0x243185BE, 0x550C7DC3, 0x72BE5D74, 0x80DEB1FE, 0x9BDC06A7, 0xC19BF174] ++
  [0xE49B69C1, 0xEFBE4786, 0x0FC19DC6, 0x240CA1CC, 0x2DE92C6F, 0x4A7484AA, 0x5CB0A9DC, 0x76F988DA,
   0x983E5152, 0xA831C66D, 0xB00327C8, 0xBF597FC7, 0xC6E00BF3, 0xD5A79147, 0x06CA6351, 0x14292967] ++
  [0x27B70A85, 0x2E1B2138, 0x4D2C6DFC, 0x53380D13, 0x650A7354, 0x766A0ABB, 0x81C2C92E, 0x92722C85,
   0xA2BFE8A1, 0xA81A664B, 0xC24B8B70, 0xC76C51A3, 0xD192E819, 0xD6990624, 0xF40E3585, 0x106AA070] ++
  [0x19A4C116, 0x1E376C08, 0x2748774C, 0x34B0BCB5, 0x391C0CB3, 0x4ED8AA4A, 0x5B9CCA4F, 0x682E6FF3,
   0x748F82EE, 0x78A5636F, 0x84C87814, 0x8CC70208, 0x90BEFFFA, 0xA4506CEB, 0xBEF9A3F7, 0xC67178F2]

/-- SHA-512 round constants. -/
def k512 : List Nat :=
  [0x428A2F98D728AE22, 0x7137449123EF65CD, 0xB5C0FBCFEC4D3B2F, 0xE9B5DBA58189DBBC, 0x3956C25BF348B538,
   0x59F111F1B605D019, 0x923F82A4AF194F9B, 0xAB1C5ED5DA6D8118, 0xD807AA98A3030242, 0x12835B0145706FBE,
   0x243185BE4EE4B28C, 0x550C7DC3D5FFB4E2, 0x72BE5D74F27B896F, 0x80DEB1FE3B1696B1, 0x9BDC06A725C71235,
   0xC19BF174CF692694] ++
  [0xE49B69C19EF14AD2, 0xEFBE4786384F25E3, 0x0FC19DC68B8CD5B5, 0x240CA1CC77AC9C65, 0x2DE92C6F592B0275,
   0x4A7484AA6EA6E483, 0x5CB0A9DCBD41FBD4, 0x76F988DA831153B5, 0x983E5152EE66DFAB, 0xA831C66D2DB43210,
   0xB00327C898FB213F, 0xBF597FC7BEEF0EE4, 0xC6E00BF33DA88FC2, 0xD5A79147930AA725, 0x06CA6351E003826F,
   0x142929670A0E6E70] ++
  [0x27B70A8546D22FFC, 0x2E1B21385C26C926, 0x4D2C6DFC5AC42AED, 0x53380D139D95B3DF, 0x650A73548BAF63DE,
   0x766A0ABB3C77B2A8, 0x81C2C92E47EDAEE6, 0x92722C851482353B, 0xA2BFE8A14CF10364, 0xA81A664BBC423001,
   0xC24B8B70D0F89791, 0xC76C51A30654BE30, 0xD192E819D6EF5218, 0xD69906245565A910, 0xF40E35855771202A,
   0x106AA07032BBD1B8] ++
  [0x19A4C116B8D2D0C8, 0x1E376C085141AB53, 0x2748774CDF8EEB99, 0x34B0BCB5E19B48A8, 0x391C0CB3C5C95A63,
   0x4ED8AA4AE3418ACB, 0x5B9CCA4F7763E373, 0x682E6FF3D6B2B8A3, 0x748F82EE5DEFB2FC, 0x78A5636F43172F60,
   0x84C87814A1F0AB72, 0x8CC702081A6439EC, 0x90BEFFFA23631E28, 0xA4506CEBDE82BDE9, 0xBEF9A3F7B2C67915,
   0xC67178F2E372532B] ++
  [0xCA273ECEEA26619C, 0xD186B8C721C0C207, 0xEADA7DD6CDE0EB1E, 0xF57D4F7FEE6ED178, 0x06F067AA72176FBA,
   0x0A637DC5A2C898A6, 0x113F9804BEF90DAE, 0x1B710B35131C471B, 0x28DB77F523047D84, 0x32CAAB7B40C72493,
   0x3C9EBE0A15C9BEBC, 0x431D67C49C100D4C, 0x4CC5D4BECB3E42B6, 0x597F299CFC657E2A, 0x5FCB6FAB3AD6FAEC,
   0x6C44198C4A475817]

/-- SHA-256 initial state. -/
def h256 : List Nat :=
  [0x6A09E667, 0xBB67AE85, 0x3C6EF372, 0xA54FF53A, 0x510E527F, 0x9B05688C, 0x1F83D9AB, 0x5BE0CD19]

/-- SHA-512 initial state. -/
def h512 : List Nat :=
  [0x6A09E667F3BCC908, 0xBB67AE8584CAA73B, 0x3C6EF372FE94F82B, 0xA54FF53A5F1D36F1, 0x510E527FADE682D1,
   0x9B05688C2B3E6C1F, 0x1F83D9ABFB41BD6B, 0x5BE0CD19137E2179]

/-- SHA-384 initial state. -/
def h384 : List Nat :=
  [0xCBBB9D5DC1059ED8, 0x629A292A367CD507, 0x9159015A3070DD17, 0x152FECD8F70E5939, 0x67332667FFC00B31,
   0x8EB44A8768581511, 0xDB0C2E0D64F98FA7, 0x47B5481DBEFA4FA4]

/-- Keccak round constants. -/
def keccakRc : List Nat :=
  [0x0000000000000001, 0x0000000000008082, 0x800000000000808A, 0x8000000080008000, 0x000000000000808B,
   0x0000000080000001, 0x8000000080008081, 0x8000000000008009, 0x000000000000008A, 0x0000000000000088,
   0x0000000080008009, 0x000000008000000A, 0x000000008000808B, 0x800000000000008B, 0x8000000000008089,
   0x8000000000008003, 0x8000000000008002, 0x8000000000000080, 0x000000000000800A, 0x800000008000000A,
   0x8000000080008081, 0x8000000000008080, 0x0000000080000001, 0x8000000080008008]

/-- Rotation of lane `x + 5 y`. -/
def keccakRot : List Nat :=
  [0, 1, 62, 28, 27, 36, 44, 6, 55, 20, 3, 10, 43, 25, 39, 41, 45, 15, 21, 8, 18, 2, 61, 56, 14]

/-! ## SHA-2 -/

/-- Rotate right a word of `w` bits. -/
def rotr (w x n : Nat) : Nat := (x >>> n) ||| ((x <<< (w - n)) % 2 ^ w)

/-- A SHA-2 family: word bits, rounds, and the amounts of its six functions. -/
structure Sha2 where
  w : Nat
  ks : List Nat
  bigS0 : Nat × Nat × Nat
  bigS1 : Nat × Nat × Nat
  smallS0 : Nat × Nat × Nat
  smallS1 : Nat × Nat × Nat

def fam256 : Sha2 := { w := 32, ks := k256, bigS0 := (2, 13, 22), bigS1 := (6, 11, 25), smallS0 := (7, 18, 3), smallS1 := (17, 19, 10) }
def fam512 : Sha2 := { w := 64, ks := k512, bigS0 := (28, 34, 39), bigS1 := (14, 18, 41), smallS0 := (1, 8, 7), smallS1 := (19, 61, 6) }

def Sha2.big (f : Sha2) (r : Nat × Nat × Nat) (x : Nat) : Nat := rotr f.w x r.1 ^^^ rotr f.w x r.2.1 ^^^ rotr f.w x r.2.2
def Sha2.small (f : Sha2) (r : Nat × Nat × Nat) (x : Nat) : Nat := rotr f.w x r.1 ^^^ rotr f.w x r.2.1 ^^^ (x >>> r.2.2)

/-- Extend the message schedule, newest word first. -/
def Sha2.extend (f : Sha2) : Nat → List Nat → List Nat
  | 0, ws => ws
  | n + 1, ws =>
    f.extend n ((f.small f.smallS1 (ws.getD 1 0) + ws.getD 6 0 + f.small f.smallS0 (ws.getD 14 0) + ws.getD 15 0) % 2 ^ f.w :: ws)

structure Regs where
  a : Nat
  b : Nat
  c : Nat
  d : Nat
  e : Nat
  f : Nat
  g : Nat
  h : Nat

def Regs.ofList (l : List Nat) : Regs :=
  { a := l.getD 0 0, b := l.getD 1 0, c := l.getD 2 0, d := l.getD 3 0, e := l.getD 4 0, f := l.getD 5 0, g := l.getD 6 0, h := l.getD 7 0 }
def Regs.list (r : Regs) : List Nat := [r.a, r.b, r.c, r.d, r.e, r.f, r.g, r.h]

def Sha2.round (f : Sha2) (r : Regs) (kw : Nat × Nat) : Regs :=
  let t1 := r.h + f.big f.bigS1 r.e + ((r.e &&& r.f) ^^^ ((2 ^ f.w - 1 - r.e) &&& r.g)) + kw.1 + kw.2
  let t2 := f.big f.bigS0 r.a + ((r.a &&& r.b) ^^^ (r.a &&& r.c) ^^^ (r.b &&& r.c))
  { a := (t1 + t2) % 2 ^ f.w, b := r.a, c := r.b, d := r.c, e := (r.d + t1) % 2 ^ f.w, f := r.e, g := r.f, h := r.g }

/-- The big-endian words of a block. -/
def wordsBE (n : Nat) : Nat → Bytes → List Nat
  | 0, _ => []
  | k + 1, bs => beNat (bs.take n) :: wordsBE n k (bs.drop n)

/-- Compress one block into the state. -/
def Sha2.compress (f : Sha2) (st : List Nat) (block : Bytes) : List Nat :=
  let ws := (f.extend (f.ks.length - 16) (wordsBE (f.w / 8) 16 block).reverse).reverse
  let r := (f.ks.zip ws).foldl f.round (Regs.ofList st)
  (st.zip r.list).map fun p => (p.1 + p.2) % 2 ^ f.w

def Sha2.blockBytes (f : Sha2) : Nat := f.w * 2

/-- Compress `n` whole blocks. -/
def Sha2.blocks (f : Sha2) : Nat → List Nat → Bytes → List Nat
  | 0, st, _ => st
  | n + 1, st, bs => f.blocks n (f.compress st (bs.take f.blockBytes)) (bs.drop f.blockBytes)

/-- The padding of a message of `len` bytes in all. -/
def Sha2.pad (f : Sha2) (len : Nat) : Bytes :=
  let b := f.blockBytes
  let z := (b - (len + 1 + f.w / 4) % b) % b
  [0x80] ++ List.replicate z 0 ++ beBytes (f.w / 4) (8 * len)

def Sha2.stateBytes (f : Sha2) (st : List Nat) : Bytes := st.flatMap (beBytes (f.w / 8))

/-- The state after whole blocks, from a given state. -/
def Sha2.run (f : Sha2) (st : List Nat) (bs : Bytes) : List Nat := f.blocks (bs.length / f.blockBytes) st bs

/-- Hash on from a state that has taken `count` bytes. -/
def Sha2.finish (f : Sha2) (st : List Nat) (count : Nat) (bs : Bytes) : Bytes :=
  f.stateBytes (f.run st (bs ++ f.pad (count + bs.length)))

/-! ## SHAKE256 -/

def lane (s : List Nat) (x y : Nat) : Nat := s.getD (x % 5 + 5 * (y % 5)) 0
def rotl64 (x n : Nat) : Nat := ((x <<< n) % 2 ^ 64) ||| (x >>> (64 - n))

def keccakRound (s : List Nat) (rc : Nat) : List Nat :=
  let c := (List.range 5).map fun x => lane s x 0 ^^^ lane s x 1 ^^^ lane s x 2 ^^^ lane s x 3 ^^^ lane s x 4
  let d := (List.range 5).map fun x => c.getD ((x + 4) % 5) 0 ^^^ rotl64 (c.getD ((x + 1) % 5) 0) 1
  let t := (List.range 25).map fun i => s.getD i 0 ^^^ d.getD (i % 5) 0
  let r := (List.range 25).map fun i => rotl64 (t.getD i 0) (keccakRot.getD i 0)
  -- lane (x, y) of the permuted state is lane (x + 3 y, x) of the rotated one
  let b := (List.range 25).map fun i => lane r (i % 5 + 3 * (i / 5)) (i % 5)
  let e := (List.range 25).map fun i =>
    lane b (i % 5) (i / 5) ^^^ ((2 ^ 64 - 1 - lane b (i % 5 + 1) (i / 5)) &&& lane b (i % 5 + 2) (i / 5))
  match e with
  | x :: xs => (x ^^^ rc) :: xs
  | [] => []

def keccakF (s : List Nat) : List Nat := keccakRc.foldl keccakRound s

def lanesLE : Nat → Bytes → List Nat
  | 0, _ => []
  | k + 1, bs => leNat (bs.take 8) :: lanesLE k (bs.drop 8)

def absorb : Nat → List Nat → Bytes → List Nat
  | 0, s, _ => s
  | n + 1, s, bs =>
    let m := lanesLE 17 (bs.take 136)
    absorb n (keccakF ((List.range 25).map fun i => s.getD i 0 ^^^ m.getD i 0)) (bs.drop 136)

/-- SHAKE256 with at most 136 output bytes. -/
def shake256 (n : Nat) (bs : Bytes) : Bytes :=
  let z := 136 - bs.length % 136
  let p := if z = 1 then [0x9F] else [0x1F] ++ List.replicate (z - 2) 0 ++ [0x80]
  let m := bs ++ p
  ((absorb (m.length / 136) (List.replicate 25 0) m).flatMap (leBytes 8)).take n

/-! ## Table 7.1 -/

def sha256 (bs : Bytes) : Bytes := fam256.finish h256 0 bs

def outSize (alg : Nat) : Nat := if alg = 1 then 32 else if alg = 2 then 48 else if alg = 3 then 64 else 32
def blockSize (alg : Nat) : Nat := if alg = 1 then 64 else if alg = 4 then 136 else 128

/-- The state a SHA-2 algorithm starts from. -/
def initState (alg : Nat) : List Nat := if alg = 1 then h256 else if alg = 2 then h384 else h512
def famOf (alg : Nat) : Sha2 := if alg = 1 then fam256 else fam512

/-- A native digest of `out` bytes, 0 meaning the full size. -/
def digest (alg out : Nat) (bs : Bytes) : Bytes :=
  let n := if out = 0 then outSize alg else out
  if alg = 4 then shake256 n bs else ((famOf alg).finish (initState alg) 0 bs).take (min n (outSize alg))

/-- HMAC (R210). -/
def hmac (alg : Nat) (key msg : Bytes) : Bytes :=
  let b := blockSize alg
  let k0 := if b < key.length then digest alg 0 key else key
  let k := k0 ++ List.replicate (b - k0.length) 0
  digest alg 0 (k.map (· ^^^ 0x5C) ++ digest alg 0 (k.map (· ^^^ 0x36) ++ msg))

end Sys2Proof.Hash
end

