-- ==== Sys2Proof/Machine/Drbg.lean ====
section
/-! DEFINITION. The Hash_DRBG of R224: SHA-256, seedlen 440 bits. The spec names SP 800-90A; the hash inputs it does not
print are PRESUMED from that standard (log entry 22). -/
namespace Sys2Proof.Drbg

def seedLen : Nat := 55

/-- The derivation function: `n` bytes. -/
def hashDf (bs : Bytes) (n : Nat) : Bytes :=
  ((List.range ((n + 31) / 32)).flatMap fun i => Hash.sha256 (beBytes 1 (i + 1) ++ beBytes 4 (8 * n) ++ bs)).take n

/-- The working state: V, C and the reseed counter. -/
structure Work where
  v : Bytes
  c : Bytes
  count : Nat
  deriving DecidableEq, Repr

def ofSeed (seed : Bytes) : Work := { v := seed, c := hashDf ([0x00] ++ seed) seedLen, count := 1 }
/-- Instantiation (R395). -/
def instantiate (entropy nonce pers : Bytes) : Work := ofSeed (hashDf (entropy ++ nonce ++ pers) seedLen)
/-- Reseeding (R396). -/
def Work.reseed (w : Work) (entropy extra : Bytes) : Work := ofSeed (hashDf ([0x01] ++ w.v ++ entropy ++ extra) seedLen)

def hashgen (v n : Nat) : Bytes :=
  ((List.range ((n + 31) / 32)).flatMap fun i => Hash.sha256 (beBytes seedLen ((v + i) % 2 ^ 440))).take n

/-- `n` output bytes and the next state. -/
def Work.generate (w : Work) (n : Nat) : Bytes × Work :=
  let v := beNat w.v
  let out := hashgen v n
  let h := beNat (Hash.sha256 ([0x03] ++ w.v))
  (out, { w with v := beBytes seedLen ((v + h + beNat w.c + w.count) % 2 ^ 440), count := w.count + 1 })

end Sys2Proof.Drbg
end

