-- ==== Sys2Proof/Machine/KeyTypes.lean ====
section
/-! DEFINITION. The state of the key store, the anti-rollback counters and the random bit generator (chapter 13). -/
namespace Sys2Proof.Machine

/-- A key slot (R376, R378): `typ` 0 none, 1 ROLE, 2 HMAC, 3 VERIFY, 4 SIGN. -/
structure KeySlot where
  typ : BitVec 3 := 0
  /-- revocation mode: true Immediate -/
  immediate : Bool := false
  policy : Word := 0
  key : Bytes := []
  keyId : Bytes := List.replicate 8 0
  /-- the revocation word of R382 -/
  revWord : Word := 0
  deriving DecidableEq, Repr

/-- The key store (Table 13.5). -/
structure KeyStore where
  slots : Vector KeySlot 64 := Vector.replicate 64 {}
  /-- (slot, class) pairs in which a Staged revocation has taken effect (R383) -/
  stagedList : List (Nat × Nat) := []
  hdrType : BitVec 3 := 0
  hdrMode : Bool := false
  hdrLen : BitVec 7 := 0
  loadPolicy : Word := 0
  loadData : Bytes := []
  busy : Bool := false
  done : Bool := false
  result : BitVec 4 := 0
  /-- GENERATE: SEED and I drawn, the top tree under construction -/
  generating : Option (Bytes × Bytes) := none
  deriving DecidableEq, Repr

/-- The ring of one counter (R387): words that are not 0, and words that read uncorrectable. -/
structure CtrRing where
  words : List (Nat × Word) := []
  bad : List Nat := []
  /-- words for which EV 0x0713 was logged in this run -/
  badLogged : List Nat := []
  deriving DecidableEq, Repr

/-- The counter unit (Table 13.8). -/
structure Counters where
  rings : Vector CtrRing 64 := Vector.replicate 64 {}
  arg : Word := 0
  busy : Bool := false
  done : Bool := false
  result : BitVec 2 := 0
  value : Word := 0
  deriving DecidableEq, Repr

inductive SrcState where
  | off | startup | healthy | failed
  deriving DecidableEq, Repr

/-- A DRBG request of RNG_GEN (R225). -/
structure RngRequest where
  addr : Nat
  len : Nat
  deriving DecidableEq, Repr

/-- The random bit generator (Tables 13.9 to 13.11). -/
structure Rng where
  src : SrcState := .off
  rct : Bool := false
  apt : Bool := false
  fails : BitVec 2 := 0
  /-- the repetition test's running value: last bit and run length -/
  lastBit : Bool := false
  run : Nat := 0
  /-- conditioned blocks not yet used -/
  pool : List Bytes := []
  drbg : Option Drbg.Work := none
  lastReseed : Nat := 0
  dueSince : Option Nat := none
  request : Option RngRequest := none
  done : Bool := false
  refused : Bool := false
  addr : Word := 0
  len : BitVec 17 := 0
  reqs : SatCount := {}
  /-- requests since the last reseed, for the bounds of R396 and R397 -/
  sinceReseed : Nat := 0
  reseeds : SatCount := {}
  deriving DecidableEq, Repr

end Sys2Proof.Machine
end

