-- ==== Sys2Proof/Machine/NetTypes.lean ====
section
/-! DEFINITION. The state of the field networks and of the Duner dictionary protocol (chapter 10). Ports 0 to 3 are CAN0 to
CAN3, 4 to 7 are T1S0 to T1S3. -/
namespace Sys2Proof.Machine

/-- The parameters of a port (Table 10.12); the fields of the other kind are unused. -/
structure NetCfg where
  enabled : Bool
  /-- CAN node ID; PLCA node ID -/
  node : Nat
  nominal : Nat
  dataRate : Nat
  sp1 : Nat
  sp2 : Nat
  plcaCount : Nat
  toTimer : Nat
  burst : Nat
  burstTimer : Nat
  mac : Bytes
  deriving DecidableEq, Repr

/-- A port that nothing has configured since the reset. -/
def NetCfg.off : NetCfg :=
  { enabled := false, node := 0, nominal := 0, dataRate := 0, sp1 := 0, sp2 := 0, plcaCount := 0, toTimer := 0, burst := 0, burstTimer := 0
    mac := [] }

/-- A network port (Table 10.14). -/
structure NetPortState where
  cfg : NetCfg
  stale : Bool := true
  wake : Bool := false
  /-- CAN: 0 error active, 1 error passive, 2 bus off -/
  canState : BitVec 2 := 0
  tec : Byte := 0
  rec_ : Byte := 0
  rxdrop : SatCount := {}
  fcserr : SatCount := {}
  beaconOk : Bool := false
  dupCoord : Bool := false
  /-- received frames that wait to be taken (R303) -/
  rx : List DdpIn := []
  /-- second of the last EV 0x0A0C -/
  overflowLogged : Option Nat := none
  deriving DecidableEq, Repr

/-- A partner table entry (Table 10.6). -/
structure Partner where
  index : Nat
  port : Nat
  addr : Bytes
  answered : Bool
  duplicate : Bool
  kind : Nat
  caps : Nat
  misses : Nat
  boot : Word
  unitId : Bytes
  /-- a ROLLCALL was received in the present interval; a message of any kind was -/
  answeredNow : Bool
  heardNow : Bool
  lastSeen : Nat
  /-- second of the last EV 0x0A04 -/
  macLogged : Option Nat
  deriving DecidableEq, Repr

/-- A session (R310 to R317), half-open until its proof. -/
structure Session where
  open_ : Bool
  role : Nat
  port : Nat
  addr : Bytes
  np : Bytes
  nc : Bytes
  /-- the OPEN_CHAL sent -/
  chal : Bytes
  /-- the SEQ of the next message sent -/
  seqOut : Word
  /-- H, and which of H - 1 to H - 63 were accepted (bit j - 1 for H - j) -/
  high : Word
  seen : BitVec 63
  lastHeard : Nat
  /-- R317: XID, type and body, and outcome messages (type, flags, body) of the last request completed; XID 0 for none -/
  lastXid : Nat
  lastBody : Bytes
  lastAnswer : List (Nat × Nat × Bytes)
  replayLogged : Option Nat
  pageSel : Nat
  termSel : Nat
  eventSel : DWord
  appendRsp : Bytes
  card : Bytes
  /-- the card request that waits (R288) -/
  cardReq : Option Bytes
  /-- the challenge last issued to this session (R431) -/
  chal2003 : Option (Bytes × Nat)
  deriving DecidableEq, Repr

/-- A segmented transfer (R319 to R325); `session` 0 is sessionless. -/
structure Transfer where
  session : Nat
  port : Nat
  addr : Bytes
  xid : Nat
  write : Bool
  sub : Nat
  index : Nat
  total : Nat
  segsize : Nat
  window : Nat
  /-- the SEG_INIT body that opened it -/
  initBody : Bytes
  /-- write: segments held; read: segments that the partner has shown as held (no bytes) -/
  held : List (Nat × Bytes)
  /-- read: the snapshot -/
  data : Bytes
  /-- lowest segment not held; NEXT + WINDOW of the last SEG_ACK sent or received -/
  next : Nat
  limit : Nat
  /-- read: the grant was received; highest segment sent + 1; whether SEG_END was sent -/
  granted : Bool
  sent : Nat
  endSent : Bool
  retries : Nat
  gapTimer : Bool
  reserve : Nat
  deriving DecidableEq, Repr

/-- A message that the controller sent (the model's record of what a partner saw). -/
structure TxMsg where
  port : Nat
  addr : Bytes
  bytes : Bytes
  deriving DecidableEq, Repr

/-- The parameters that APPLY puts into force: those of the ports, and 0x1110.01 to .03. -/
structure CommSet where
  cfgs : List NetCfg
  rollcallS : Nat
  idleS : Nat
  provPort : Nat
  deriving DecidableEq, Repr

/-- NET and DDP. -/
structure Net where
  ports : Vector NetPortState 8
  rollcallS : Nat := 10
  idleS : Nat := 60
  provPort : Nat := 0
  partners : List Partner := []
  sessions : Vector (Option Session) 16 := Vector.replicate 16 none
  transfers : List Transfer := []
  macFails : Word := 0
  replays : Word := 0
  abortsSent : Word := 0
  rxOverflows : Word := 0
  refusals : Word := 0
  aboveLimit : Word := 0
  /-- failed proofs: port, address, time -/
  proofFails : List (Nat × Bytes × Nat) := []
  /-- locked out addresses: port, address and end (R314) -/
  lockouts : List (Nat × Bytes × Nat) := []
  tx : List TxMsg := []
  /-- the abort code that the last write outside a session ended with, 0 for none (the model's record) -/
  lastAbort : Word := 0
  /-- APPLY (R331): scheduled; the time at which it, or the end of its validation, falls due; the previous parameters, kept
  through a power failure, and the ports that wait for a session -/
  applyDue : Bool := false
  applyAt : Nat := 0
  applyOld : Option CommSet := none
  applyWait : List Nat := []
  applyStatus : Nat := 0
  /-- 0x1211 -/
  derive1211 : Word := 0
  deriving DecidableEq, Repr

end Sys2Proof.Machine
end

