-- ==== Sys2Proof/Machine/PwrTypes.lean ====
section
/-! DEFINITION. The state of the power and budget manager (chapter 12). -/
namespace Sys2Proof.Machine

/-- PWR (Table 12.7). Temperatures are in 0.1 °C. -/
structure Pwr where
  /-- 0x2100.02 -/
  netTol : Half := 0xFFFF
  cap : Nat := 5000000
  rate : Nat := 250
  ceil : Nat := 95
  level : Nat := 0
  temps : Vector Int 4 := Vector.replicate 4 0
  sfail : BitVec 4 := 0
  atCeil : Bool := false
  crit : Bool := false
  tmax : Int := 0
  waiting : Byte := 0
  blocked : Byte := 0
  lastClass : BitVec 4 := 0
  lastRank : BitVec 4 := 0
  spent : DWord := 0
  exempt : DWord := 0
  hbytes : DWord := 0
  /-- data-path traffic has reached 6.4 GB/s in a 1 µs interval since a deeper state was last entered -/
  traffic : Bool := false
  wakePort : BitVec 5 := 0
  wakeKind : BitVec 3 := 0
  wakeFrom : BitVec 3 := 0
  /-- PWR_RES_Pk in ms -/
  res : Vector SatCount 5 := Vector.replicate 5 {}
  /-- time base at which the present state was entered -/
  since : Nat := 0
  vbakMv : Nat := 0
  deriving DecidableEq, Repr

end Sys2Proof.Machine
end

