-- ==== Sys2Proof/Machine/SideTypes.lean ====
section
/-! DEFINITION. The state of the host control sidebands, the alert and the tamper inputs (chapter 19). -/
namespace Sys2Proof.Machine

/-- HCS (Table 19.7); pad HCn_PWREN is high while `pwren` or `pend` holds for the host. -/
structure Hcs where
  pwren : BitVec 24 := 0
  run : BitVec 24 := 0
  egr : BitVec 24 := 0
  hold : BitVec 24 := 0
  pend : BitVec 24 := 0
  alertFw : Bool := false
  alertBoot : Bool := true
  deriving DecidableEq, Repr

/-- TMP (Table 19.11): `level` bit k is the debounced level of input k. -/
structure Tmp where
  cfg : Word := 0
  level : BitVec 8 := 0
  latch : BitVec 8 := 0
  deriving DecidableEq, Repr

end Sys2Proof.Machine
end

