-- ==== Sys2Proof/Machine/UpdateTypes.lean ====
section
/-! DEFINITION. The state of updates (chapter 8) and of the settings generations (R343 to R351). -/
namespace Sys2Proof.Machine

/-- Host n's entry of an activation record (Table 8.11a). -/
structure ActHost where
  pref : Nat := 0
  trial : Bool := false
  genA : Half := 0
  genB : Half := 0
  genR : Half := 0
  token : Word := 0
  sec : Word := 0
  deriving DecidableEq, Repr

/-- An activation record (Table 8.11a). -/
structure ActRecord where
  /-- its CRC is whole -/
  whole : Bool := true
  trial : Bool := false
  migrate : Bool := false
  fwNamed : Bool := false
  actSeq : Word := 0
  sylSeq : Word := 0
  settingsDir : Word := 0
  sourceDir : Word := 0
  fwPref : Nat := 0
  budget : Nat := 3
  deadlineS : Nat := 120
  fwGen0 : Half := 0
  fwGen1 : Half := 0
  fwSec : Word := 0
  trialHosts : BitVec 24 := 0
  confirmWseq : DWord := 0
  sylId : Bytes := List.replicate 16 0
  hosts : Vector ActHost 24 := Vector.replicate 24 {}
  deriving DecidableEq, Repr

inductive UpdState where
  | idle | receiving | checking | staged | activating | trial | reverting
  deriving DecidableEq, Repr

/-- A stored block that a directory lists: block, NV byte offset or envelope-store index, the generation it was written
under, and the length and check word of what was stored. -/
structure Inst where
  block : Nat
  loc : Nat
  gen : Word
  /-- BODY_LEN and CHECK -/
  len : Nat
  check : Nat
  deriving DecidableEq, Repr

/-- A settings generation: its directory, the values that differ from their defaults (index, subindex), and the images of
its Timetable, Bell schedule and gate set blocks by BLOCK_ID (R346 to R348). -/
structure Generation where
  gen : Word
  dirSeq : Word
  insts : List Inst := []
  vals : List ((Nat × Nat) × Nat)
  blobs : List (Nat × Bytes)
  deriving DecidableEq, Repr

/-- A controller firmware slot (chapter 16): envelope and image bytes. -/
structure FwSlot where
  slot : Nat := 0
  /-- the boot record locates a copy whose header is whole -/
  present : Bool := false
  gen : Half := 0
  /-- every page up to the image's end is readable on a copy -/
  readable : Bool := true
  slotCrc : Word := 0
  envelope : Bytes := []
  image : Bytes := []
  deriving DecidableEq, Repr

/-- The patch engine (Table 8.7). -/
structure Pat where
  busy : Bool := false
  done : Bool := false
  err : BitVec 4 := 0
  host : BitVec 5 := 0
  item : BitVec 6 := 0
  slot : BitVec 2 := 0
  out : DWord := 0
  ops : Word := 0
  errPos : Word := 0
  abort : Bool := false
  deriving DecidableEq, Repr

/-- The update engine (R235 to R257). -/
structure Update where
  state : UpdState := .idle
  outcome : Nat := 0
  resume : Nat := 0
  bundleLen : Nat := 0
  bundle : Bytes := []
  /-- Syllabus signed part in force when IDLE -/
  sylInForce : Bytes := []
  lastRevert : Nat := 0
  rec0 : ActRecord := {}
  rec1 : ActRecord := { whole := false }
  /-- ACT_WORD.RECORD -/
  actSel : Bool := false
  trialCount : Nat := 0
  /-- ACT_SEQ[23:0] that TRIAL_COUNT belongs to -/
  trialCountSeq : Nat := 0
  deadline : Option Nat := none
  /-- hosts whose condition of R248 is met in this run -/
  met : BitVec 24 := 0
  selfTest : Bool := false
  /-- conditions of R250 met, writes held -/
  confirming : Bool := false
  gens : List Generation := [{ gen := 0, dirSeq := 0, vals := [], blobs := [] }]
  /-- BLOCK_IDs defaulted at the last load, and SYS_CFGFLAGS.DIR (R350, R351) -/
  defaulted : List Nat := []
  dirDefault : Bool := false
  pat : Pat := {}
  fw0 : FwSlot := {}
  fw1 : FwSlot := { slot := 1 }
  /-- 0x2803 -/
  lock : Bool := false
  vbakMinMv : Nat := 1200
  budgetDefault : Nat := 3
  deadlineDefault : Nat := 120
  actWaitS : Nat := 60
  bundleAreaMib : Nat := 1024
  deriving DecidableEq, Repr

end Sys2Proof.Machine
end

