-- ==== Sys2Proof/Machine/SysTypes.lean ====
section
/-! DEFINITION. The state of start-up (chapter 16), clocks and resets (chapter 17) and the NV store controller (R353). -/
namespace Sys2Proof.Machine

/-- SYS (Table 16.9). -/
structure Sys where
  kind : BitVec 2 := 0
  inRom : Bool := true
  slot : Bool := false
  trialFw : Bool := false
  recovery : Bool := false
  counted : Bool := false
  recordBad : Bool := false
  slot0Result : BitVec 4 := 0xF
  slot1Result : BitVec 4 := 0xF
  revert : BitVec 3 := 0
  /-- the present restart was requested with ROLL -/
  roll : Bool := false
  wdtMs : Half := 1000
  wdtEn : Bool := false
  /-- time base of the last kick -/
  wdtKicked : Nat := 0
  /-- time base at which the confirmation watchdog expires; none when it is not armed -/
  cwdt : Option Nat := none
  rstatOutcome : BitVec 4 := 0
  rstatBusy : Bool := false
  /-- in recovery listen: 0 no, else the cause of EV 0x0B05 -/
  listen : Nat := 0
  /-- recovery listen's download: state, outcome, BUNDLE_LEN and resume offset; its bytes lie in SRAM (R450) -/
  rState : UpdState := .idle
  rOutcome : Nat := 0
  rLen : Nat := 0
  rResume : Nat := 0
  deriving DecidableEq, Repr

/-- A copy of the boot record is whole (R437), and what it locates (R436). -/
structure Boot where
  recordWhole : Bool := true
  seq : Word := 0
  deriving DecidableEq, Repr

/-- CLK (Table 17.7), the supervisors and the time-base floor (R461). -/
structure Clk where
  coreLock : Bool := false
  chLock : Bool := false
  netLock : Bool := false
  refOk : Bool := false
  x32Ok : Bool := false
  x32Fail : Bool := false
  rstCause : BitVec 7 := 0
  utcSetLo : Word := 0
  netLoss : SatCount := {}
  floor : DWord := 0
  floorSaves : Nat := 0
  /-- the 16-bit fraction of R460 -/
  tbFrac : Half := 0
  /-- the cause of a cold reset that a fuse group write holds off (R472), a bit of CLK_RSTCAUSE -/
  heldReset : Option Nat := none
  deriving DecidableEq, Repr

/-- A word write in progress (R352): offset and value; `held` while VDD is low (R474). -/
structure NvWrite where
  offset : Nat
  value : Word
  held : Bool
  deriving DecidableEq, Repr

/-- NVC (Table 11.15). -/
structure Nvc where
  write : Option NvWrite := none
  reject : Bool := false
  vfail : Bool := false
  addr : BitVec 23 := 0
  wdata : Word := 0
  corr : SatCount := {}
  unc : SatCount := {}
  uncAddr : BitVec 23 := 0
  deriving DecidableEq, Repr

end Sys2Proof.Machine
end

