-- ==== Sys2Proof/Machine/State.lean ====
section
/-! DEFINITION. The block's state as plain data, the reasons a step can stop, and the state after power-on reset. -/
namespace Sys2Proof.Machine

inductive Part where
  | kr9624 | kr9612
  deriving DecidableEq, Repr

inductive PowerState where
  | p0 | p1 | p2 | p3 | p4
  deriving DecidableEq, Repr

/-- Reasons a step stops with a fault. The spec gives every command of the table an effect, so none is raised. -/
inductive Fault where
  /-- Raised by no command; it stands so that a later meaning can stop safely where the spec gives no effect. -/
  | noEffectGiven
  deriving DecidableEq, Repr

/-- Reasons a step is refused. -/
inductive Refusal where
  /-- Raised by a dispatch arm whose command has no meaning yet; safe, since the machine stops. -/
  | notModelled (mnemonic : String)
  deriving DecidableEq, Repr

structure State where
  pending : List Instr
  /-- how many open choices and values the run has taken (the model's own counter) -/
  free : Nat
  part : Part
  timeBase : DWord
  utc : Option DWord
  netBoot : Word
  restarting : Bool
  power : PowerState
  vddWarn : Bool
  evl : Evl
  ports : Vector Port 24
  tt : Vector TtHost 24
  ttb : TtbRegs
  chans : Vector Channel 24
  plc : Placement
  img : Vector HostImg 24
  /-- digest lists in the list area: host, address, length (R183) -/
  lists : List (Nat × Nat × Nat)
  gates : Vector Gate 22
  lcc : Lcc
  dbg : Dbg
  keys : KeyStore
  ctr : Counters
  rng : Rng
  dgc : Dgc
  sig : SigV
  upd : Update
  hcs : Hcs
  tmp : Tmp
  sys : Sys
  boot : Boot
  clk : Clk
  nvc : Nvc
  pwr : Pwr
  net : Net
  arc : Arc
  signer : Signer
  /-- snapshots of RS registers by master ID and register address (R10) -/
  latches : List ((Nat × Nat) × Word)
  /-- internal SRAM from 0x1000_0000, and the NV store's words, by byte address in the internal map -/
  sram : Mem
  nv : Mem
  deriving DecidableEq, Repr

/-- A verification key for controller firmware, as Yalrath loads it (R529). -/
def shippedSlot (k : Nat) : KeySlot :=
  let key := leBytes 60 (Config.firmwareKey k).toNat
  { typ := 3, policy := 0xFFFF0004, key := key, keyId := (Hash.sha256 key).take 8 }

/-- A shipped unit (R529) right after its first power-on reset: in the Integrator state, with slots 62 and 63 loaded, every register at
its reset value, and the time base one minute past a floor of zero (R461). -/
def State.reset : State where
  pending := []
  free := 0
  part := .kr9624
  timeBase := 60000000
  utc := none
  netBoot := 0
  restarting := false
  power := .p0
  vddWarn := false
  evl := {}
  ports := Vector.replicate 24 {}
  tt := Vector.replicate 24 {}
  ttb := {}
  chans := Vector.replicate 24 {}
  plc := {}
  img := Vector.replicate 24 {}
  lists := []
  gates := Vector.replicate 22 {}
  lcc :=
    { fuses := ((((Vector.replicate 16 0).set 0 0x5A5AA5A5).set 1 0x3C3CC3C3).set 2 0x0FF0F00F).set 3 0x69699696
      state := .integrator }
  dbg := {}
  keys := { slots := ((Vector.replicate 64 {}).set 62 (shippedSlot 0)).set 63 (shippedSlot 1) }
  ctr := {}
  rng := {}
  dgc := {}
  sig := {}
  upd := {}
  hcs := {}
  tmp := {}
  sys := {}
  boot := {}
  clk := { rstCause := 1 }
  nvc := {}
  pwr := { since := 60000000 }
  net := { ports := Vector.replicate 8 { cfg := NetCfg.off } }
  arc := {}
  signer := {}
  latches := []
  sram := []
  nv := []

end Sys2Proof.Machine
end

