-- ==== Sys2Proof/Machine/Ops.lean ====
section
/-! DEFINITION. Operations that every chapter shares: check words, updates of one host or channel, raising an event,
and the outcome of a command. -/
namespace Sys2Proof.Machine

/-- The outcome of a command whose effect is `s`. -/
abbrev done (s : State) : Host.Outcome State Fault Refusal := .next s

/-- Update one element. -/
def updV {α : Type} {n : Nat} (v : Vector α n) (i : Fin n) (f : α → α) : Vector α n := v.set i (f (v.get i))

/-! ## Check words (R65, R42) -/

/-- Eight shifts of the reflected CRC-32C register (polynomial 0x1EDC6F41 reflected). -/
def crcShift : Nat → Nat → Nat
  | 0, c => c
  | n + 1, c => crcShift n (if c % 2 = 1 then (c / 2) ^^^ 0x82F63B78 else c / 2)

/-- CRC-32C over bytes (R65). -/
def crc32c (bs : Bytes) : Nat :=
  (bs.foldl (fun c b => crcShift 8 (c ^^^ b.toNat)) 0xFFFFFFFF) ^^^ 0xFFFFFFFF

/-- Eight shifts of the CRC-8 register, polynomial 0x07 (R42). -/
def crc8Shift : Nat → Nat → Nat
  | 0, c => c
  | n + 1, c => crc8Shift n (if c ≥ 128 then ((c * 2) ^^^ 0x107) else c * 2)

/-- CRC-8 with polynomial 0x07, initial value 0, no reflection (R42). -/
def crc8 (bs : Bytes) : Nat := bs.foldl (fun c b => crc8Shift 8 (c ^^^ b.toNat)) 0

/-- SEQUENCE `a` is newer than `b` (R175). -/
def newer32 (a b : Nat) : Bool :=
  let d := (a + 2 ^ 32 - b) % 2 ^ 32
  1 ≤ d && d < 2 ^ 31

/-! ## Events (R486, R487) -/

/-- Block numbers of Table 1.1, the SOURCE of a hardware event. -/
def srcHPC : Nat := 1
def srcTTB : Nat := 2
def srcPLC : Nat := 4
def srcFCC : Nat := 6
def srcDGC : Nat := 8
def srcSIG : Nat := 9
def srcKEY : Nat := 10
def srcCTR : Nat := 11
def srcRNG : Nat := 12
def srcROM : Nat := 14
def srcNVC : Nat := 15
def srcGATE : Nat := 16
def srcPAT : Nat := 17
def srcARC : Nat := 18
def srcNET : Nat := 19
def srcPWR : Nat := 21
def srcSYS : Nat := 22
def srcFW : Nat := 0

/-- Entries of the event queue. -/
def evlQueueLen : Nat := 256
/-- Record slots of the ring. -/
def evlRingLen : Nat := 10240
/-- Events of one code accepted in one second. -/
def evlCodeLimit : Nat := 64

/-- How many events of a code were accepted in the current second. -/
def countOf (counts : List (Nat × Nat)) (code : Nat) : Nat :=
  (counts.find? (fun p => p.1 == code)).elim 0 Prod.snd

def bumpCount (counts : List (Nat × Nat)) (code : Nat) : List (Nat × Nat) :=
  (code, countOf counts code + 1) :: counts.filter (fun p => p.1 != code)

/-- EVL with the count of accepted events started afresh in a new second of time base. -/
def Evl.atSecond (e : Evl) (sec : Nat) : Evl := if e.second = sec then e else { e with second := sec, counts := [] }

/-- EVL takes an event, or drops and counts it (R487). -/
def Evl.accept (e0 : Evl) (ev : Event) : Evl :=
  let e := e0.atSecond (ev.tb.toNat / 1000000)
  if evlQueueLen ≤ e.queue.length ∨ (ev.code ≠ 0x0002 ∧ evlCodeLimit ≤ countOf e.counts ev.code) ∨
      (0 < e.dropped ∧ evlQueueLen < e.queue.length + 2) then
    { e with drop := e.drop.inc, dropped := e.dropped + 1 }
  else if 0 < e.dropped then
    { e with
      queue := e.queue ++ [{ ev with code := 0x0002, source := srcSYS, params := p32 e.dropped }, ev]
      counts := bumpCount e.counts ev.code
      dropped := 0 }
  else { e with queue := e.queue ++ [ev], counts := bumpCount e.counts ev.code }

/-- Raise EV `code` with its packed parameters (R484). -/
def State.raise (s : State) (code source : Nat) (params : Bytes) : State :=
  { s with evl := s.evl.accept { code, source, params, tb := s.timeBase, boot := s.netBoot } }

/-- Raise an event when `b` holds. -/
def State.raiseIf (s : State) (b : Bool) (code source : Nat) (params : Bytes) : State :=
  if b then s.raise code source params else s

/-! ## One host, one channel -/

def State.port (s : State) (h : Host24) : Port := s.ports.get h
def State.ttOf (s : State) (h : Host24) : TtHost := s.tt.get h
def State.imgOf (s : State) (h : Host24) : HostImg := s.img.get h
def State.chan (s : State) (c : Chan) : Channel := s.chans.get c

def State.modPort (s : State) (h : Host24) (f : Port → Port) : State := { s with ports := updV s.ports h f }
def State.modHpw (s : State) (h : Host24) (f : Hpw → Hpw) : State := s.modPort h fun p => { p with hpw := f p.hpw }
def State.modTt (s : State) (h : Host24) (f : TtHost → TtHost) : State := { s with tt := updV s.tt h f }
def State.modImg (s : State) (h : Host24) (f : HostImg → HostImg) : State := { s with img := updV s.img h f }
def State.modChan (s : State) (c : Chan) (f : Channel → Channel) : State := { s with chans := updV s.chans c f }
def State.modSel (s : State) (c : Chan) (k : Sel) (f : Select → Select) : State :=
  s.modChan c fun ch => { ch with sels := updV ch.sels k f }
def State.modPlc (s : State) (f : Placement → Placement) : State := { s with plc := f s.plc }
def State.modEvl (s : State) (f : Evl → Evl) : State := { s with evl := f s.evl }

/-- The part, as HPW_ID.PART reports it (Table 2.13). -/
def State.partCode (s : State) : Nat := match s.part with
  | .kr9624 => 0x24
  | .kr9612 => 0x12

/-- Ports and channels 12 to 23 of the KR9612 (R2). -/
def State.fused (s : State) (n : Nat) : Bool := s.part = .kr9612 && 12 ≤ n

/-- The bits of a host or channel mask that this part has. -/
def State.maskBits (s : State) : BitVec 24 := match s.part with
  | .kr9624 => BitVec.allOnes 24
  | .kr9612 => 0x000FFF

/-- All 24 indices, in order. -/
def all24 : List (Fin 24) := List.finRange 24
def all4 : List (Fin 4) := List.finRange 4

/-- Apply an effect for each index in order. -/
def forEach {α : Type} (xs : List α) (f : α → State → State) (s : State) : State := xs.foldl (fun t x => f x t) s

/-- Seconds of the time base. -/
def State.sec (s : State) : Nat := s.timeBase.toNat / 1000000

/-- HPW_ATTN.CAUSE bits (Table 2.13). -/
def causeMbDone : Nat := 0
def causeEpoch : Nat := 1
def causeSteady : Nat := 2
def causeTrialDue : Nat := 3
def causePowerWarn : Nat := 4
def causeUpdateStaged : Nat := 5

def setCause (n : Nat) (w : Hpw) : Hpw := { w with attnCause := w.attnCause ||| BitVec.ofNat 8 (2 ^ n) }

def HostState.code : HostState → Nat
  | .off => 0 | .held => 1 | .measuring => 2 | .hallPass => 3 | .trial => 4 | .running => 5 | .detention => 6

/-- HPC_STAT sticky bits (Table 2.11). -/
def stTorn : Nat := 0
def stOverlong : Nat := 1
def stFilled : Nat := 2
def stCmdBad : Nat := 3
def stUnderrun : Nat := 4
def stCrcBad : Nat := 5
def stRdyTimeout : Nat := 6
def stDenied : Nat := 7
def stMbReject : Nat := 8

def Port.setStat (p : Port) (n : Nat) : Port := { p with stat := p.stat ||| BitVec.ofNat 9 (2 ^ n) }

/-! ## The archive area (R269, R276) -/

/-- Pages of Terms that are not retired, and two pages for the seal of every closed Term. -/
def Arc.usedBytes (a : Arc) : Nat := a.pages.length * 4096 + (a.seals.length + a.awaiting.length) * 8192

end Sys2Proof.Machine
end

