-- ==== Sys2Proof/Machine/Timetable.lean ====
section
/-! DEFINITION. Timetables (chapter 3): reading an image, checks 1 to 11 of Table 3.10, the clause engine, and the
factory Timetable. -/
namespace Sys2Proof.Machine

/-! ## Clauses (Table 3.5), ranges (R70), opcode index entries (Table 3.3) -/

def Clause.opc (c : Clause) : Nat := bits c.w0 0 8
def Clause.mask (c : Clause) : Nat := bits c.w0 8 8
def Clause.modes (c : Clause) : Nat := bits c.w0 16 6
def Clause.addrTest (c : Clause) : Nat := bits c.w0 22 2
def Clause.range (c : Clause) : Nat := bits c.w1 0 10
def Clause.dummy (c : Clause) : Nat := bits c.w1 10 6
def Clause.action (c : Clause) : Nat := bits c.w1 16 4
def Clause.pinned (c : Clause) : Bool := bit c.w1 20
def Clause.hall (c : Clause) : Bool := bit c.w1 21
def Clause.cont (c : Clause) : Bool := bit c.w1 22
def Clause.log (c : Clause) : Bool := bit c.w1 23
def Clause.arg0 (c : Clause) : Nat := c.w2 % 2 ^ 32
def Clause.arg1 (c : Clause) : Nat := bits c.w3 0 16

def Range.xmode (r : Range) : Nat := bits r.attr 0 2
def Range.mirror (r : Range) : Bool := bit r.attr 2

def idxFirst (e : Nat) : Nat := bits e 0 12
def idxCount (e : Nat) : Nat := bits e 12 7
def idxShape (e : Nat) : Nat := bits e 19 6

/-- The standard opcodes of Table 3.4 in the order of SHAPE 0x01 to 0x1F. -/
def standardOpcodes : List Nat :=
  [0x03, 0x13, 0x0B, 0x0C, 0xBC, 0xEC, 0xCC, 0xEE, 0x12, 0x02, 0x21, 0x20, 0xDC, 0xD8, 0xC7,
   0x06, 0x04, 0x05, 0x70, 0x50, 0x01, 0x81, 0x85, 0xB7, 0xE9, 0x9F, 0x5A, 0x66, 0x99, 0xB9, 0xAB]

/-- The shape of a standard opcode; 0 for any other. -/
def standardShape (op : Nat) : Nat :=
  if standardOpcodes.contains op then standardOpcodes.idxOf op + 1 else 0

def shMBW : Nat := 0x20
def shMBR : Nat := 0x21

/-- Frame classes (Table 3.4). -/
inductive FrameClass where
  | read | program | erase | eraseAll | control | mailbox
  deriving DecidableEq, Repr

def classOf (shape : Nat) : FrameClass :=
  if shape ≤ 8 then .read
  else if shape ≤ 0xA then .program
  else if shape ≤ 0xE then .erase
  else if shape = 0xF then .eraseAll
  else if shape ≤ 0x1F then .control
  else .mailbox

/-- Interface modes in which a shape occurs (Table 2.2), as the MODES bits of Table 3.5. -/
def shapeModes (shape : Nat) : Nat :=
  if shape ≤ 4 then 0b000001
  else if shape = 5 then 0b000010
  else if shape = 6 then 0b000100
  else if shape = 7 then 0b001000
  else if shape = 8 then 0b110000
  else if shape = 0xA ∨ shape = 0xC ∨ shape = 0xE ∨ shape = 0x18 ∨ shape = 0x19 then 0b000001
  else 0b110001

/-- Interface modes of the command states that MODES_PERMITTED allows. -/
def permittedModes (mp : Nat) : Nat :=
  (if bit mp 0 then 0b001111 else 0) + (if bit mp 1 then 0b010000 else 0) + (if bit mp 2 then 0b100000 else 0)

/-- Clocks of the mode byte (Table 2.2) for a shape in interface mode `m`. -/
def modeClocks (shape m : Nat) : Nat :=
  if shape = 5 then 4 else if shape = 6 then 2 else if shape = 8 ∧ m = 4 then 1 else 0

/-! ## Reading an image (R65, R66) -/

def pad16 (n : Nat) : Nat := (n + 15) / 16 * 16

def words (img : Bytes) (off n : Nat) : List Nat := (List.range n).map fun i => u32 img (off + 4 * i)

def Timetable.rangeOff : Nat := 0x680

/-- The image's sections as data; lengths are those that the header states. -/
def Timetable.parse (img : Bytes) : Timetable :=
  let cc := u16 img 0x22
  let rc := u16 img 0x24
  let sl := u16 img 0x26
  let poolOff := 0x680 + 16 * rc
  let clOff := poolOff + pad16 sl
  { host := u8 img 8, part := u8 img 9, flags := u16 img 0xA, generation := u32 img 0xC
    sequence := u32 img 0x10, vsizePages := u32 img 0x14, cfg := u32 img 0x18, rdyTmo := u32 img 0x1C
    modesPermitted := u8 img 0x20, defaultAction := u8 img 0x21
    serviceMask := u32 img 0x28, hpwDeny := u32 img 0x2C
    idBytes := field img 0x31 (min (u8 img 0x30) 6)
    tNorNs := u16 img 0x38, hallDeadlineMs := u32 img 0x3C
    times := (List.range 7).map fun i => u16 img (0x40 + 2 * i)
    index := words img 0x200 256
    costs := (List.range 16).map fun i => (u32 img (0x600 + 8 * i), u32 img (0x604 + 8 * i))
    ranges := (List.range rc).map fun i =>
      let o := 0x680 + 16 * i
      { base := u32 img o, last := u32 img (o + 4), attr := u32 img (o + 8), rsvd := u32 img (o + 12) }
    pool := field img poolOff sl
    clauses := (List.range cc).map fun i =>
      let o := clOff + 16 * i
      { w0 := u32 img o, w1 := u32 img (o + 4), w2 := u32 img (o + 8), w3 := u32 img (o + 12) } }

def Timetable.detain (t : Timetable) : Bool := bit t.flags 0
def Timetable.factoryFlag (t : Timetable) : Bool := bit t.flags 1
def Timetable.entry (t : Timetable) (op : Nat) : Nat := t.index.getD op 0
def Timetable.rangeAt (t : Timetable) (i : Nat) : Range := t.ranges.getD i { base := 0, last := 0, attr := 0, rsvd := 0 }
/-- The clauses of an opcode's span, with their indices. -/
def Timetable.span (t : Timetable) (op : Nat) : List (Nat × Clause) :=
  let e := t.entry op
  (((List.range t.clauses.length).zip t.clauses).drop (idxFirst e)).take (idxCount e)

/-! CFG fields (Table 2.11). -/

def cfgEn (c : Nat) : Bool := bit c 0
def cfgRdyEn (c : Nat) : Bool := bit c 1
def cfgNative (c : Nat) : Bool := bit c 2
def cfgNativeCrc (c : Nat) : Bool := bit c 3 && bit c 2
def cfgContEn (c : Nat) : Bool := bit c 4
def cfgPrefetchEn (c : Nat) : Bool := bit c 5
def cfgHallOk (c : Nat) : Bool := bit c 6
def cfgFill (c : Nat) : Byte := BitVec.ofNat 8 (bits c 8 8)
def cfgProgUnit (c : Nat) : Nat := 2 ^ bits c 16 4
def cfgMbDummy (c : Nat) : Nat := bits c 20 6

/-! ## Checks of Table 3.10 -/

def ttCheck1 (img : Bytes) : Bool :=
  let len := 1664 + 16 * u16 img 0x24 + pad16 (u16 img 0x26) + 16 * u16 img 0x22 + 4
  u32 img 0 = 0x5454524B && u16 img 4 = 1 && u16 img 6 = 0x200 && img.length = len &&
    u32 img 0x1FC = crc32c (img.take 0x1FC) && u32 img (len - 4) = crc32c (img.take (len - 4))

def ttCheck2 (t : Timetable) (host part : Nat) (fused : Bool) : Bool :=
  t.host = host && (t.part = 0 || t.part = part) && !fused

/-- Bits of ARG0 and ARG1 without a meaning for the clause's action are zero (Table 3.5). -/
def clauseReserved (c : Clause) : Bool :=
  bits c.w0 24 8 = 0 && bits c.w1 24 8 = 0 && bits c.w3 16 16 = 0 && c.action < 6 &&
    (match c.action with
      | 0 | 1 => c.arg1 = 0
      | 3 => true
      | 4 => c.arg0 < 512 && c.arg1 = 0
      | _ => c.arg0 = 0 && c.arg1 = 0)

def ttCheck3 (img : Bytes) (t : Timetable) : Bool :=
  t.flags < 4 && t.cfg < 2 ^ 26 && t.rdyTmo < 2 ^ 16 && t.modesPermitted < 8 &&
    !bit t.serviceMask 0 && t.serviceMask < 2 ^ 11 && t.hpwDeny < 2 ^ 17 &&
    allZero (field img (0x31 + min (u8 img 0x30) 6) (7 - min (u8 img 0x30) 6)) &&
    allZero (field img 0x3A 2) && allZero (field img 0x4E (0x1FC - 0x4E)) &&
    t.index.all (fun e => e < 2 ^ 25) &&
    t.costs.all (fun p => p.1 < 2) && (t.costs.drop 8).all (fun p => p.1 = 0 && p.2 = 0) &&
    t.ranges.all (fun r => r.attr < 8 && r.xmode ≠ 3 && r.rsvd = 0) &&
    allZero (field img (0x680 + 16 * t.ranges.length + t.pool.length) (pad16 t.pool.length - t.pool.length)) &&
    t.clauses.all clauseReserved

def ttCheck4 (t : Timetable) : Bool :=
  let pu := bits t.cfg 16 4
  4 ≤ pu && pu ≤ 12 && cfgMbDummy t.cfg ≤ 63 &&
    cfgPrefetchEn t.cfg == t.ranges.any (fun r => r.xmode = 2) &&
    cfgEn t.cfg == !t.detain && (!t.detain || !cfgHallOk t.cfg) &&
    1 ≤ t.rdyTmo && t.rdyTmo ≤ 65535

def ttCheck5 (img : Bytes) (t : Timetable) : Bool :=
  u16 img 0x22 ≤ 4096 && u16 img 0x24 ≤ 512 && u16 img 0x26 ≤ 6144 &&
    1 ≤ t.vsizePages && t.vsizePages ≤ 0x100000 && bit t.modesPermitted 0 &&
    (t.defaultAction = 2 || t.defaultAction = 4) && 3 ≤ u8 img 0x30 && u8 img 0x30 ≤ 6

/-- R68 for one opcode. -/
def shapeAllowed (op e : Nat) : Bool :=
  let sh := idxShape e
  if sh = 0 then e = 0
  else if standardOpcodes.contains op then sh = standardShape op
  else sh = shMBW && (op = 0xE3 || op ≠ 0xE4 && op ≠ 0 && op ≠ 0xFF) ||
    sh = shMBR && (op = 0xE4 || op ≠ 0xE3 && op ≠ 0 && op ≠ 0xFF)

def opTest (op : Nat) (c : Clause) : Bool := (op &&& c.mask) = (c.opc &&& c.mask)

def ttCheck6 (t : Timetable) : Bool :=
  (List.range 256).all (fun op =>
    let e := t.entry op
    idxFirst e + idxCount e ≤ t.clauses.length && idxCount e ≤ 64 &&
      (t.span op).all (fun p => opTest op p.2) && shapeAllowed op e) &&
    (t.index.filter (fun e => idxShape e = shMBW)).length ≤ 1 &&
    (t.index.filter (fun e => idxShape e = shMBR)).length ≤ 1

/-- Actions that Table 3.7 does not refuse at commit. -/
def actionAllowed (cl : FrameClass) (a : Nat) : Bool :=
  match cl with
  | .read => a ≤ 4
  | .program | .erase => a ≤ 2
  | .eraseAll => a ≤ 1
  | .control => a = 0 || a = 2
  | .mailbox => a = 2 || a = 5

/-- All clauses of all spans with opcode and shape. -/
def Timetable.uses (t : Timetable) : List (Nat × Nat × Clause) :=
  (List.range 256).flatMap fun op => (t.span op).map fun p => (op, idxShape (t.entry op), p.2)

def clauseFits (t : Timetable) (sh : Nat) (c : Clause) : Bool :=
  let cl := classOf sh
  actionAllowed cl c.action &&
    (c.modes &&& (shapeModes sh &&& permittedModes t.modesPermitted)) = c.modes &&
    (if c.addrTest = 1 ∨ c.addrTest = 2 then cl = .read || cl = .program || cl = .erase || cl = .eraseAll && c.addrTest = 1
      else cl ≠ .eraseAll) &&
    (decide (c.range < t.ranges.length) == (c.addrTest = 1 || c.addrTest = 2))

def ttCheck7 (t : Timetable) : Bool := t.uses.all fun (_, sh, c) => clauseFits t sh c

def modesOf (c : Clause) : List Nat := (List.range 6).filter fun m => bit c.modes m

def ttCheck8 (t : Timetable) : Bool :=
  t.uses.all fun (op, sh, c) =>
    if classOf sh = .read then
      (modesOf c).all (fun m =>
        (t.span op).all (fun p => !bit p.2.modes m || p.2.dummy = c.dummy) &&
        modeClocks sh m + c.dummy ≤ 63 &&
        (!((c.addrTest = 1 || c.addrTest = 2) && (t.rangeAt c.range).xmode = 2) || 4 ≤ modeClocks sh m + c.dummy)) &&
      (2 < sh || c.dummy = 0)
    else if sh = shMBR then c.dummy = cfgMbDummy t.cfg
    else c.dummy = 0

def ttCheck9 (t : Timetable) : Bool :=
  t.ranges.all (fun r => r.base % 4096 = 0 && r.last % 4096 = 0xFFF && r.base ≤ r.last) &&
    t.clauses.all (fun c => 1 < c.action || c.arg0 % 4096 = 0) &&
    t.clauses.all (fun c =>
      !(c.action ≤ 1 && (c.addrTest = 1 || c.addrTest = 2)) ||
        (let r := t.rangeAt c.range
         let b := (r.base + c.arg0) % 2 ^ 32
         let l := (r.last + c.arg0) % 2 ^ 32
         b ≤ l && l < 4096 * t.vsizePages))

def ttCheck10 (t : Timetable) : Bool :=
  t.detain ||
    (t.clauses.all (fun c =>
      !((c.addrTest = 1 || c.addrTest = 2) && (t.rangeAt c.range).xmode ≠ 0) || c.pinned) &&
     (cfgRdyEn t.cfg || cfgNative t.cfg ||
      t.uses.all (fun (_, sh, c) => !(classOf sh = .read && c.action ≤ 1) || c.pinned)))

def ttCheck11 (t : Timetable) : Bool :=
  t.clauses.all fun c => c.action ≠ 3 || (1 ≤ c.arg1 && c.arg0 + c.arg1 ≤ t.pool.length)

/-- The first failed check of 1 to 11, or 0 (R88). -/
def ttFirstFailed (img : Bytes) (host part : Nat) (fused : Bool) : Nat :=
  let t := Timetable.parse img
  if !ttCheck1 img then 1
  else if !ttCheck2 t host part fused then 2
  else if !ttCheck3 img t then 3
  else if !ttCheck4 t then 4
  else if !ttCheck5 img t then 5
  else if !ttCheck6 t then 6
  else if !ttCheck7 t then 7
  else if !ttCheck8 t then 8
  else if !ttCheck9 t then 9
  else if !ttCheck10 t then 10
  else if !ttCheck11 t then 11
  else 0

/-! ## The clause engine (R73, R74) -/

/-- The interface mode of a shape in a command state (Table 2.1). -/
def ifaceMode (cmd : CmdState) (shape : Nat) : Nat :=
  match cmd with
  | .s1 => if shape = 5 then 1 else if shape = 6 then 2 else if shape = 7 then 3 else 0
  | .s4 => 4
  | .d8 => 5

/-- ADDR_TEST for the bytes `lo` to `hi`: a tested address has `lo = hi`, an erase its whole block. -/
def addrTestOk (t : Timetable) (c : Clause) (lo hi : Nat) : Bool :=
  let r := t.rangeAt c.range
  if c.addrTest = 1 then r.base ≤ lo && hi ≤ r.last
  else if c.addrTest = 2 then hi < r.base || r.last < lo
  else true

def clauseMatches (t : Timetable) (op m lo hi : Nat) (c : Clause) : Bool :=
  opTest op c && bit c.modes m && addrTestOk t c lo hi

/-- The first clause of the span that matches (R73). -/
def Timetable.lookup (t : Timetable) (op m lo hi : Nat) : Option (Nat × Clause) :=
  (t.span op).find? fun p => clauseMatches t op m lo hi p.2

/-- A matching clause acts as deny On Hall pass when its HALL bit is 0 (R73). -/
def effAction (hallPass : Bool) (c : Clause) : Nat := if hallPass && !c.hall then 2 else c.action

/-! ## The factory Timetable (R90) -/

def factoryTimetable (host : Nat) : Timetable :=
  { host := host, part := 0, flags := 3, generation := 0, sequence := 0, vsizePages := 1, cfg := 0x0088FF00
    rdyTmo := 2000, modesPermitted := 1, defaultAction := 2, serviceMask := 0, hpwDeny := 0
    idBytes := [0, 0, 0], tNorNs := 0, hallDeadlineMs := 0, times := List.replicate 7 0
    index := (List.range 256).map fun op => standardShape op * 2 ^ 19
    costs := List.replicate 16 (0, 0), ranges := [], pool := [], clauses := [] }

/-- Factory costs of classes 0 to 7 in µJ (Table 3.6). -/
def factoryCosts : List Nat := [900, 900, 4000, 4000, 2000, 1500, 3000, 50]

/-- The bank that the host's port runs under. -/
def TtHost.portTt (t : TtHost) : Option Timetable := if t.portBank then t.bankB else t.bankA
/-- The active (committed) bank, and the inactive one. -/
def TtHost.activeTt (t : TtHost) : Option Timetable := if t.active then t.bankB else t.bankA
def TtHost.inactiveTt (t : TtHost) : Option Timetable := if t.active then t.bankA else t.bankB
def TtHost.stage (t : TtHost) (x : Timetable) : TtHost :=
  if t.active then { t with bankA := some x } else { t with bankB := some x }

/-! ## Writing an image (R65, R66) -/

def padTo (n : Nat) (bs : Bytes) : Bytes := bs ++ List.replicate (n - bs.length) 0

/-- The image of a Timetable, as 0x2400 + n returns it. -/
def Timetable.image (t : Timetable) : Bytes :=
  let hdr := p32 0x5454524B ++ p16 1 ++ p16 0x200 ++ p8 t.host ++ p8 t.part ++ p16 t.flags ++ p32 t.generation ++ p32 t.sequence ++
    p32 t.vsizePages ++ p32 t.cfg ++ p32 t.rdyTmo ++ p8 t.modesPermitted ++ p8 t.defaultAction ++ p16 t.clauses.length ++
    p16 t.ranges.length ++ p16 t.pool.length ++ p32 t.serviceMask ++ p32 t.hpwDeny ++ p8 t.idBytes.length ++ padTo 7 t.idBytes ++
    p16 t.tNorNs ++ p16 0 ++ p32 t.hallDeadlineMs ++ (t.times.flatMap p16)
  let h := padTo 0x1FC hdr
  let body := h ++ p32 (crc32c h) ++ t.index.flatMap p32 ++ (t.costs.flatMap fun c => p32 c.1 ++ p32 c.2) ++
    (t.ranges.flatMap fun r => p32 r.base ++ p32 r.last ++ p32 r.attr ++ p32 r.rsvd) ++ padTo (pad16 t.pool.length) t.pool ++
    (t.clauses.flatMap fun c => p32 c.w0 ++ p32 c.w1 ++ p32 c.w2 ++ p32 c.w3)
  body ++ p32 (crc32c body)

/-- IMAGE_CRC. -/
def Timetable.crc (t : Timetable) : Nat := leNat (t.image.drop (t.image.length - 4))

end Sys2Proof.Machine
end

