-- ==== Sys2Proof/Machine/Gates.lean ====
section
/-! DEFINITION. The access gates (chapter 14): which gate judges an address, the judgement of R404 with the fixed rules
of Table 14.3, the recording of violations and the region registers. -/
namespace Sys2Proof.Machine

def masterId : Master → Nat
  | .host n => n.val | .mgpPriv => 0x20 | .mgpUser => 0x21 | .debug => 0x22 | .dataPath => 0x30 | .hw n => 0x31 + n.val

def accRead : Nat := 0
def accWrite : Nat := 1
def accFetch : Nat := 2

/-- The gate whose range holds an address (Table 14.1). -/
def gateOf (a : Nat) : Option Nat :=
  let pg := a / 0x10000
  if a ≤ 0x0002FFFF then some 0
  else if 0x1000 ≤ pg ∧ pg < 0x1040 then some 1
  else if 0x1040 ≤ pg ∧ pg < 0x1080 then some 2
  else if 0x1080 ≤ pg ∧ pg < 0x10C0 then some 3
  else if 0x10C0 ≤ pg ∧ pg < 0x1100 then some 4
  else if 0x2000 ≤ pg ∧ pg < 0x2080 then some 5
  else if 0x4000 ≤ pg ∧ pg ≤ 0x4002 then some 6
  else if pg = 0x4003 then some 7
  else if 0x40040000 ≤ a ∧ a ≤ 0x400457FF then some 8
  else if pg = 0x4005 then some 9
  else if pg = 0x4006 then some 10
  else if pg = 0x4007 ∨ pg = 0x4008 then some 11
  else if pg = 0x4009 then some 12
  else if pg = 0x400A then some 13
  else if pg = 0x400B then some 14
  else if pg = 0x400C ∨ pg = 0x400D then some 15
  else if pg = 0x400E then some 16
  else if 0x40100000 ≤ a ∧ a ≤ 0x40117FFF then some 17
  else if (0x40200000 ≤ a ∧ a ≤ 0x40217FFF) ∨ pg = 0x4030 then some 18
  else if pg = 0x4040 ∨ pg = 0x4050 then some 19
  else if pg = 0x4060 ∨ pg = 0x4070 then some 20
  else none

/-- The default map's grant (Table 14.1). -/
def defaultMap (g : Nat) (m : Master) (write : Bool) : Bool :=
  match m with
  | .mgpPriv => if g = 0 ∨ g = 5 then !write else g ≤ 20
  | .dataPath => (g = 2 ∨ g = 4) && !write || g = 3
  | .hw n =>
    if g = 2 then n = 2
    else if g = 3 then n ≠ 6 && (n ≠ 1 || !write)
    else if g = 5 then (n = 2 || n = 4) && !write
    else false
  | _ => false

/-- The address lies in an enabled sub-region of the region (R403). -/
def Region.covers (r : Region) (a : Nat) : Bool :=
  let sz := r.size.toNat
  r.en && 8 ≤ sz && sz ≤ 23 &&
    (let b := r.base.toNat / 2 ^ sz * 2 ^ sz
     b ≤ a && a < b + 2 ^ sz && !r.srd.getLsbD ((a - b) / 2 ^ (sz - 3)))

/-- RPERM's grant (Table 14.7). -/
def Region.grants (r : Region) (m : Master) (write : Bool) : Bool :=
  match m with
  | .mgpPriv => r.perm.getLsbD (b2n write)
  | .mgpUser => r.perm.getLsbD (2 + b2n write)
  | .debug => r.perm.getLsbD (4 + b2n write)
  | _ => false

/-- The open debug rule (R406). -/
def State.openDebugRule (s : State) : Bool :=
  s.dbg.open_ && (s.lcc.state = .maker || s.lcc.state = .integrator || s.lcc.state = .returned)

/-- Header areas and clause banks that R84 closes to writes, by SRAM address. -/
def State.ttAreaClosed (s : State) (a : Nat) : Bool :=
  all24.any fun n =>
    [false, true].any fun b =>
      let t := s.ttOf n
      (t.active == b || t.pend) &&
        (let hdr := 0x10F00000 + (24 * b2n b + n.val) * 0x4000
         let cl := (if b then 0x10D80000 else 0x10C00000) + n.val * 0x10000
         (hdr ≤ a && a < hdr + 0x4000) || (cl ≤ a && a < cl + 0x10000))

/-- Active Bell banks (R119). -/
def State.bellAreaClosed (s : State) (a : Nat) : Bool :=
  all24.any fun c =>
    let o := 0x10FC0000 + (24 * b2n (s.chan c).active + c.val) * 0x1000
    o ≤ a && a < o + 0x1000

/-- Where each host's digest list lies (R183): lists stand in the order of release, 32-byte aligned. -/
def listArea : Nat := 0x10A80000
def State.listClosed (s : State) (a : Nat) (lists : List (Nat × Nat × Nat)) : Bool :=
  lists.any fun x => x.2.1 ≤ a && a < x.2.1 + (x.2.2 + 31) / 32 * 32 &&
    (if hh : x.1 < 24 then (s.imgOf ⟨x.1, hh⟩).state = .hallPass else false)

/-- A fixed rule of Table 14.3 forbids the access; `lists` are the digest lists (host, address, length) in the list
area, and `revoke` marks KEY_CMD with OP = REVOKE. -/
def State.fixedRule (s : State) (m : Master) (a : Nat) (write : Bool) (lists : List (Nat × Nat × Nat)) (revoke : Bool) : Bool :=
  match gateOf a with
  | some 0 => write
  | some 5 => write || (0x207F0000 ≤ a && a ≤ 0x207FFFFF)
  | some 4 => write && (s.ttAreaClosed a || s.bellAreaClosed a)
  | some 3 => write && m ≠ .hw 0 && ((0x10B00000 ≤ a && a ≤ 0x10B007FF) || s.listClosed a lists)
  | some 8 => m = .mgpUser ||
      (write && (let g := (a - 0x40040000) / 0x400
                 let o := a % 0x400
                 if hg : g < 22 then 0x100 ≤ o && o < 0x180 &&
                   ((s.gates.get ⟨g, hg⟩).regions.toList.getD ((o - 0x100) / 0x10) {}).lock else false))
  | some 10 => (m = .debug && (!s.dbg.prov || revoke)) || m = .mgpUser
  | some 7 | some 16 => m = .mgpUser
  | _ => false

/-- The regions judged for a master, in order (R403). -/
def judged (m : Master) (k : Nat) : Bool :=
  match m with
  | .debug => true
  | .mgpPriv | .mgpUser => 6 ≤ k
  | _ => false

/-- The judgement of R404: none to allow, or the rule that refuses. -/
def State.judge (s : State) (m : Master) (a : Nat) (write : Bool) (lists : List (Nat × Nat × Nat)) (revoke : Bool) : Option Nat :=
  match gateOf a with
  | none => some 0xB
  | some g =>
    if s.fixedRule m a write lists revoke then some 0xA
    else match m with
      | .dataPath | .hw _ => if defaultMap g m write then none else some 0x9
      | .host _ => some 0x8
      | _ =>
        let rs := if hg : g < 22 then (s.gates.get ⟨g, hg⟩).regions.toList else []
        let open_ := m = .debug && s.openDebugRule
        match ((List.range 8).zip rs).find? (fun (k, r) => r.en && judged m k && !(open_ && !r.lock) && r.covers a) with
        | some (k, r) => if r.grants m write then none else some k
        | none =>
          if open_ then none
          else if m = .mgpPriv then (if defaultMap g m write then none else some 0x9)
          else some 0x8

/-! ## Violations (R409, R410) -/

/-- A violation is recorded as the gate's first, or counted. -/
def State.violate (s : State) (g : Fin 22) (addr : Nat) (m : Master) (access rule : Nat) : State :=
  let gt := s.gates.get g
  if gt.valid then
    let c := gt.vcount.inc
    let s1 := { s with gates := s.gates.set g { gt with vcount := c } }
    s1.raiseIf (c.ovf && !gt.vcount.ovf) 0x0E02 srcGATE (p8 g.val)
  else
    ({ s with gates := s.gates.set g { gt with
        valid := true, firstAddr := BitVec.ofNat 32 addr, master := BitVec.ofNat 8 (masterId m), access := BitVec.ofNat 2 access
        rule := BitVec.ofNat 4 rule, firstTime := s.timeBase } }).raise 0x0E01 srcGATE
      (p8 g.val ++ p32 addr ++ p8 (masterId m) ++ p8 access ++ p8 rule)

/-- The gate at which a refusal of an address is recorded: gate 8 for an unmapped one (R410). -/
def recordGate (a : Nat) : Fin 22 :=
  match gateOf a with
  | some g => if h : g < 22 then ⟨g, h⟩ else 8
  | none => 8

/-- GATE_CLR (R409). -/
def Gate.clear (g : Gate) : Gate := { g with valid := false, vcount := {} }

/-! ## Region registers (R407, Table 14.7) -/

inductive RegionReg where
  | base | attr | perm
  deriving DecidableEq, Repr

/-- A write to a region register of an unlocked region. -/
def Region.write (r : Region) (reg : RegionReg) (v : Word) : Region :=
  match reg with
  | .base => if r.en then r else { r with base := v &&& 0xFFFFFFE0 }
  | .attr => { r with en := v.getLsbD 0, lock := r.lock || v.getLsbD 1, size := (v >>> 8).setWidth 5, srd := (v >>> 16).setWidth 8 }
  | .perm => if r.en then r else { r with perm := v.setWidth 6 }

def Region.attrWord (r : Region) : Nat := b2n r.en + 2 * b2n r.lock + 256 * r.size.toNat + 65536 * r.srd.toNat

end Sys2Proof.Machine
end

