-- ==== Sys2Proof/Machine/Bus.lean ====
section
/-! DEFINITION. Accesses of internal memory through the gates (R402, R404, R408), and the gate set (R411, R412). -/
namespace Sys2Proof.Machine

/-! ## Memory -/

def sramBase : Nat := 0x10000000
def sramTop : Nat := 0x11000000
def nvBase : Nat := 0x20000000

/-- A byte of ROM, SRAM or the read-mapped NV store. -/
def State.byteAt (s : State) (a : Nat) : Byte :=
  if a < 0x30000 then Config.rom a
  else if a < nvBase then s.sram.read 0 a else s.nv.read 0 a

def State.bytesAt (s : State) (a n : Nat) : Bytes := (List.range n).map fun i => s.byteAt (a + i)

/-- The addresses of the pieces of an access, split at 32-byte boundaries (R402). -/
def pieces (a n : Nat) : List Nat :=
  if n = 0 then [] else a :: (List.range ((a + n - 1) / 32 - a / 32)).map fun i => (a / 32 + i + 1) * 32

/-- The error response sets the debug port's sticky error (Table 14.4). -/
def State.stickyIf (s : State) (m : Master) : State := if m = .debug then { s with dbg := { s.dbg with sticky := true } } else s
/-- A refusal is recorded (R408, R409). -/
def State.refuseAccess (s : State) (m : Master) (a access rule : Nat) : State := (s.violate (recordGate a) a m access rule).stickyIf m

/-- The first piece that a gate refuses. -/
def State.refusedPiece (s : State) (m : Master) (a n : Nat) (write : Bool) : Option (Nat × Nat) :=
  (pieces a n).findSome? fun p => (s.judge m p write s.lists false).map fun r => (p, r)

/-- An uncorrectable SRAM word is met by a master (R481). -/
def State.sramError (s : State) (id w : Nat) : State :=
  { s with evl := { s.evl with sramUnc := s.evl.sramUnc.inc, sramUncAddr := BitVec.ofNat 24 (w - sramBase) } }.raise 0x0011 srcSYS
    (p8 id ++ p32 w)
/-- The first uncorrectable word of `n` bytes from `a`. -/
def State.badWord (s : State) (a n : Nat) : Option Nat := s.evl.sramBad.find? fun w => a < w + 8 && w < a + n
/-- Words that a write covers whole are whole again. -/
def State.rewritten (s : State) (a n : Nat) : State :=
  { s with evl := { s.evl with sramBad := s.evl.sramBad.filter fun w => w < a || a + n < w + 8 } }

/-- A memory read with a master's ID: its bytes, or none with the violation or the error recorded. -/
def State.memRead (s : State) (m : Master) (a n : Nat) : Option Bytes × State :=
  match s.refusedPiece m a n false with
  | some (p, r) => (none, s.refuseAccess m p accRead r)
  | none =>
    match s.badWord a n with
    | some w => (none, (s.sramError (masterId m) w).stickyIf m)
    | none => (some (s.bytesAt a n), s)

/-- A memory write with a master's ID; pieces before a refused one are written. -/
def State.memWrite (s : State) (m : Master) (a : Nat) (bs : Bytes) : Bool × State :=
  match s.refusedPiece m a bs.length true with
  | some (p, r) => (false, ({ s with sram := s.sram.writeN 0 a (bs.take (p - a)) }).refuseAccess m p accWrite r)
  | none => (true, { s with sram := s.sram.writeN 0 a bs }.rewritten a bs.length)

/-- A debug master that is locked issues no access, which sets the sticky error; while that is set its accesses are discarded
(R406, R408, R432). -/
def State.debugStopped (s : State) (m : Master) : Bool := m = .debug && (s.dbg.sticky || !s.dbg.open_)

/-- A register write by a master at address `a`: `k` when the gates let it pass (R404, R408). -/
def State.busWrite (s : State) (m : Master) (a : Nat) (k : State → State) : State :=
  if s.debugStopped m then s.stickyIf m
  else match s.judge m a true s.lists false with
    | some r => s.refuseAccess m a accWrite r
    | none => k s

/-! ## The gate set (R411, R412) -/

structure GateEntry where
  gate : Nat
  region : Nat
  base : Nat
  attr : Nat
  perm : Nat
  deriving DecidableEq, Repr

def parseGateSet (b : Bytes) : List GateEntry :=
  (List.range (u16 b 6)).map fun i =>
    let o := 0x10 + 16 * i
    { gate := u8 b o, region := u8 b (o + 1), base := u32 b (o + 4), attr := u32 b (o + 8), perm := u32 b (o + 12) }

def factoryGateSet : Bytes :=
  let b := p32 0x5347524B ++ p16 1 ++ p16 0 ++ p64 0
  b ++ p32 (crc32c b)

def GateEntry.region_ (e : GateEntry) : Region :=
  { base := BitVec.ofNat 32 (e.base / 32 * 32), en := bit e.attr 0, lock := bit e.attr 1, size := BitVec.ofNat 5 (bits e.attr 8 5)
    srd := BitVec.ofNat 8 (bits e.attr 16 8), perm := BitVec.ofNat 6 e.perm }

/-- R403 and Table 14.7: sizes 8 to 23, a base aligned to its size, reserved bits zero, no grant of the processor. -/
def GateEntry.ok (e : GateEntry) : Bool :=
  let sz := bits e.attr 8 5
  e.gate ≤ 20 && e.region ≤ 5 && 8 ≤ sz && sz ≤ 23 && e.base % 2 ^ sz = 0 && e.attr < 2 ^ 24 && bits e.attr 2 6 = 0 && bits e.attr 13 3 = 0 &&
    e.perm < 64 && e.perm % 16 = 0

/-- Every enabled sub-region lies within the gate's range (R403). -/
def GateEntry.inRange (e : GateEntry) : Bool :=
  let n := 2 ^ (bits e.attr 8 5 - 3)
  (List.range 8).all fun k => bit e.attr (16 + k) ||
    (gateOf (e.base + k * n) = some e.gate && gateOf (e.base + k * n + (n - 1)) = some e.gate)

/-- Enabled sub-regions of an entry that hold an address of `lo` to `hi`. -/
def GateEntry.reaches (e : GateEntry) (lo hi : Nat) : Bool :=
  let sz := bits e.attr 8 5
  (List.range 8).any fun k => !bit e.attr (16 + k) && overlaps' (e.base + k * 2 ^ (sz - 3)) (2 ^ (sz - 3)) lo (hi - lo)
where overlaps' (a n b m : Nat) : Bool := a < b + m && b < a + n

/-- The format check of R411. -/
def State.gateSetOk (s : State) (b : Bytes) : Bool :=
  let n := b.length
  let es := parseGateSet b
  20 ≤ n && u32 b 0 = 0x5347524B && u16 b 4 = 1 && u16 b 6 ≤ 126 && n = 0x14 + 16 * u16 b 6 && allZero (field b 8 8) &&
    u32 b (n - 4) = crc32c (b.take (n - 4)) && ((List.range (u16 b 6)).all fun i => u16 b (0x12 + 16 * i) = 0) &&
    es.all (fun e => e.ok && e.inRange) && decide ((es.map fun e => (e.gate, e.region)).Nodup) &&
    (s.part = .kr9624 || es.all fun e =>
      !((e.gate = 17 && e.reaches 0x4010C000 0x40118000) || (e.gate = 18 && e.reaches 0x4020C000 0x40218000)))

/-- The region that a gate set gives. -/
def wantedRegion (es : List GateEntry) (g k : Nat) : Region := (es.find? fun e => e.gate = g && e.region = k).elim ({} : Region) GateEntry.region_

/-- Locked regions that hold another value than the gate set's. -/
def State.gateKept (s : State) (b : Bytes) : List (Fin 22 × Nat) :=
  let es := parseGateSet b
  let differs := fun (g : Fin 22) (k : Nat) =>
    let r := ((s.gates.get g).regions.toList.getD k {})
    r.lock && (let w := wantedRegion es g.val k
               r ≠ w && !(!w.en && !r.en))
  (List.finRange 22).flatMap fun g => ((List.range 6).filter (differs g)).map fun k => (g, k)

/-- Regions 0 to 5 take the gate set's values; a locked region keeps its own, counted in EV 0x0E03. -/
def State.applyGateSet (s : State) (b : Bytes) : State :=
  let es := parseGateSet b
  let kept := s.gateKept b
  let s1 := { s with gates := Vector.ofFn fun g =>
    let x := s.gates.get g
    { x with regions := Vector.ofFn fun k =>
        let r := x.regions.get k
        if 6 ≤ k.val || 21 ≤ g.val || r.lock then r else wantedRegion es g.val k.val } }
  s1.raiseIf (!kept.isEmpty) 0x0E03 srcFW (p16 kept.length)

end Sys2Proof.Machine
end

