-- ==== Sys2Proof/Machine/Lms.lean ====
section
/-! DEFINITION. HSS verification (R218 to R221) and the key and signature computation of R223. The spec names RFC 8554 and
SP 800-208; the layouts and hash inputs it does not print are PRESUMED from RFC 8554 (log entry 21). -/
namespace Sys2Proof.Lms

/-- An LM-OTS type of Table 7.10: family 0 SHA-256/32, 1 SHA-256/24, 2 SHAKE256/32, 3 SHAKE256/24. -/
structure Ots where
  fam : Nat
  w : Nat

def otsType (t : Nat) : Option Ots := if 1 ≤ t ∧ t ≤ 0x10 then some { fam := (t - 1) / 4, w := 2 ^ ((t - 1) % 4) } else none
/-- Family and height of an LMS type. -/
def lmsType (t : Nat) : Option (Nat × Nat) := if 5 ≤ t ∧ t ≤ 0x18 then some ((t - 5) / 5, 5 * ((t - 5) % 5 + 1)) else none

def famN (fam : Nat) : Nat := if fam % 2 = 0 then 32 else 24
def famAlg (fam : Nat) : Nat := if fam < 2 then 1 else 4
def H (fam : Nat) (bs : Bytes) : Bytes := Hash.digest (famAlg fam) (famN fam) bs

/-- Winternitz chains (Table 7.10) and the checksum shift. -/
def Ots.p (o : Ots) : Nat :=
  if o.fam % 2 = 0 then (if o.w = 1 then 265 else if o.w = 2 then 133 else if o.w = 4 then 67 else 34)
  else (if o.w = 1 then 200 else if o.w = 2 then 101 else if o.w = 4 then 51 else 26)
def Ots.ls (o : Ots) : Nat :=
  if o.fam % 2 = 0 then (if o.w = 1 then 7 else if o.w = 2 then 6 else if o.w = 4 then 4 else 0)
  else (if o.w = 1 then 8 else if o.w = 2 then 6 else if o.w = 4 then 4 else 0)

/-- Digit `i` of `w` bits of a byte string. -/
def coef (s : Bytes) (i w : Nat) : Nat := bits (s.getD (i * w / 8) 0).toNat (8 - (w * (i % (8 / w)) + w)) w

/-- The digits of a message hash and its checksum. -/
def digits (o : Ots) (q : Bytes) : List Nat :=
  let u := 8 * famN o.fam / o.w
  let ck := ((List.range u).map fun i => 2 ^ o.w - 1 - coef q i o.w).sum * 2 ^ o.ls
  (List.range o.p).map fun i => coef (q ++ beBytes 2 (ck % 65536)) i o.w

/-- `n` steps of a chain from iteration `j`. -/
def chain (fam : Nat) (pre : Bytes) : Nat → Nat → Bytes → Bytes
  | 0, _, t => t
  | n + 1, j, t => chain fam pre n (j + 1) (H fam (pre ++ beBytes 1 j ++ t))

/-- The LM-OTS public key candidate from a signature's C and y. -/
def otsCandidate (o : Ots) (I : Bytes) (q : Nat) (c y msg : Bytes) : Bytes :=
  let n := famN o.fam
  let iq := I ++ beBytes 4 q
  let qh := H o.fam (iq ++ [0x81, 0x81] ++ c ++ msg)
  let zs := (digits o qh).zipIdx.flatMap fun (a, i) =>
    chain o.fam (iq ++ beBytes 2 i) (2 ^ o.w - 1 - a) a (field y (n * i) n)
  H o.fam (iq ++ [0x80, 0x80] ++ zs)

/-- Climb a path of `h` siblings from node `r`. -/
def climb (fam : Nat) (I : Bytes) : Nat → Nat → Bytes → Bytes → Bytes
  | 0, _, _, t => t
  | h + 1, r, path, t =>
    let n := famN fam
    let sib := path.take n
    let kids := if r % 2 = 1 then sib ++ t else t ++ sib
    climb fam I h (r / 2) (path.drop n) (H fam (I ++ beBytes 4 (r / 2) ++ [0x83, 0x83] ++ kids))

/-- An LMS public key: types, I and root. -/
structure Pub where
  lms : Nat
  ots : Nat
  I : Bytes
  root : Bytes

def Pub.parse (b : Bytes) : Pub := { lms := beNat (field b 0 4), ots := beNat (field b 4 4), I := field b 8 16, root := b.drop 24 }

/-- One level of a signature. -/
structure Level where
  key : Pub
  q : Nat
  ots : Ots
  h : Nat
  c : Bytes
  y : Bytes
  path : Bytes
  /-- the key that this level signs, as bytes; none at the last level -/
  next : Option Bytes

/-- Reasons of Table 7.12. -/
def rPass : Nat := 0
def rMalformed : Nat := 1
def rUnsupported : Nat := 2
def rMixed : Nat := 3
def rQRange : Nat := 4
def rRoot : Nat := 5
def rKeySlot : Nat := 6
def rAborted : Nat := 7
def rReadErr : Nat := 8

/-- Parse level `k` of `total` from the rest of a signature: the fault, or the level and what follows it (R220). -/
def parseLevel (fam : Nat) (key : Pub) (last : Bool) (b : Bytes) : Except Nat (Level × Bytes) :=
  if b.length < 8 then .error rMalformed
  else
    match otsType (beNat (field b 4 4)) with
    | none => .error rUnsupported
    | some o =>
      let n := famN o.fam
      let lo := 8 + n + n * o.p
      if b.length < lo + 4 then .error rMalformed
      else
        match lmsType (beNat (field b lo 4)) with
        | none => .error rUnsupported
        | some (lf, h) =>
          let sigLen := lo + 4 + famN lf * h
          let pubLen := 24 + famN fam
          let rest := b.drop sigLen
          let pk := Pub.parse (rest.take pubLen)
          let types := if last then some (0, 0) else (lmsType pk.lms).bind fun x => (otsType pk.ots).map fun y => (x.1, y.fam)
          if !last && rest.length < 8 then .error rMalformed
          else
            match types with
            | none => .error rUnsupported
            | some (pl, po) =>
              if o.fam ≠ fam ∨ lf ≠ fam ∨ (!last && (pl ≠ fam || po ≠ fam)) then .error rMixed
              else if beNat (field b 4 4) ≠ key.ots ∨ beNat (field b lo 4) ≠ key.lms then .error rMalformed
              else if b.length < sigLen ∨ (!last && rest.length < pubLen) then .error rMalformed
              else if 2 ^ h ≤ beNat (field b 0 4) then .error rQRange
              else
                let next := if last then none else some (rest.take pubLen)
                .ok ({ key, q := beNat (field b 0 4), ots := o, h, c := field b 8 n, y := field b (8 + n) (n * o.p)
                       path := field b (lo + 4) (n * h), next }, if last then rest else rest.drop pubLen)

/-- The levels from `k` on, or the reason and level of the first fault. -/
def parseLevels (fam : Nat) : Nat → Nat → Pub → Bytes → Except (Nat × Nat) (List Level)
  | 0, k, _, b => if b.isEmpty then .ok [] else .error (rMalformed, k - 1)
  | n + 1, k, key, b =>
    match parseLevel fam key (n = 0) b with
    | .error r => .error (r, k)
    | .ok (l, rest) =>
      match parseLevels fam n (k + 1) ((l.next.map Pub.parse).getD key) rest with
      | .error e => .error e
      | .ok ls => .ok (l :: ls)

/-- A level's root matches its key. -/
def Level.good (fam : Nat) (l : Level) (msg : Bytes) : Bool :=
  let kc := otsCandidate l.ots l.key.I l.q l.c l.y (l.next.getD msg)
  let r := 2 ^ l.h + l.q
  climb fam l.key.I l.h r l.path (H fam (l.key.I ++ beBytes 4 r ++ [0x82, 0x82] ++ kc)) = l.key.root

/-- R220 over a public key that R219 admits: reason and level of Table 7.12. The message is `none` when unreadable. -/
def verify (pub sig : Bytes) (msg : Option Bytes) : Nat × Nat :=
  if sig.length < 1 ∨ 16384 < sig.length then (rMalformed, 0)
  else
    let L := beNat (field pub 0 4)
    let key := Pub.parse (pub.drop 4)
    if beNat (field sig 0 4) + 1 ≠ L ∨ sig.length < 4 ∨ 8 < L then (rMalformed, 0)
    else
      match lmsType key.lms with
      | none => (rUnsupported, 0)
      | some (fam, _) =>
        match parseLevels fam L 0 key (sig.drop 4) with
        | .error e => e
        | .ok ls =>
          match ls.zipIdx.find? (fun (l, _) => if l.next.isNone && msg.isNone then true else !l.good fam (msg.getD [])) with
          | some (l, k) => (if l.next.isNone && msg.isNone then rReadErr else rRoot, k)
          | none => (rPass, 0)

/-! ## Keys and signing (R223, R380): SHA-256, n = 32, W = 4 -/

def signOts : Ots := { fam := 0, w := 4 }
/-- LMS types 0x08 (height 20) and 0x06 (height 10), LM-OTS type 0x03. -/
def otsCode : Nat := 3

/-- A chain's private value. -/
def priv (I seed : Bytes) (q i : Nat) : Bytes := H 0 (I ++ beBytes 4 q ++ beBytes 2 i ++ [0xFF] ++ seed)
def otsPub (I seed : Bytes) (q : Nat) : Bytes :=
  let iq := I ++ beBytes 4 q
  H 0 (iq ++ [0x80, 0x80] ++ (List.range signOts.p).flatMap fun i => chain 0 (iq ++ beBytes 2 i) 15 0 (priv I seed q i))

/-- Node `r` at height `k` above the leaves of a tree of height `h`. -/
def node (I seed : Bytes) (h : Nat) : Nat → Nat → Bytes
  | 0, r => H 0 (I ++ beBytes 4 r ++ [0x82, 0x82] ++ otsPub I seed (r - 2 ^ h))
  | k + 1, r => H 0 (I ++ beBytes 4 r ++ [0x83, 0x83] ++ node I seed h k (2 * r) ++ node I seed h k (2 * r + 1))

/-- The LMS public key of a tree. -/
def lmsPub (I seed : Bytes) (h lmsCode : Nat) : Bytes := beBytes 4 lmsCode ++ beBytes 4 otsCode ++ I ++ node I seed h h 1

/-- An LMS signature with leaf `q` and randomizer `c`. -/
def lmsSign (I seed : Bytes) (h lmsCode q : Nat) (c msg : Bytes) : Bytes :=
  let iq := I ++ beBytes 4 q
  let qh := H 0 (iq ++ [0x81, 0x81] ++ c ++ msg)
  let y := (digits signOts qh).zipIdx.flatMap fun (a, i) => chain 0 (iq ++ beBytes 2 i) a 0 (priv I seed q i)
  let path := (List.range h).flatMap fun k => node I seed h k (((2 ^ h + q) / 2 ^ k) ^^^ 1)
  beBytes 4 q ++ beBytes 4 otsCode ++ c ++ y ++ beBytes 4 lmsCode ++ path

end Sys2Proof.Lms
end

