-- ==== Sys2Proof/Machine/Bell.lean ====
section
/-! DEFINITION. Bell schedules (chapter 4): reading an image, the checks of Table 4.15, the latency of R117 and what
loading a schedule sets. -/
namespace Sys2Proof.Machine

def SelDesc.parse (img : Bytes) (o : Nat) : SelDesc :=
  { cls := u8 img o, mode := u8 img (o + 1), div := u8 img (o + 2), dummy := u8 img (o + 3)
    lead := u8 img (o + 4), trail := u8 img (o + 5), idle := u8 img (o + 6)
    idBytes := field img (o + 8) (min (u8 img (o + 7)) 6)
    cfgFeature := u8 img (o + 0xE), densityMbit := u32 img (o + 0x10), pagesPerBlock := u16 img (o + 0x14)
    spareBytes := u16 img (o + 0x16), userSpareOff := u16 img (o + 0x18), trMaxUs := u16 img (o + 0x1A)
    tprogMaxUs := u16 img (o + 0x1C), tbersMax := u16 img (o + 0x1E) }

def BellSchedule.parse (img : Bytes) : BellSchedule :=
  { channel := u8 img 8, part := u8 img 9, flags := u16 img 0xA, generation := u32 img 0xC, sequence := u32 img 0x10
    headBytes := u16 img 0x14, pollNs := u16 img 0x16, rdyEn := u8 img 0x18, rdyTmoUs := u32 img 0x1C
    descs := (List.range 4).map fun k => SelDesc.parse img (0x40 + 32 * k)
    slots := (List.range 64).map fun i => (u32 img (0xC0 + 8 * i), u32 img (0xC4 + 8 * i)) }

def defaultDesc : SelDesc :=
  { cls := 0, mode := 0, div := 7, dummy := 8, lead := 2, trail := 2, idle := 8, idBytes := [], cfgFeature := 0
    densityMbit := 0, pagesPerBlock := 0, spareBytes := 0, userSpareOff := 0, trMaxUs := 0, tprogMaxUs := 0, tbersMax := 0 }

def BellSchedule.desc (b : BellSchedule) (k : Nat) : SelDesc := b.descs.getD k defaultDesc
def BellSchedule.slotAt (b : BellSchedule) (i : Nat) : Nat × Nat := b.slots.getD i (0, 0)

/-- The factory Bell schedule (R121). -/
def factoryBell (c : Nat) : BellSchedule :=
  { channel := c, part := 0, flags := 1, generation := 0, sequence := 0, headBytes := 64, pollNs := 1000, rdyEn := 0
    rdyTmoUs := 20000, descs := List.replicate 4 defaultDesc, slots := List.replicate 64 (2 ^ 24, 0xFFFFFF) }

/-! Slot entries (Table 4.13). -/

/-- The host of rank `r` (0 to 3) in a slot, when valid. -/
def slotRank (w : Nat × Nat) (r : Nat) : Option Nat :=
  if bit w.1 (6 * r + 5) then some (bits w.1 (6 * r) 5) else none
def slotRanks (w : Nat × Nat) : List Nat := (List.range 4).filterMap (slotRank w)
def slotBg (w : Nat × Nat) : Bool := bit w.1 24
def slotGuest (w : Nat × Nat) (h : Nat) : Bool := h < 24 && bit w.2 h
/-- The position of a host among the ranks, 0 for RANK1. -/
def rankOf (w : Nat × Nat) (h : Nat) : Option Nat := (List.range 4).find? fun r => slotRank w r = some h

/-- ATOM of a class and mode (Table 4.6). -/
def atomOf (cls mode : Nat) : Nat :=
  if cls = 2 then 32
  else match mode with
    | 0 => 40 | 1 => 16 | 2 => 12 | 3 => 6 | _ => 3

/-- The period T of a select in ns: FCc_SCK = 400 MHz ÷ (2 × (DIV + 1)) (R93). -/
def periodNs (d : SelDesc) : Nat := 5 * (d.div + 1)

/-- HEAD_BYTES ÷ (data bytes per clock) × T (Table 4.1, R117). -/
def headNs (head : Nat) (d : SelDesc) : Nat :=
  (match d.mode with
    | 0 => head * 8 | 1 => head * 2 | 2 | 3 => head | _ => (head + 1) / 2) * periodNs d

def maxOf (xs : List Nat) : Nat := xs.foldl max 0

def BellSchedule.used (b : BellSchedule) : List SelDesc := b.descs.filter fun d => d.cls ≠ 3
def BellSchedule.nor (b : BellSchedule) : List SelDesc := b.descs.filter fun d => d.cls ≤ 1
def tAcc (b : BellSchedule) : Nat := maxOf (b.nor.map fun d => (d.lead + 1 + atomOf d.cls d.mode + d.dummy) * periodNs d)
def tCut (b : BellSchedule) : Nat := maxOf (b.used.map fun d => (atomOf d.cls d.mode + d.trail + d.idle + 2) * periodNs d)
def tSw (b : BellSchedule) : Nat := maxOf (b.used.map fun d => (d.trail + d.idle + 2) * periodNs d)
def tHead (b : BellSchedule) : Nat := maxOf (b.nor.map (headNs b.headBytes))

/-- L(h, c) of R117 in ns; none where it is unbounded. -/
def latency (b : BellSchedule) (h : Nat) : Option Nat :=
  let ls := b.slots.map fun w => rankOf w h
  if ls.all Option.isSome then
    some (maxOf (ls.map fun r => 20 + tCut b + r.getD 0 * (tAcc b + tHead b + tSw b) + tAcc b))
  else none

/-! ## Checks of Table 4.15 -/

def bellCheck1 (img : Bytes) : Bool :=
  img.length = 708 && u32 img 0 = 0x5342524B && u16 img 4 = 1 && u16 img 6 = 0x40 &&
    u32 img 0x3C = crc32c (img.take 0x3C) && u32 img 0x2C0 = crc32c (img.take 0x2C0)

def bellCheck2 (b : BellSchedule) (c part : Nat) (fused : Bool) : Bool :=
  b.channel = c && !fused && (b.part = 0 || b.part = part)

def descCheck3 (img : Bytes) (o : Nat) (d : SelDesc) : Bool :=
  d.cls ≤ 3 && d.mode ≤ 4 && d.div ≤ 7 && d.dummy ≤ 63 && u8 img (o + 7) ≤ 6 && u8 img (o + 0xF) = 0

def bellCheck3 (img : Bytes) (b : BellSchedule) : Bool :=
  b.flags < 2 && b.rdyEn < 2 && allZero (field img 0x19 3) && allZero (field img 0x20 0x1C) &&
    (List.range 4).all (fun k => descCheck3 img (0x40 + 32 * k) (b.desc k)) &&
    b.slots.all (fun w => w.1 < 2 ^ 25 && w.2 < 2 ^ 24)

def bellCheck4 (b : BellSchedule) : Bool :=
  b.descs.all fun d =>
    (d.cls ≠ 2 || d.mode ≤ 2) && (d.div ≠ 0 || 3 ≤ d.mode) &&
    (d.cls ≠ 2 || d.densityMbit ≠ 0 && d.pagesPerBlock ≠ 0 && d.trMaxUs ≠ 0 && d.tprogMaxUs ≠ 0 && d.tbersMax ≠ 0 &&
      d.userSpareOff + 32 ≤ d.spareBytes)

def slotCheck5 (fusedHost : Nat → Bool) (w : Nat × Nat) : Bool :=
  let rs := slotRanks w
  let vs := (List.range 4).map fun r => (slotRank w r).isSome
  (vs.zip (vs.drop 1)).all (fun p => p.1 || !p.2) && rs.all (fun h => h < 24 && !fusedHost h && !slotGuest w h) &&
    decide rs.Nodup && (List.range 24).all (fun h => !slotGuest w h || !fusedHost h)

def bellCheck5 (b : BellSchedule) (fusedHost : Nat → Bool) : Bool := b.slots.all (slotCheck5 fusedHost)

def bellCheck6 (b : BellSchedule) : Bool :=
  b.headBytes % 16 = 0 && 16 ≤ b.headBytes && b.headBytes ≤ 4096 && 100 ≤ b.pollNs &&
    1 ≤ b.rdyTmoUs && b.rdyTmoUs ≤ 1000000

/-- Check 8: what a run-time commit may not change on a READY or RETIRING select. -/
def sameDesc (a b : SelDesc) : Bool :=
  a.cls = b.cls && a.mode = b.mode && a.div = b.div && a.dummy = b.dummy && a.idBytes = b.idBytes

def bellCheck8 (ch : Channel) (cur new : BellSchedule) : Bool :=
  all4.all fun k =>
    !((ch.sels.get k).state = .ready || (ch.sels.get k).state = .retiring) || sameDesc (cur.desc k.val) (new.desc k.val)

def Channel.activeBell (ch : Channel) : Option BellSchedule := if ch.active then ch.bankB else ch.bankA
def Channel.inactiveBell (ch : Channel) : Option BellSchedule := if ch.active then ch.bankA else ch.bankB
def Channel.stageBell (ch : Channel) (b : BellSchedule) : Channel :=
  if ch.active then { ch with bankA := some b } else { ch with bankB := some b }

/-- The register loads of a select from its descriptor (R112). -/
def Select.loadDesc (sl : Select) (d : SelDesc) : Select :=
  { sl with
    cls := BitVec.ofNat 2 d.cls, mode := BitVec.ofNat 3 d.mode, div := BitVec.ofNat 4 d.div
    dummy := BitVec.ofNat 6 d.dummy, lead := BitVec.ofNat 8 d.lead, trail := BitVec.ofNat 8 d.trail
    idle := BitVec.ofNat 8 d.idle, pagesPerBlock := if d.cls = 2 then d.pagesPerBlock else sl.pagesPerBlock }

/-- A commit at the cycle boundary: flip the bank, count the epoch, clear READY and load the registers (R119); polls
use RDY_EN again (R102). -/
def Channel.takeBell (ch : Channel) : Channel :=
  match ch.inactiveBell with
  | none => { ch with commitPending := false }
  | some b =>
    { ch with
      active := !ch.active, epoch := ch.epoch + 1, ready := false, commitPending := false, ignoreRdy := false
      en := true, rdyEn := b.rdyEn = 1, rdyTmo := BitVec.ofNat 20 b.rdyTmoUs, poll := BitVec.ofNat 16 b.pollNs
      sels := Vector.ofFn fun k => (ch.sels.get k).loadDesc (b.desc k.val) }

/-- The first failed check of 1 to 6, or 0. -/
def bellFirstFailed (img : Bytes) (c part : Nat) (fusedChan : Bool) (fusedHost : Nat → Bool) : Nat :=
  let b := BellSchedule.parse img
  if !bellCheck1 img then 1
  else if !bellCheck2 b c part fusedChan then 2
  else if !bellCheck3 img b then 3
  else if !bellCheck4 b then 4
  else if !bellCheck5 b fusedHost then 5
  else if !bellCheck6 b then 6
  else 0

/-- The bytes of a select descriptor (Table 4.12). -/
def SelDesc.image (d : SelDesc) : Bytes :=
  padTo 32 (p8 d.cls ++ p8 d.mode ++ p8 d.div ++ p8 d.dummy ++ p8 d.lead ++ p8 d.trail ++ p8 d.idle ++ p8 d.idBytes.length ++
    padTo 6 d.idBytes ++ p8 d.cfgFeature ++ p8 0 ++ p32 d.densityMbit ++ p16 d.pagesPerBlock ++ p16 d.spareBytes ++
    p16 d.userSpareOff ++ p16 d.trMaxUs ++ p16 d.tprogMaxUs ++ p16 d.tbersMax)

/-- The image of a Bell schedule (Table 4.11), as 0x2500 + c, .01 returns it. -/
def BellSchedule.image (b : BellSchedule) : Bytes :=
  let h := padTo 0x3C (p32 0x5342524B ++ p16 1 ++ p16 0x40 ++ p8 b.channel ++ p8 b.part ++ p16 b.flags ++ p32 b.generation ++
    p32 b.sequence ++ p16 b.headBytes ++ p16 b.pollNs ++ p8 b.rdyEn ++ [0, 0, 0] ++ p32 b.rdyTmoUs)
  let body := h ++ p32 (crc32c h) ++ b.descs.flatMap SelDesc.image ++ b.slots.flatMap fun w => p32 w.1 ++ p32 w.2
  body ++ p32 (crc32c body)

def BellSchedule.crc (b : BellSchedule) : Nat := leNat (b.image.drop (b.image.length - 4))

end Sys2Proof.Machine
end

