-- ==== Sys2Proof/Machine/Placement.lean ====
section
/-! DEFINITION. Placement (chapter 5): where a host's pages lie, what a reader sees, where a write must become durable,
extent creation and attributes, Steady mode and failed selects. -/
namespace Sys2Proof.Machine

/-! ## Selects -/

def selIndex (c : Nat) (k : Nat) : Nat := 4 * c + k
/-- The select of index `4c + k`. -/
def State.selAt (s : State) (i : Nat) : Select :=
  if h : i / 4 < 24 then (s.chan ⟨i / 4, h⟩).sels.get ⟨i % 4, Nat.mod_lt _ (by decide)⟩ else {}
def State.modSelAt (s : State) (i : Nat) (f : Select → Select) : State :=
  if h : i / 4 < 24 then s.modSel ⟨i / 4, h⟩ ⟨i % 4, Nat.mod_lt _ (by decide)⟩ f else s

/-- 64 KiB blocks of a NOR device of so many Mbit. -/
def norBlocks (mbit : Nat) : Nat := mbit * 131072 / 65536
/-- NAND blocks, and the reserve of R135. -/
def nandBlocks (mbit ppb : Nat) : Nat := if ppb = 0 then 0 else mbit * 131072 / (4096 * ppb)
def nandReserve (blocks : Nat) : Nat := min ((blocks + 31) / 32) 2048

/-- Data pages of a select (R103, R135). -/
def Select.pages (sl : Select) : Nat :=
  if sl.nand then
    let b := nandBlocks sl.densityMbit sl.pagesPerBlock
    (b - 1 - nandReserve b) * sl.pagesPerBlock
  else 15 * (norBlocks sl.densityMbit - 1)

/-- Device block of a data page: the 64 KiB block on NOR (R103), the logical block on NAND (R134). -/
def Select.blockOf (sl : Select) (p : Nat) : Nat := if sl.nand then p / max 1 sl.pagesPerBlock else 1 + p / 15

def SelState.servesReads : SelState → Bool
  | .ready | .retiring => true
  | _ => false

def SelState.code : SelState → Nat
  | .absent => 0 | .mismatch => 1 | .unformatted => 2 | .foreign => 3 | .formatting => 4 | .ready => 5
  | .retiring => 6 | .retired => 7 | .failed => 8 | .parked => 9

/-! ## Extents -/

def Loc.index (l : Loc) : Nat := selIndex l.chan l.sel
def Extent.contains (e : Extent) (v : Nat) : Bool := e.vbase ≤ v && v < e.vbase + e.pages
def Extent.copies (e : Extent) : List Loc := [e.copy0, e.copy1].filter Loc.valid
/-- Copies that Table 5.2 requires. -/
def needCopies (pinned mirror writable : Bool) : Nat := if (pinned && writable) || mirror then 2 else 1
def Extent.need (e : Extent) : Nat := needCopies e.pinned e.mirror e.writable

def State.extents (s : State) (h : Host24) : List Extent := s.plc.extents.get h
def State.setExtents (s : State) (h : Host24) (l : List Extent) : State :=
  s.modPlc fun p => { p with extents := p.extents.set h l }
def State.modExtent (s : State) (h : Host24) (i : Nat) (f : Extent → Extent) : State :=
  s.setExtents h ((s.extents h).map fun e => if e.index = i then f e else e)
def State.findExtent (s : State) (h : Host24) (v : Nat) : Option Extent := (s.extents h).find? fun e => e.contains v
def State.extentAt (s : State) (h : Host24) (i : Nat) : Option Extent := (s.extents h).find? fun e => e.index = i
/-- Every extent of every host, with its host. -/
def State.allExtents (s : State) : List (Host24 × Extent) := all24.flatMap fun h => (s.extents h).map fun e => (h, e)

/-- JOURNAL as R141 gives it: some valid copy or valid TARGET lies on NAND. -/
def State.wantsJournal (s : State) (e : Extent) : Bool :=
  (e.copies ++ (if e.target.valid then [e.target] else [])).any fun l => (s.selAt l.index).nand

/-! ## Page contents -/

def pageSize : Nat := 4096
/-- The key of byte 0 of data page `d` of select `i`. -/
def flashKey (i d : Nat) : Nat := (i * 2 ^ 24 + d) * pageSize
def erasedPage : Bytes := List.replicate pageSize 0xFF
def State.devPage (s : State) (i d : Nat) : Bytes := s.plc.flash.readN 0xFF (flashKey i d) pageSize
def contentBytes : Option Bytes → Bytes
  | some b => b
  | none => erasedPage

/-- Store a page on a device; an erased page lists nothing. -/
def Placement.storePage (p : Placement) (i d : Nat) (content : Option Bytes) : Placement :=
  let m := p.flash.eraseN (flashKey i d) pageSize
  { p with flash := match content with
      | none => m
      | some b => m.writeN 0xFF (flashKey i d) b }

def Placement.isLost (p : Placement) (h : Nat) (v : Nat) : Bool := p.lost.any fun x => x.1 = h && x.2.1 = v

/-- The copy that serves a read (R139): the one whose select is not busy, else COPY0 on NOR and the shorter queue on
NAND. -/
def State.readCopy (s : State) (e : Extent) : Option Loc :=
  let ok := e.copies.filter fun l => (s.selAt l.index).state.servesReads
  match ok with
  | [a, b] =>
    let ba := (s.selAt a.index).busy.isSome
    let bb := (s.selAt b.index).busy.isSome
    if ba && !bb then some b
    else if bb && !ba then some a
    else if (s.selAt a.index).nand then
      let q := fun l : Loc => if hc : l.chan < 24 then (s.chan ⟨l.chan, hc⟩).queue.length else 0
      if q b < q a then some b else some a
    else some a
  | [a] => some a
  | _ => none

/-- Shadows overlay for their host, and for every reader once committed (R148, R149). -/
def State.shadowOf (s : State) (h : Host24) (v : Nat) (own : Bool) : Option StagedPage :=
  s.plc.shadows.find? fun x => x.host = h.val && x.vpage = v && (x.committed || (own && !s.plc.discard.getLsbD h.val))

/-- What a reader finds at virtual page `v` of host `h`, or none for a page error (R131, R139, R141, R144, R148,
R160); `own` is the host itself. -/
def State.readPage (s : State) (h : Host24) (v : Nat) (own : Bool) : Option Bytes :=
  match s.findExtent h v with
  | none => none
  | some e =>
    if e.state = .lost then none
    else
      match (if own then (s.port h).pending.bind (fun w => w.pages.find? (fun q => q.1 = v)) else none) with
      | some q => some (contentBytes q.2)
      | none =>
        match s.shadowOf h v own with
        | some x => some (contentBytes x.data)
        | none =>
          if s.plc.isLost h.val v then none
          else
            match s.plc.journal.find? (fun x => x.host = h.val && x.vpage = v) with
            | some x => some (contentBytes x.data)
            | none => (s.readCopy e).map fun l => s.devPage l.index (l.dpage + (v - e.vbase))

/-- The content on which a write builds (R140, R160): a lost page counts as erased. -/
def State.oldPage (s : State) (h : Host24) (v : Nat) (own : Bool) : Bytes := (s.readPage h v own).getD erasedPage

/-- A reader's bytes at slot or host virtual addresses, page by page; none on a page error. -/
def State.readRun (s : State) (h : Host24) (own : Bool) : Nat → Nat → Option Bytes
  | _, 0 => some []
  | v, n + 1 =>
    match s.readPage h v own, s.readRun h own (v + 1) n with
    | some a, some b => some (a ++ b)
    | _, _ => none

/-! ## Staging room (R150) -/

def journalPagesTotal (s : State) : Nat := s.plc.journalMib * 256
def journalPagesUsed (s : State) : Nat :=
  (s.plc.journal.map fun x => if x.two then 2 else 1).sum +
    ((s.plc.shadows.filter fun x => !x.nor).map fun x => if x.two then 2 else 1).sum
def indexTotal : Nat := 59392
def indexUsed (s : State) : Nat := s.plc.journal.length + (s.plc.shadows.filter fun x => !x.nor).length
def norShadowTotal (s : State) : Nat := s.plc.norShadowMib * 128
def norShadowUsed (s : State) : Nat := (s.plc.shadows.filter StagedPage.nor).length

def permyriad (free total : Nat) : Nat := if total = 0 then 0 else 10000 * free / total
/-- FREE_PM of R150. -/
def State.freePm (s : State) : Nat :=
  if s.plc.scanning then 0 else
    min (permyriad (journalPagesTotal s - journalPagesUsed s) (journalPagesTotal s))
      (min (permyriad (indexTotal - indexUsed s) indexTotal) (permyriad (norShadowTotal s - norShadowUsed s) (norShadowTotal s)))

/-! ## Epochs (R132) and the prefetch buffer (R54) -/

def Port.dropPrefetch (p : Port) : Port := { p with prefetch := none }

/-- A mapping of the host changed: epoch, CAUSE.EPOCH and the prefetch buffer (R132). -/
def State.bumpEpoch (s : State) (h : Host24) : State :=
  (s.modPlc fun p => { p with xepoch := updV p.xepoch h (· + 1) }).modPort h fun p =>
    { p.dropPrefetch with epochNews := true, hpw := setCause causeEpoch p.hpw }

/-- A registry record is appended; after 3,072 a checkpoint starts (R154). -/
def Registry.append (r : Registry) : Registry :=
  let n := r.logUsed + 1
  if 3072 ≤ n ∧ ¬ r.ckptRunning then { r with lseq := r.lseq + 1, logUsed := n, ckptRunning := true, ckptCover := n }
  else { r with lseq := r.lseq + 1, logUsed := n }
def State.appendRegistry (s : State) : State := s.modPlc fun p => { p with registry := p.registry.append }

/-! ## The pool write sequence (R158) -/

def wseqStep : Nat := 2 ^ 20
/-- The next WSEQ: its floor is saved before a WSEQ at or above it is assigned. -/
def Placement.nextWseq (p : Placement) : Placement × Nat :=
  let w := p.wseq.toNat + 1
  let p1 := if p.wseqFloor.toNat ≤ w then
    { p with wseqFloor := p.wseqFloor + BitVec.ofNat 64 wseqStep, wseqSaves := p.wseqSaves + 1 } else p
  ({ p1 with wseq := BitVec.ofNat 64 w }, w)

/-! ## Select roles and room (R136 to R138) -/

/-- Runs of a select that the pool may not use for something new. -/
def State.usedRuns (s : State) (i : Nat) : List (Nat × Nat) :=
  (s.allExtents.flatMap fun (_, e) =>
    ([e.copy0, e.copy1, e.target].filter fun l => l.valid && l.index = i).map fun l => (l.dpage, e.pages)) ++
  (s.plc.relocs.filterMap fun r => r.draining.bind fun l => if l.index = i then
    (if hh : r.host < 24 then (s.extentAt ⟨r.host, hh⟩ r.extent).map fun e => (l.dpage, e.pages) else none) else none)

def overlaps (a n b m : Nat) : Bool := a < b + m && b < a + n

/-- The run of `n` pages at `d` is free on select `i`: within the device, under no listed block, used by nothing. -/
def State.runFree (s : State) (i d n : Nat) : Bool :=
  let sl := s.selAt i
  d + n ≤ sl.pages && !(s.usedRuns i).any (fun r => overlaps d n r.1 r.2) &&
    (sl.nand || !sl.badBlocks.any (fun b => 1 ≤ b && overlaps d n (15 * (b - 1)) 15))

/-- The first free run of `n` pages on select `i`, trying the device's start and the end of every run in use. -/
def State.findRun (s : State) (i n : Nat) : Option Nat :=
  let sl := s.selAt i
  let starts := 0 :: ((s.usedRuns i).map (fun r => r.1 + r.2) ++ (if sl.nand then [] else sl.badBlocks.map fun b => 15 * b))
  starts.find? fun d => s.runFree i d n

def holds (e : Extent) (i : Nat) : Bool := e.copies.any fun l => l.index = i
/-- R137: the select holds a copy of a live PINNED extent that is not WRITABLE. -/
def State.isLive (s : State) (i : Nat) : Bool :=
  s.allExtents.any fun (_, e) => e.pinned && !e.writable && !e.dormant && !e.staged && holds e i
/-- Copies of WRITABLE extents, and of PINNED extents that are not, on a select (Table 5.2, row 3). -/
def State.holdsWritable (s : State) (i : Nat) : Bool := s.allExtents.any fun (_, e) => e.writable && holds e i
def State.holdsReadOnly (s : State) (i : Nat) : Bool := s.allExtents.any fun (_, e) => e.pinned && !e.writable && holds e i
def State.isPair (s : State) (i : Nat) : Bool :=
  !s.isLive i && s.allExtents.any fun (_, e) => e.pinned && e.writable && holds e i
/-- The partner select of a PAIR select (R138). -/
def State.pairPartner (s : State) (i : Nat) : Option Nat :=
  s.allExtents.findSome? fun (_, e) =>
    if e.pinned && e.writable && holds e i then (e.copies.find? fun l => l.index ≠ i).map Loc.index else none

/-- Channel `i / 4` qualifies for a host under Timetable `t` (R118). -/
def State.qualifies (s : State) (t : Timetable) (h c : Nat) : Bool :=
  if hc : c < 24 then
    let ch := s.chan ⟨c, hc⟩
    all4.any (fun k => (ch.sels.get k).state = .ready && !(ch.sels.get k).nand) &&
      (cfgRdyEn t.cfg || cfgNative t.cfg ||
        (match ch.activeBell with
          | some b => (match latency b h with | some l => l ≤ t.tNorNs | none => false)
          | none => false))
  else false

/-- The role that a NOR select needs for a new copy (Table 5.2, R137): never LIVE, since a LIVE select takes no program; a PINNED
WRITABLE copy goes where no other PINNED copy lies, and a PINNED copy that is not WRITABLE to an OPEN select without WRITABLE copies. -/
def State.roleTakes (s : State) (pinned writable : Bool) (i : Nat) : Bool :=
  !s.isLive i && (if pinned && writable then !s.holdsReadOnly i
    else !s.isPair i && (if pinned then !s.holdsWritable i else !writable || !s.holdsReadOnly i))

/-- A select that may take a new copy with these attributes under `t` (Table 5.2, R137). -/
def State.mayPlace (s : State) (t : Timetable) (h : Nat) (pinned writable : Bool) (i : Nat) : Bool :=
  let sl := s.selAt i
  sl.state = .ready &&
    (if pinned then !sl.nand && s.qualifies t h (i / 4) && s.roleTakes true writable i else sl.nand || s.roleTakes false writable i)

/-- Candidate selects in the order the Registrar tries them: NAND before NOR for data that is not PINNED, an
open choice within each. -/
def State.candidates (s : State) (t : Timetable) (h : Nat) (pinned writable : Bool) : List Nat :=
  let ok := (List.range 96).filter (s.mayPlace t h pinned writable)
  let rot := fun l : List Nat => l.rotateLeft (Config.choice s.free % max 1 l.length)
  if pinned then rot ok else rot (ok.filter fun i => (s.selAt i).nand) ++ rot (ok.filter fun i => !(s.selAt i).nand)

/-- Places for an extent of `n` pages: one, or two on different channels (on a PAIR for PINNED WRITABLE data). -/
def State.choosePlaces (s : State) (t : Timetable) (h : Nat) (pinned mirror writable : Bool) (n : Nat) :
    Option (List Loc) :=
  let cs := s.candidates t h pinned writable
  let loc := fun i d => ({ valid := true, chan := i / 4, sel := i % 4, dpage := d } : Loc)
  let runs := cs.filterMap fun i => (s.findRun i n).map fun d => loc i d
  if needCopies pinned mirror writable = 1 then runs.head?.map fun a => [a]
  else
    let pairs := runs.flatMap fun a => (runs.filter fun b =>
      b.chan ≠ a.chan && (!(pinned && writable) || (s.pairPartner a.index).elim true (· = b.index) &&
        (s.pairPartner b.index).elim true (· = a.index))).map fun b => [a, b]
    pairs.head?

/-! ## What a Timetable reaches (R126, R128) -/

structure Reach where
  lo : Nat
  hi : Nat
  pinned : Bool
  mirror : Bool
  writable : Bool
  exec : Bool
  deriving DecidableEq, Repr

/-- Virtual pages and attributes that each reaching clause contributes. -/
def Timetable.reaches (t : Timetable) : List Reach :=
  t.uses.filterMap fun (_, sh, c) =>
    let cl := classOf sh
    if (cl = .read || cl = .program || cl = .erase || cl = .eraseAll) && c.action ≤ 1 then
      let r := t.rangeAt c.range
      let w := cl ≠ .read
      if c.addrTest = 1 then
        some { lo := (r.base + c.arg0) % 2 ^ 32 / 4096, hi := (r.last + c.arg0) % 2 ^ 32 / 4096, pinned := c.pinned
               mirror := r.mirror, writable := w, exec := r.xmode ≠ 0 }
      else some { lo := 0, hi := t.vsizePages - 1, pinned := c.pinned, mirror := c.addrTest = 2 && r.mirror
                  writable := w, exec := c.addrTest = 2 && r.xmode ≠ 0 }
    else none

/-- The attributes of page `v`; none where no clause reaches it. -/
def attrsAt (rs : List Reach) (v : Nat) : Option (Bool × Bool × Bool × Bool) :=
  let on := rs.filter fun r => r.lo ≤ v && v ≤ r.hi
  if on.isEmpty then none
  else some (on.any Reach.pinned, on.any Reach.mirror, on.any Reach.writable, on.any Reach.exec)

/-- Attributes of an extent from every clause that reaches any of it (R128). -/
def attrsOf (rs : List Reach) (e : Extent) : Option (Bool × Bool × Bool × Bool) :=
  let on := rs.filter fun r => r.lo < e.vbase + e.pages && e.vbase ≤ r.hi
  if on.isEmpty then none
  else some (on.any Reach.pinned, on.any Reach.mirror, on.any Reach.writable, on.any Reach.exec)

def insertNat (x : Nat) : List Nat → List Nat
  | [] => [x]
  | y :: ys => if x < y then x :: y :: ys else if x = y then y :: ys else y :: insertNat x ys
def sortNats (xs : List Nat) : List Nat := xs.foldr insertNat []

/-- Runs of new pages to make extents of: cut where attributes change and at every split boundary (R126). -/
def newRuns (rs : List Reach) (have_ : List Extent) (split : Nat) : List (Nat × Nat × (Bool × Bool × Bool × Bool)) :=
  let top := maxOf (rs.map fun r => r.hi + 1)
  let cuts := sortNats ((rs.flatMap fun r => [r.lo, r.hi + 1]) ++ (have_.flatMap fun e => [e.vbase, e.vbase + e.pages]) ++
    (List.range (top / split + 1)).map fun i => split * i)
  let segs := (cuts.zip (cuts.drop 1)).filterMap fun (a, b) =>
    if have_.any (fun e => e.contains a) then none else (attrsAt rs a).map fun at_ => (a, b - a, at_)
  segs.foldl (fun acc sg =>
    match acc.getLast? with
    | some (a, n, at_) =>
      if a + n = sg.1 && at_ == sg.2.2 && sg.1 % split ≠ 0 then acc.dropLast ++ [(a, n + sg.2.1, at_)] else acc ++ [sg]
    | none => [sg]) []

/-- Extents that begin in the MiB of page `v` (R127). -/
def beginsIn (es : List Extent) (mib : Nat) : Nat := (es.filter fun e => e.vbase / 256 = mib).length

def freeIndex (es : List Extent) : Option Nat := (List.range 4096).find? fun i => !es.any fun e => e.index = i

/-- Create one extent, DORMANT until a committed Timetable reaches it (R129); none where it cannot be placed (R127,
R136). -/
def State.createExtent (s : State) (t : Timetable) (h : Host24) (lo n : Nat) (at_ : Bool × Bool × Bool × Bool)
    (staged : Bool) : Option State :=
  let es := s.extents h
  let (pinned, mirror, writable, exec) := at_
  match freeIndex es, s.choosePlaces t h.val pinned mirror writable n with
  | some i, some (a :: rest) =>
    if 7 ≤ beginsIn es (lo / 256) then none
    else
      let e0 : Extent :=
        { index := i, vbase := lo, pages := n, pinned, mirror, writable, exec, staged, dormant := true, copy0 := a
          copy1 := rest.headD {}, createEpoch := (s.plc.xepoch.get h).setWidth 32, gen := 1 }
      let e := { e0 with journal := s.wantsJournal e0 }
      some ((({ s with free := s.free + 1 }.setExtents h (es ++ [e])).appendRegistry).bumpEpoch h)
  | _, _ => none

/-- EXTENT_CREATE for every page that `t` reaches and no extent holds (R126). -/
def State.createExtents (s : State) (t : Timetable) (h : Host24) : Option State :=
  (newRuns t.reaches (s.extents h) (max 1 (s.plc.extSplitMib * 256))).foldl
    (fun acc r => acc.bind fun st => st.createExtent t h r.1 r.2.1 r.2.2 false) (some s)

/-- The placement that check 13 requires of one extent under new attributes (R89, R136). -/
def State.extentPlaced (s : State) (t : Timetable) (h : Nat) (e : Extent) (at_ : Bool × Bool × Bool × Bool) : Bool :=
  let (pinned, mirror, writable, _) := at_
  let cs := e.copies
  e.state = .lost ||
    needCopies pinned mirror writable ≤ cs.length &&
      (!pinned || cs.all fun l => !(s.selAt l.index).nand && s.qualifies t h l.chan) &&
      (pinned || !(cs.any fun l => !(s.selAt l.index).nand) || !((List.range 96).any fun i =>
        (s.selAt i).nand && (s.selAt i).state = .ready && (s.findRun i e.pages).isSome))

/-- Check 12 of Table 3.10. -/
def State.ttCheck12 (s : State) (t : Timetable) (h : Nat) : Bool :=
  t.detain || cfgRdyEn t.cfg || cfgNative t.cfg || !(t.clauses.any Clause.pinned) ||
    (List.range 24).any fun c => s.qualifies t h c

/-- Check 13: every extent that the Timetable reaches is placed. -/
def State.ttCheck13 (s : State) (t : Timetable) (h : Host24) : Bool :=
  t.detain || (s.extents h).all fun e =>
    match attrsOf t.reaches e with
    | some a => s.extentPlaced t h.val e a
    | none => true

/-- The pool can give every extent that `t` reaches the copies it needs: in place now, or on a select with room (R89). -/
def State.ttPlaceable (s : State) (t : Timetable) (h : Host24) : Bool :=
  t.detain || (s.extents h).all fun e =>
    match attrsOf t.reaches e with
    | some a => s.extentPlaced t h.val e a ||
        (!s.plc.steady && (s.candidates t h.val a.1 a.2.2.1).any fun i => (s.findRun i e.pages).isSome)
    | none => true

/-- Relocations that check 13 waits on are queued, once each (R89, R136, R153). -/
def State.queueForCheck13 (s : State) (t : Timetable) (h : Host24) : State :=
  (s.extents h).foldl (fun st e =>
    match attrsOf t.reaches e with
    | some a =>
      if s.extentPlaced t h.val e a || st.plc.queued.any (fun r => r.host = h.val && r.extent = e.index) then st
      else st.modPlc fun p => { p with queued := p.queued ++
        [{ slot := 0, host := h.val, extent := e.index, cls := 2, fold := false, startWseq := 0, waitedOn := true
           queuedAt := s.timeBase.toNat, overdue := false, draining := none }] }
    | none => st) s

/-- An extent under the attributes that a Timetable gives it; DEGRADED ends where the copies now suffice (R136). -/
def Extent.underTt (e : Extent) (t : Timetable) : Extent :=
  if e.staged then e
  else match attrsOf t.reaches e with
    | some (p, m, w, x) =>
      let short := e.copies.length < needCopies p m w
      { e with pinned := p, mirror := m, writable := w, exec := x, dormant := false
               degraded := e.degraded && short, byFailure := e.byFailure && short }
    | none => { e with dormant := true }

/-- R136: attributes that require fewer copies than before release the surplus copy, COPY1; `was` is the extent before. -/
def State.releaseSurplus (s : State) (h : Host24) (was : Extent) : State :=
  match s.extentAt h was.index with
  | some e =>
    if e.need < was.need && e.copy0.valid && e.copy1.valid then
      let e1 := { e with copy1 := { e.copy1 with valid := false }, gen := e.gen + 1 }
      (s.modExtent h e.index fun _ => { e1 with journal := s.wantsJournal e1 }).appendRegistry.bumpEpoch h
    else s
  | none => s

/-- ATTRIBUTE_SET at a switch point (R128, R129): reached extents take the Timetable's attributes, others are DORMANT; surplus copies
are released. -/
def State.setAttributes (s : State) (t : Timetable) (h : Host24) : State :=
  (s.extents h).foldl (fun st e => st.releaseSurplus h e) (s.setExtents h ((s.extents h).map fun e => e.underTt t))

/-! ## Steady mode (R161, R162) -/

/-- MIRROR_LOST begins to hold, and what keeps it. -/
def State.mirrorLostNow (s : State) : Bool := s.allExtents.any fun (_, e) => e.degraded && e.byFailure && e.need = 2
def State.mirrorLostStill (s : State) : Bool := s.allExtents.any fun (_, e) => e.degraded && e.byFailure
def State.overdueCount (s : State) : Nat := ((s.plc.relocs ++ s.plc.queued).filter Reloc.overdue).length

def reasonBits (p : Placement) : Nat := b2n p.mirrorLost + 2 * b2n p.stagingLow + 4 * b2n p.overdue

/-- The reasons of Table 5.6 with their hysteresis. -/
def State.updReasons (s : State) : State :=
  let fp := s.freePm
  s.modPlc fun p => { p with
    mirrorLost := s.mirrorLostNow || (p.mirrorLost && s.mirrorLostStill)
    stagingLow := if p.scanning then false else if fp < 200 then true else if 500 ≤ fp then false else p.stagingLow
    overdue := if 8 < s.overdueCount then true else if s.overdueCount = 0 then false else p.overdue }

/-- A relocation's destination is freed and its source stays valid. -/
def State.freeTarget (s : State) (h : Host24) (e : Nat) : State :=
  let s1 := s.modExtent h e fun e => { e with moving := false, target := {}, copied := 0 }
  s1.modExtent h e fun e => { e with journal := s1.wantsJournal e }

/-- The Timetable that waits on a relocation that will not be done fails check 13. -/
def State.failWaiting (s : State) (r : Reloc) : State :=
  if hh : r.host < 24 then
    let h : Host24 := ⟨r.host, hh⟩
    let v := (s.extentAt h r.extent).elim 0 Extent.vbase
    if r.waitedOn then
      (s.raise 0x0603 srcPLC (p8 r.host ++ p32 v)).modTt h fun t => { t with
        waiting := none, status := if t.waiting.isSome then 3 else t.status, failedCheck := if t.waiting.isSome then 13 else t.failedCheck }
    else s
  else s

/-- A relocation in progress is abandoned. -/
def State.abandonReloc (s : State) (r : Reloc) : State :=
  if hh : r.host < 24 then (s.freeTarget ⟨r.host, hh⟩ r.extent).failWaiting r else s

/-- Entering Steady mode: other relocations are abandoned, the event is logged and every host is told. -/
def State.enterSteady (s : State) : State :=
  let gone := s.plc.relocs.filter fun r => !(r.fold || r.cls = 3) && r.draining.isNone
  let goneQ := s.plc.queued.filter fun r => !(r.fold || r.cls = 3)
  let s1 := goneQ.foldl State.failWaiting (gone.foldl State.abandonReloc s)
  let s2 := s1.modPlc fun p => { p with
    steady := true, steadySince := s.timeBase.toNat
    relocs := p.relocs.filter fun r => (r.fold || r.cls = 3) || r.draining.isSome
    queued := p.queued.filter fun r => r.fold || r.cls = 3 }
  let s3 := s2.raise 0x0601 srcPLC (p8 (reasonBits s.plc))
  let s4 := forEach all24 (fun h t => t.modHpw h (setCause causeSteady)) s3
  s4.updReasons

/-- Steady mode begins when a reason begins to hold (R161). -/
def State.checkSteady (s : State) : State :=
  let s1 := s.updReasons
  if !s1.plc.steady && !s1.plc.scanning && 0 < reasonBits s1.plc then s1.enterSteady else s1

/-! ## Lost copies and failed selects (R159) -/

/-- Copies of an extent that lie where `bad` says lose V; the extent becomes DEGRADED or lost. -/
def State.dropCopies (s : State) (h : Host24) (e : Extent) (bad : Loc → Bool) (byFailure : Bool) : State :=
  if e.copies.any bad then
    let cut := fun l : Loc => if l.valid && bad l then { l with valid := false } else l
    let e1 := { e with copy0 := cut e.copy0, copy1 := cut e.copy1 }
    let n := e1.copies.length
    let s1 := (s.setExtents h ((s.extents h).map fun x => if x.index = e.index then
      { e1 with degraded := n < e.need, byFailure := e.byFailure || byFailure, state := if n = 0 then .lost else e.state
                journal := s.wantsJournal e1, gen := e.gen + 1 } else x)).appendRegistry.bumpEpoch h
    let s2 := s1.raiseIf (n < e.need && !e.degraded) 0x0605 srcPLC (p8 h.val ++ p16 e.index)
    let s3 := s2.raiseIf (n = 0) 0x0606 srcPLC (p8 h.val ++ p16 e.index)
    if 0 < n && n < e.need && !s3.plc.queued.any (fun r => r.host = h.val && r.extent = e.index && r.cls = 3) then
      s3.modPlc fun p => { p with queued := p.queued ++
        [{ slot := 0, host := h.val, extent := e.index, cls := 3, fold := false, startWseq := 0, waitedOn := false
           queuedAt := s.timeBase.toNat, overdue := false, draining := none }] }
    else s3
  else s

/-- A staged page whose readable versions lie on select `i` alone is lost; with two, the other stays. -/
def StagedPage.without (x : StagedPage) (i : Nat) : Option StagedPage :=
  if x.two then
    if x.sel0 = i then some { x with two := false, sel0 := x.sel1 }
    else if x.sel1 = i then some { x with two := false } else some x
  else if x.sel0 = i then none else some x

def State.losePages (s : State) (xs : List StagedPage) : State :=
  s.modPlc fun p => { p with lost := p.lost ++ xs.map fun x => (x.host, x.vpage, p.wseq.toNat) }

/-- Archive pages keep their other copy, or are lost with EV 0x0908 (R266). -/
def State.loseArchivePages (s : State) (i : Nat) : State :=
  let hit := fun p : ArcPage => p.flushed && !p.lost && p.copies.contains i
  let cut := fun p : ArcPage => if hit p then { p with copies := p.copies.filter (· ≠ i), lost := p.copies.all (· = i) } else p
  (s.arc.pages.filter fun p => hit p && p.copies.all (· = i)).foldl (fun st p => st.raise 0x0908 srcARC (p32 p.pageNo))
    { s with arc := { s.arc with pages := s.arc.pages.map cut } }

/-- A relocation whose TARGET lay on a failed select goes back to those that wait, for another destination. -/
def State.requeueReloc (s : State) (r : Reloc) : State :=
  if hh : r.host < 24 then
    (s.freeTarget ⟨r.host, hh⟩ r.extent).modPlc fun p => { p with
      relocs := p.relocs.filter fun q => !(q.host = r.host && q.extent = r.extent), queued := p.queued ++ [{ r with slot := 0 }] }
  else s
def State.targetOn (s : State) (r : Reloc) (i : Nat) : Bool :=
  if hh : r.host < 24 then r.draining.isNone && (s.extentAt ⟨r.host, hh⟩ r.extent).elim false fun e => e.target.valid && e.target.index = i
  else false

/-- A select becomes FAILED (R109), and everything that lay on it is handled as R159 states. -/
def State.failSelect (s : State) (c : Chan) (k : Sel) (cause : Nat) : State :=
  let i := selIndex c.val k.val
  let s1 := (s.modSel c k fun sl => { sl with state := .failed, busy := none }).raise 0x041A srcFCC
    (p8 c.val ++ p8 k.val ++ p8 cause)
  let s1b := (s1.plc.relocs.filter fun r => s1.targetOn r i).foldl State.requeueReloc s1
  let s2 := s1b.allExtents.foldl (fun st he => st.dropCopies he.1 he.2 (fun l => l.index = i) true) s1b
  let goneJ := s2.plc.journal.filter fun x => (x.without i).isNone
  let goneS := s2.plc.shadows.filter fun x => (x.without i).isNone
  let s3 := s2.modPlc fun p => { p with
    journal := p.journal.filterMap (·.without i), shadows := p.shadows.filterMap (·.without i) }
  let s4 := (s3.losePages (goneJ ++ goneS)).loseArchivePages i
  (forEach (goneJ ++ goneS) (fun _ t => t.appendRegistry) s4).checkSteady

end Sys2Proof.Machine
end

