-- ==== Sys2Proof/Machine/Power.lean ====
section
/-! DEFINITION. Power states and the energy budget (chapter 12): the tolerance in force, changes of state with their
residency, wakes, costs and the effective refill rate. -/
namespace Sys2Proof.Machine

def PowerState.code : PowerState → Nat
  | .p0 => 0 | .p1 => 1 | .p2 => 2 | .p3 => 3 | .p4 => 4

/-! ## Latency tolerance (R357, R358) -/

/-- Hosts whose HPW_LTV counts. -/
def State.ltvHosts (s : State) : List Host24 :=
  all24.filter fun h => (s.imgOf h).state = .trial || (s.imgOf h).state = .running || (s.imgOf h).state = .hallPass

/-- T_min in µs. -/
def State.tMin (s : State) : Nat := ((s.ltvHosts.map fun h => (s.port h).hpw.ltv.toNat) ++ [s.pwr.netTol.toNat]).foldl min 0xFFFF

/-- PWR_TOL.SRC: the first host that sets T_min, 0x1F for the network, 0x1E for none. -/
def State.tSrc (s : State) : Nat :=
  let t := s.tMin
  if t = 0xFFFF then 0x1E
  else ((s.ltvHosts.find? fun h => (s.port h).hpw.ltv.toNat = t).map Fin.val).getD 0x1F

/-- Table 12.1. -/
def State.permit (s : State) : PowerState :=
  let t := s.tMin
  if t = 0 then .p0 else if t ≤ 4 then .p1 else if t ≤ 79 then .p2 else if t ≤ 3999 then .p3 else .p4

/-! ## Changes of state (R362, Table 12.3) -/

/-- Milliseconds added to a saturating count. -/
def satAdd (c : SatCount) (n : Nat) : SatCount :=
  if 2 ^ 31 - 1 ≤ c.count.toNat + n then { count := BitVec.allOnes 31, ovf := true } else { c with count := BitVec.ofNat 31 (c.count.toNat + n) }

/-- The state becomes `p`: the residency counter switches, and the cluster's cores are powered as R194 and R195 state;
the entropy source is off in P3 and P4 (R391). -/
def State.setPower (s : State) (p : PowerState) : State :=
  if s.power = p then s
  else
    let ms := (s.timeBase.toNat - s.pwr.since) / 1000
    let k := s.power.code
    let on : Half := if p.code ≤ 1 then 0xFFFF else 0
    { s with
      power := p
      pwr := { s.pwr with since := s.timeBase.toNat
                          res := if h : k < 5 then s.pwr.res.set k (satAdd (s.pwr.res.get ⟨k, h⟩) ms) else s.pwr.res }
      dgc := { s.dgc with on := on, ok := s.dgc.ok &&& on }
      rng := if 3 ≤ p.code && s.rng.src ≠ .failed then { s.rng with src := .off, lastBit := false, run := 0 } else s.rng }

/-- PWR_WAKE. -/
def Pwr.wakeWord (p : Pwr) : Nat := p.wakePort.toNat + 32 * p.wakeKind.toNat + 256 * p.wakeFrom.toNat

/-- KIND of PWR_WAKE (Table 12.7). -/
def wkHost : Nat := 1
def wkNet : Nat := 2
def wkTamper : Nat := 3
def wkTimer : Nat := 4
def wkInternal : Nat := 5

/-- A wake event: P0, PWR_WAKE for an exit from P2 or deeper, EV 0x0D02 for an exit from P4. -/
def State.wake (s : State) (kind port : Nat) : State :=
  match s.power with
  | .p0 => s
  | .p1 => s.setPower .p0
  | p =>
    let s1 := { s with pwr := { s.pwr with
      wakePort := BitVec.ofNat 5 port, wakeKind := BitVec.ofNat 3 kind, wakeFrom := BitVec.ofNat 3 p.code } }
    (s1.setPower .p0).raiseIf (p = .p4) 0x0D02 srcPWR (p32 s1.pwr.wakeWord ++ p32 ((s.timeBase.toNat - s.pwr.since) / 1000))

/-! ## The bucket (R72, R365 to R370) -/

/-- R_eff in mW (R370); 0 while AT_CEIL. -/
def Pwr.eff (p : Pwr) : Nat :=
  let gap := (10 * (p.ceil : Int) - p.tmax).toNat
  if p.atCeil then 0 else p.rate * min 100 gap / 100

/-- The cost in µJ of a class in a Timetable; 0 selects the factory value (R71). -/
def Timetable.cost (t : Timetable) (cls : Nat) : Nat :=
  let c := (t.costs.getD cls (0, 0)).2
  if c = 0 then factoryCosts.getD cls 0 else c

/-- R72: the cost of a job of a class, tied to a host or to none. -/
def State.jobCost (s : State) (cls : Nat) (host : Option Host24) : Nat :=
  let own := host.bind fun h => (s.ttOf h).activeTt
  match own with
  | some t => t.cost cls
  | none =>
    let ts := all24.filterMap fun h => ((s.ttOf h).activeTt).filter fun t => !t.factoryFlag
    if ts.isEmpty then factoryCosts.getD cls 0 else maxOf (ts.map fun t => t.cost cls)

/-- Exempt class 0 work, counted at its compiled cost (R366). -/
def State.exemptWork (s : State) (n : Nat) : State :=
  { s with pwr := { s.pwr with exempt := s.pwr.exempt + BitVec.ofNat 64 n } }

/-- R367: a job fits over the reservation of higher ranks. -/
def Pwr.fits (p : Pwr) (cost above : Nat) : Bool :=
  0 < p.eff && (above + cost ≤ p.level || (p.cap < cost && p.level = p.cap && above = 0))

/-- A job is charged at its admission (R365). -/
def State.charge (s : State) (cls rank cost : Nat) : State :=
  { s with pwr := { s.pwr with
    level := s.pwr.level - cost, spent := s.pwr.spent + BitVec.ofNat 64 cost
    lastClass := BitVec.ofNat 4 cls, lastRank := BitVec.ofNat 4 rank } }

end Sys2Proof.Machine
end

