-- ==== Sys2Proof/Machine/Frames.lean ====
section
/-! DEFINITION. Host frames (chapter 2): how a port takes a frame, the clause action on it, and the serving of reads. -/
namespace Sys2Proof.Machine

/-! ## Frame ends and switch points -/

/-- Commands of the Timetable that a port's frame is looked up in; a port with no bank has none. -/
def State.portTt (s : State) (h : Host24) : Timetable := ((s.ttOf h).portTt).getD (factoryTimetable h.val)

/-- The committed Timetable of a host. -/
def State.committedTt (s : State) (h : Host24) : Timetable := ((s.ttOf h).activeTt).getD (factoryTimetable h.val)

/-- The effects of R85 at the switch point, when the bank of the port differs from the active one. -/
def State.switchPoint (s : State) (h : Host24) : State :=
  let t := s.ttOf h
  match t.activeTt with
  | none => s.modTt h fun t => { t with pend := false, portBank := t.active, logTimes := [] }
  | some x =>
    let s1 := s.modTt h fun t => { t with pend := false, portBank := t.active, pendLogged := false, logTimes := [] }
    let s2 := s1.modPort h fun p =>
      { p.dropPrefetch with
        cfg := BitVec.ofNat 32 x.cfg, rdyTmo := BitVec.ofNat 16 x.rdyTmo, epochNews := true
        addr4 := if t.portTt.isNone then 4096 < x.vsizePages else p.addr4
        cmd := match p.cmd with
          | .s1 => .s1
          | .s4 => if bit x.modesPermitted 1 then .s4 else .s1
          | .d8 => if bit x.modesPermitted 2 then .d8 else .s1
        armed := if cfgContEn x.cfg then p.armed else none
        hpw := { setCause causeEpoch p.hpw with epochTt := t.epoch } }
    s2.setAttributes x h

/-- A frame in service ends when its select rises; a pending switch is then taken (R85). -/
def State.endFrame (s : State) (h : Host24) : State :=
  let s1 := s.modPort h fun p => { p with frame := none }
  if (s1.ttOf h).pend then s1.switchPoint h else s1

/-! ## Flags and events of a frame -/

/-- FRAME_TORN, PROG_OVERLONG or CMD_BAD: flag, HPC_TORNCNT and EV 0x0121 (R57). -/
def State.tornFrame (s : State) (h : Host24) (b op : Nat) : State :=
  (s.modPort h fun p => { p.setStat b with torn := p.torn.inc }).raise 0x0121 srcHPC (p8 h.val ++ p8 b ++ p8 op)

/-- A denied program, erase or control frame (Table 3.7). -/
def State.denyFrame (s : State) (h : Host24) (op addr : Nat) (prot : Bool) : State :=
  (s.modPort h fun p => { p.setStat stDenied with prot := p.prot || prot }).raise 0x0128 srcTTB (p8 h.val ++ p8 op ++ p32 addr)

/-- EV 0x0129 for a LOG clause, at most once a second per clause (R79). -/
def State.logClause (s : State) (h : Host24) (i : Nat) (c : Clause) (addr : Nat) : State :=
  if c.log then
    match (s.ttOf h).logTimes.find? (fun p => p.1 = i) with
    | some (_, t) => if s.timeBase.toNat < t + 1000000 then s else
        (s.modTt h fun x => { x with logTimes := (i, s.timeBase.toNat) :: x.logTimes.filter (fun p => p.1 ≠ i) }).raise 0x0129 srcTTB
          (p8 h.val ++ p16 i ++ p32 addr)
    | none => (s.modTt h fun x => { x with logTimes := (i, s.timeBase.toNat) :: x.logTimes }).raise 0x0129 srcTTB
        (p8 h.val ++ p16 i ++ p32 addr)
  else s

def State.hallPass (s : State) (h : Host24) : Bool := (s.imgOf h).state = .hallPass

/-! ## Taps (R184) -/

def State.selectedEnvelope (s : State) (h : Host24) : Option Bytes :=
  (s.imgOf h).selected.bind fun k => ((s.imgOf h).slots.get k).envelope

def envBlocks (e : Bytes) : Nat := u32 e 0x18
def blockSize : Nat := 65536

/-- First byte of the selected slot in the host's virtual flash. -/
def State.slotBase (s : State) (h : Host24) : Nat :=
  match (s.imgOf h).selected with
  | some k => ((s.imgOf h).slotPage.get k).toNat * 4096
  | none => 0

/-- Cores that run in the present power state (R194). -/
def State.coresOn (s : State) : List Nat :=
  match s.power with
  | .p0 => List.range 16
  | .p1 => List.range 4
  | _ => []
def State.coreFree (s : State) (c : Nat) : Bool := !s.dgc.excluded.getLsbD c && !s.dgc.running.any fun x => x.1 = c
/-- A core is free for one more tap (R200); each open tap holds one. -/
def State.tapCore (s : State) : Bool :=
  (all24.filter fun k => (s.imgOf k).tap.isSome).length < (s.coresOn.filter s.coreFree).length

/-- A delivery of `n` bytes at virtual address `va` opens, feeds or abandons the tap of a host On Hall pass. -/
def State.tapDelivery (s : State) (h : Host24) (va n : Nat) : State :=
  match s.selectedEnvelope h with
  | none => s
  | some env =>
    let i := s.imgOf h
    let base := s.slotBase h
    let blocks := envBlocks env
    if i.state ≠ .hallPass ∨ n = 0 ∨ va + n ≤ base ∨ base + blocks * blockSize ≤ va then s
    else
      let o := va - base
      let feed := fun (b e : Nat) (im : HostImg) =>
        if (b + 1) * blockSize ≤ e then { im with tap := none, tapDone := im.tapDone ++ [b] }
        else { im with tap := some { block := b, expect := e } }
      match i.tap with
      | some tp =>
        if o + n ≤ tp.expect then s
        else if tp.expect < o then
          s.modImg h fun im => { im with tap := none, sweepQueue := tp.block :: im.sweepQueue }
        else s.modImg h (feed tp.block (o + n))
      | none =>
        let b := (o + blockSize - 1) / blockSize
        if b * blockSize < o + n ∧ b < blocks ∧ ¬ i.verified.contains b ∧ ¬ i.tapDone.contains b then
          if s.tapCore then s.modImg h (feed b (o + n)) else s.modImg h fun im => { im with sweepQueue := b :: im.sweepQueue }
        else s

/-! ## Reads -/

/-- What the clause of a page gives the port (R74, R75, Table 3.7). -/
inductive PageSrc where
  /-- bytes from flash at a virtual address; `hit` is a hit of the prefetch buffer -/
  | flash (va : Nat) (bytes : Bytes) (hit : Bool) (xmode : Nat)
  | plain (bytes : Bytes) (fill : Bool)
  | deny
  | lost (vpage : Nat)
  deriving DecidableEq, Repr

/-- Bytes of a substitute clause from host address `a` (Table 3.7). -/
def substBytes (t : Timetable) (c : Clause) (a n : Nat) : Bytes :=
  let base := if c.addrTest = 1 then (t.rangeAt c.range).base else 0
  (List.range n).map fun i => t.pool.getD (c.arg0 + (a + i - base) % max 1 c.arg1) 0

/-- XMODE of the range a clause names. -/
def clauseXmode (t : Timetable) (c : Clause) : Nat := if c.addrTest = 1 then (t.rangeAt c.range).xmode else 0

/-- The source of the bytes from host address `a` to the end of its page, with the clause matched. -/
def State.pageSrc (s : State) (h : Host24) (t : Timetable) (op m shape a : Nat) : PageSrc × Option (Nat × Clause) :=
  let n := 4096 - a % 4096
  match t.lookup op m a a with
  | none => (if t.defaultAction = 4 then .plain (List.replicate n (cfgFill t.cfg)) true else .deny, none)
  | some (i, c) =>
    let src := match effAction (s.hallPass h) c with
      | 0 | 1 =>
        let va := (a + c.arg0) % 2 ^ 32
        let hit := clauseXmode t c ≠ 1 && 4 ≤ c.dummy + modeClocks shape m &&
          (match (s.port h).prefetch with | some pf => pf.valid && pf.vpage = va / 4096 | none => false)
        (match s.readPage h (va / 4096) true with
          | some pg => PageSrc.flash va (pg.drop (va % 4096)) hit (clauseXmode t c)
          | none => .lost (va / 4096))
      | 3 => .plain (substBytes t c a n) false
      | 4 => .plain (List.replicate n (if bit c.arg0 8 then BitVec.ofNat 8 c.arg0 else cfgFill t.cfg)) true
      | _ => .deny
    (src, some (i, c))

/-- The HALL field of the native status byte (Table 2.7). -/
def State.hallField (s : State) (h : Host24) : Nat :=
  match (s.imgOf h).state with
  | .hallPass => if (s.port h).hpw.sweepDone then 2 else 1
  | .trial => 3
  | _ => 0

def HostState.attnLow : HostState → Bool
  | .off | .held | .measuring | .detention => true
  | _ => false

/-- HCn_ATTN (R62). -/
def State.attn (s : State) (h : Host24) : Bool :=
  let w := (s.port h).hpw
  (w.attnCause &&& w.attnEn) ≠ 0 && !(s.imgOf h).state.attnLow

/-- The native-mode status byte (Table 2.7). -/
def State.nativeStatus (s : State) (h : Host24) (ready err : Bool) : Byte :=
  let p := s.port h
  BitVec.ofNat 8 (128 * b2n ready + 64 * b2n err + 16 * s.hallField h + 8 * b2n (p.epochNews || p.epochShown) + 4 * b2n p.wip +
    2 * b2n s.plc.steady + b2n (s.attn h))

/-- Bytes driven with the CRC-8 of R42 after each block of up to 64; `endPage` closes the block. -/
def emitCrc : Bytes → Bytes → Nat → Bytes × Bytes × Nat
  | [], acc, k => ([], acc, k)
  | b :: bs, acc, k =>
    let acc1 := acc ++ [b]
    if k + 1 = 64 then
      let (o, a, n) := emitCrc bs [] 0
      (b :: BitVec.ofNat 8 (crc8 acc1) :: o, a, n)
    else
      let (o, a, n) := emitCrc bs acc1 (k + 1)
      (b :: o, a, n)

/-- Drive data bytes of a read. -/
def driveData (crcOn : Bool) (fr : InFrame) (bs : Bytes) (pageDone : Bool) : Bytes × InFrame :=
  if crcOn then
    let (o, acc, k) := emitCrc bs fr.crcAcc fr.inBlock
    if pageDone && k ≠ 0 then (o ++ [BitVec.ofNat 8 (crc8 acc)], { fr with crcAcc := [], inBlock := 0 })
    else (o, { fr with crcAcc := acc, inBlock := k })
  else (bs, fr)

def Port.addOut (p : Port) (bs : Bytes) : Port := { p with out := p.out ++ bs }

/-- Data bytes that cross a host port (R372). -/
def State.countBytes (s : State) (n : Nat) : State := { s with pwr := { s.pwr with hbytes := s.pwr.hbytes + BitVec.ofNat 64 n } }

/-- The frame is over: arming of continuous read (R34, R53, R78), and the select, which rises or stays low. -/
def State.finishRead (s : State) (h : Host24) (fr : InFrame) : State :=
  let shape := standardShape fr.opcode
  let hasMode := shape = 5 || shape = 6 || (shape = 8 && (s.port h).cmd = .s4)
  let arm := hasMode && fr.mode.toNat / 16 = 0xA && cfgContEn (s.port h).cfg.toNat && fr.cont
  let s1 := s.modPort h fun p => { p with armed := if hasMode then (if arm then some fr.opcode else none) else p.armed }
  if fr.keepsSelect then s1.modPort h fun p => { p with frame := some { fr with left := 0, waiting := .none } }
  else (s1.modPort h fun p => { p with frame := some fr }).endFrame h

/-- UNDERRUN: flag, event with the first address not served (R36). -/
def State.underrun (s : State) (h : Host24) (addr : Nat) : State :=
  (s.modPort h fun p => p.setStat stUnderrun).raise 0x0123 srcHPC (p8 h.val ++ p32 addr)

/-- A lost page is read: fill as R36, and EV 0x060E at most once per page per second (R160). -/
def State.lostRead (s : State) (h : Host24) (addr vpage : Nat) : State :=
  let s1 := s.underrun h addr
  let sec := s.sec
  if (s.port h).lostLog.any (fun p => p.1 = vpage && p.2 = sec) then s1
  else (s1.modPort h fun p => { p with lostLog := (vpage, sec) :: p.lostLog.filter (fun q => q.2 = sec) }).raise 0x060E srcPLC
    (p8 h.val ++ p32 vpage)

/-- A denied page: READ_FILLED, HPC_FILLADDR and EV 0x0124 (R56). -/
def State.readFilled (s : State) (h : Host24) (addr : Nat) : State :=
  (s.modPort h fun p => { p.setStat stFilled with
    fillAddr := if p.stat.getLsbD stFilled then p.fillAddr else BitVec.ofNat 32 addr }).raise 0x0124 srcHPC (p8 h.val ++ p32 addr)

/-- A request of a channel for the page that a host waits for (R116). -/
def State.requestPage (s : State) (h : Host24) (v : Nat) (kind : ReqKind) : State :=
  match (s.findExtent h v).bind s.readCopy with
  | some l =>
    if hc : l.chan < 24 then
      let r : Request := { kind, host := h.val, sel := l.sel, op := .read, dpage := l.dpage, vpage := v, dest := none
                           bytesDone := 0, wasCut := false, retried := false }
      s.modChan ⟨l.chan, hc⟩ fun c =>
        if c.queue.any (fun q => q.host = h.val && q.vpage = v && q.op = .read) then c else { c with queue := c.queue ++ [r] }
    else s
  | none => s

/-- A miss in a prefetch range loads the page into the buffer (R52); a native-mode read outside a window keeps its
fetch there (R41). -/
def State.startPrefetch (s : State) (h : Host24) (v : Nat) : State :=
  match (s.port h).prefetch with
  | some pf => if pf.vpage = v then s else s.modPort h fun p => { p with prefetch := some { vpage := v, valid := false } }
  | none => s.modPort h fun p => { p with prefetch := some { vpage := v, valid := false } }

/-- Serve a read frame from its present state; `avail` flash bytes are in the line buffer in time. One round of the
recursion starts a page or delivers from it; `fuel` bounds the rounds. -/
def State.serve (h : Host24) (t : Timetable) : Nat → Nat → InFrame → State → State
  | 0, _, fr, s => s.finishRead h fr
  | fuel + 1, avail, fr, s =>
    let native := cfgNative (s.port h).cfg.toNat
    let crcOn := cfgNativeCrc (s.port h).cfg.toNat
    let fill := cfgFill (s.port h).cfg.toNat
    if fr.left = 0 then s.finishRead h fr
    else if fr.page.isEmpty then
      -- a new page
      let n := 4096 - fr.addr % 4096
      let stat := fun (s : State) (fr : InFrame) (err : Bool) =>
        if native then
          let b := s.nativeStatus h true err
          (s.modPort h (·.addOut [b]), if crcOn then { fr with crcAcc := fr.crcAcc ++ [b] } else fr)
        else (s, fr)
      if fr.filling then
        let (s1, fr1) := stat s fr true
        s1.serve h t fuel avail { fr1 with page := List.replicate n fill, flash := false }
      else
        let m := ifaceMode (s.port h).cmd (standardShape fr.opcode)
        let (src, mt) := s.pageSrc h t fr.opcode m (standardShape fr.opcode) fr.addr
        let s0 := mt.elim s fun (i, c) => s.logClause h i c fr.addr
        match src with
        | .deny =>
          let (s1, fr1) := stat (s0.readFilled h fr.addr) fr true
          s1.serve h t fuel avail { fr1 with page := List.replicate n fill, flash := false, filling := true }
        | .lost v =>
          let (s1, fr1) := stat (s0.lostRead h fr.addr v) fr true
          s1.serve h t fuel avail { fr1 with page := List.replicate n fill, flash := false, filling := true }
        | .plain bs fill =>
          let (s1, fr1) := stat s0 fr false
          s1.serve h t fuel avail { fr1 with page := bs, flash := false, counted := !fill }
        | .flash va bs hit xmode =>
          let s1 := if !hit && xmode = 2 && cfgPrefetchEn (s.port h).cfg.toNat then s0.startPrefetch h (va / 4096) else s0
          if native && !hit && avail < bs.length then
            -- READY = 0 until the buffer holds the rest of the page (R41)
            let b := s1.nativeStatus h false false
            let s2 := if xmode ≠ 1 then s1.startPrefetch h (va / 4096) else s1
            ((s2.modPort h fun p => { p.addOut [b] with
                frame := some { fr with waiting := .native, crcAcc := if crcOn then fr.crcAcc ++ [b] else fr.crcAcc } }).requestPage
              h (va / 4096) .demand)
          else
            let (s2, fr1) := stat s1 fr false
            s2.serve h t fuel avail { fr1 with page := bs, flash := !hit, counted := true }
    else
      let want := min fr.left fr.page.length
      let can := if fr.flash then min want avail else want
      let (o, fr1) := driveData crcOn fr (fr.page.take can) (can = fr.page.length)
      let vaOf := fun a => ((t.lookup fr.opcode (ifaceMode (s.port h).cmd (standardShape fr.opcode)) a a).elim a
        fun p => (a + p.2.arg0) % 2 ^ 32)
      let s1 := (s.modPort h (·.addOut o)).countBytes (if fr.counted && !fr.filling then can else 0)
      let s2 := if fr.flash then s1.tapDelivery h (vaOf fr.addr) can else s1
      let fr2 := { fr1 with addr := (fr.addr + can) % 2 ^ 32, left := fr.left - can, page := fr.page.drop can }
      if can = want then s2.serve h t fuel (if fr.flash then avail - can else avail) fr2
      else if cfgRdyEn (s.port h).cfg.toNat && fr.honours then
        -- HPn_RDY stretches the frame (R37)
        (s2.modPort h fun p => { p with frame := some { fr2 with waiting := .rdy } }).requestPage h (vaOf fr2.addr / 4096) .demand
      else
        (s2.underrun h fr2.addr).serve h t fuel 0
          { fr2 with page := List.replicate fr2.page.length fill, flash := false, filling := true }

/-- Rounds that suffice for `want` bytes. -/
def readFuel (want : Nat) : Nat := 3 * (want / 4096 + 3)

/-- Begin a read frame of opcode `op` at host address `a`. -/
def State.startRead (s : State) (h : Host24) (t : Timetable) (op a : Nat) (f : Frame) (mode : Byte) : State :=
  let m := ifaceMode (s.port h).cmd (standardShape op)
  let mt := t.lookup op m a a
  let fr : InFrame :=
    { opcode := op, addr := a, left := f.want, page := [], flash := false, filling := false, counted := false, waiting := .none
      honours := f.honoursRdy, cont := mt.elim false (fun p => p.2.cont), mode, crcAcc := [], inBlock := 0
      keepsSelect := f.keepsSelect }
  if f.want = 0 then
    -- the first page is tested at the end of the address (R74); in native mode one status byte is sent (R41)
    let s0 := mt.elim s fun (i, c) => s.logClause h i c a
    let stat := fun (st : State) (ready err : Bool) =>
      if cfgNative (st.port h).cfg.toNat then st.modPort h (·.addOut [st.nativeStatus h ready err]) else st
    match (s.pageSrc h t op m (standardShape op) a).1 with
    | .flash va bs hit xmode =>
      let ready := hit || bs.length ≤ f.avail
      let s1 := if !hit && xmode = 2 && cfgPrefetchEn (s0.port h).cfg.toNat then s0.startPrefetch h (va / 4096) else s0
      let s2 := stat s1 ready false
      (if cfgNative (s.port h).cfg.toNat && !ready && xmode ≠ 1 then s2.startPrefetch h (va / 4096) else s2).finishRead h fr
    | .plain _ _ => (stat s0 true false).finishRead h fr
    | .deny => (stat (s0.readFilled h a) true true).finishRead h fr
    | .lost _ => (stat s0 true true).finishRead h fr
  else s.serve h t (readFuel f.want) f.avail fr

/-- Fill to the end of a waiting frame after a timeout (R39, R41). -/
def State.timeoutFrame (s : State) (h : Host24) (fr : InFrame) : State :=
  let t := s.portTt h
  let fill := cfgFill (s.port h).cfg.toNat
  let native := cfgNative (s.port h).cfg.toNat
  let crcOn := cfgNativeCrc (s.port h).cfg.toNat
  let s1 := (s.modPort h fun p => p.setStat stRdyTimeout).raise 0x0126 srcHPC (p8 h.val ++ p32 fr.addr)
  let b := s1.nativeStatus h true true
  let s2 := if native && fr.waiting = .native then s1.modPort h (·.addOut [b]) else s1
  let n := if fr.page.isEmpty then 4096 - fr.addr % 4096 else fr.page.length
  s2.serve h t (readFuel fr.left) 0
    { fr with page := List.replicate n fill, flash := false, filling := true, waiting := .none
              crcAcc := if crcOn && fr.waiting = .native then fr.crcAcc ++ [b] else fr.crcAcc }

/-! ## Taking a frame -/

/-- A port decodes frames: enabled, its host running, and not in P4 (R28, R29, R58). -/
def State.decodes (s : State) (h : Host24) : Bool :=
  (s.port h).cfg.getLsbD 0 && !s.fused h.val && s.power ≠ .p4 &&
    ((s.imgOf h).state = .hallPass || (s.imgOf h).state = .trial || (s.imgOf h).state = .running)

/-- A frame wakes the controller from P3; a host that does not honour HPn_RDY loses it (R39). -/
def State.frameWake (s : State) (h : Host24) : State := if s.power = .p3 then s.wake wkHost h.val else s

def Port.newFrame (p : Port) : Port :=
  { p with out := [], rstEn := false, stale := false, epochShown := p.epochNews, epochNews := false }

/-- The opcode index entry gives shape `shape` to `op` in the port's command state (R33, R67). -/
def shapeIn (t : Timetable) (cmd : CmdState) (op shape : Nat) : Bool :=
  shape ≠ 0 && idxShape (t.entry op) = shape && bit (shapeModes shape) (ifaceMode cmd shape)

/-- An unrecognised frame is ignored until select release (R33). -/
def State.unknownFrame (s : State) (h : Host24) : State := s.modPort h fun p => p.setStat stDenied

/-- Host address of a frame: 3 or 4 bytes (R33). -/
def frameAddr (p : Port) (shape : Nat) (f : Frame) : Nat :=
  let short := shape = 1 || shape = 3 || shape = 0xA || shape = 0xC || shape = 0xE
  if short && p.cmd = .s1 && !p.addr4 then f.addr.toNat % 2 ^ 24 else f.addr.toNat

/-- Shapes that have an address, mode or dummy phase in a command state (Table 2.2). -/
def hasAddrPhase (cmd : CmdState) (shape : Nat) : Bool :=
  shape ≤ 0xE || shape = 0x1B || shMBW ≤ shape ||
    (cmd = .d8 && (shape = 0x12 || shape = 0x13 || shape = 0x15 || shape = 0x16 || shape = 0x17 || shape = 0x1A))

/-- Shapes that have a mode or dummy phase in a command state. -/
def hasDummyPhase (cmd : CmdState) (shape : Nat) : Bool :=
  (3 ≤ shape && shape ≤ 8) || shape = 0x1B || shape = shMBR ||
    (cmd = .d8 && (shape = 0x12 || shape = 0x13 || shape = 0x17 || shape = 0x1A))

/-- The fetch that a read issued at its last address edge completes into the prefetch buffer of a prefetch range (Table 2.9). -/
def State.issuedFetch (s : State) (h : Host24) (op a : Nat) : State :=
  let shape := standardShape op
  match s.pageSrc h (s.portTt h) op (ifaceMode (s.port h).cmd shape) shape a with
  | (.flash va _ false 2, _) => if cfgPrefetchEn (s.port h).cfg.toNat then s.startPrefetch h (va / 4096) else s
  | _ => s

/-- An address-first frame on an armed port (R53). -/
def State.contFrame (s : State) (h : Host24) (f : Frame) (a : Word) (mode : Byte) : State :=
  match (s.port h).armed with
  | none => s
  | some op =>
    if f.ending = .inCommand ∨ f.ending = .inAddress then s.tornFrame h stTorn op
    else if f.ending = .inDummy then (s.tornFrame h stTorn op).issuedFetch h op a.toNat
    else s.startRead h (s.portTt h) op a.toNat f mode

/-- Take a frame of opcode `op` and shape `shape`; `body` is what the whole frame does. -/
def takeFrame (op shape : Nat) (f : Frame) (body : State → State) (s0 : State) : State :=
  let h := f.port
  if !s0.decodes h then s0
  else if s0.power = .p3 && !f.honoursRdy then s0.frameWake h
  else
    let prevRst := (s0.port h).rstEn
    let s := ((s0.frameWake h).endFrame h).modPort h Port.newFrame
    let p := s.port h
    if p.armed.isSome then s.contFrame h f f.laneAddr f.laneMode
    else if f.ending = .inCommand then s.tornFrame h stTorn (Config.eventCode 0x0121 0).toNat
    else if p.cmd = .d8 && f.inverse ≠ ~~~(BitVec.ofNat 8 op) then
      (s.tornFrame h stCmdBad op).raise 0x0122 srcHPC (p8 h.val ++ p8 op ++ p8 f.inverse.toNat)
    else if !shapeIn (s.portTt h) p.cmd op shape then s.unknownFrame h
    else if f.ending = .inAddress && hasAddrPhase p.cmd shape then s.tornFrame h stTorn op
    else if f.ending = .inDummy && hasDummyPhase p.cmd shape then
      if shape ≤ 8 then (s.tornFrame h stTorn op).issuedFetch h op (frameAddr p shape f) else s.tornFrame h stTorn op
    else
      -- Reset acts only right after Reset Enable (R31)
      if shape = 0x1D then
        (body (if prevRst then s.modPort h fun p => { p with rstEn := true } else s)).modPort h fun p => { p with rstEn := false }
      else body s

/-- The body of a read frame. -/
def readBody (op shape : Nat) (f : Frame) (s : State) : State :=
  s.startRead f.port (s.portTt f.port) op (frameAddr (s.port f.port) shape f) f f.mode

end Sys2Proof.Machine
end

