-- ==== Sys2Proof/Machine/Writes.lean ====
section
/-! DEFINITION. Host writes (R45 to R49, R140 to R150): acceptance at select release, the destinations that must become
durable, and the end of a write. -/
namespace Sys2Proof.Machine

/-- A page's write goes to a shadow: On Hall pass always, in Trial when a stage clause matched it (R19, R80). -/
def State.toShadow (s : State) (h : Host24) (stage : Bool) : Bool :=
  match (s.imgOf h).state with
  | .hallPass => true
  | .trial => stage
  | _ => false

/-- READY NAND selects, and a choice of `n` of them on different channels. -/
def State.nandReady (s : State) : List Nat := (List.range 96).filter fun i => (s.selAt i).nand && (s.selAt i).state = .ready
def State.pickSelects (s : State) (cands : List Nat) (two : Bool) : List Nat :=
  let r := cands.rotateLeft (Config.choice s.free % max 1 cands.length)
  match r with
  | [] => []
  | a :: rest => if two then a :: ((rest.find? fun b => b / 4 ≠ a / 4).elim [] fun b => [b]) else [a]

/-- PAIR selects of the NOR shadow area: two READY NOR selects that are not LIVE, on different channels. -/
def State.shadowSelects (s : State) : List Nat :=
  (List.range 96).filter fun i => !(s.selAt i).nand && (s.selAt i).state = .ready && !s.isLive i

def mkDests (v : Nat) (ks : List DestKind) (is : List Nat) : List Dest :=
  (ks.zip is).map fun (k, i) => { vpage := v, kind := k, select := i, state := .waiting }

/-- The required destinations of one page (R145). -/
def State.pageDests (s : State) (h : Host24) (stage : Bool) (v : Nat) : List Dest :=
  match s.findExtent h v with
  | none => []
  | some e =>
    if e.state = .lost then []
    else if s.toShadow h stage then
      mkDests v [.shadow0, .shadow1] (s.pickSelects (if e.pinned then s.shadowSelects else s.nandReady) (e.need = 2))
    else if e.journal then mkDests v [.journal0, .journal1] (s.pickSelects s.nandReady (e.need = 2))
    else
      (if e.copy0.valid then mkDests v [.copy0] [e.copy0.index] else []) ++
      (if e.copy1.valid then mkDests v [.copy1] [e.copy1.index] else []) ++
      (if e.moving && e.target.valid && !(s.selAt e.target.index).nand && v - e.vbase < e.copied then
        mkDests v [.target] [e.target.index] else [])

/-- A journal or shadow page is needed and none is free (R150). -/
def State.noStagingRoom (s : State) (h : Host24) (stage : List Nat) (pages : List (Nat × Option Bytes)) : Bool :=
  let need := pages.filterMap fun q => (s.findExtent h q.1).bind fun e =>
    if e.state = .lost then none
    else if s.toShadow h (stage.contains q.1) then some (e.pinned, if e.need = 2 then 2 else 1)
    else if e.journal then some (false, if e.need = 2 then 2 else 1) else none
  let nor := (need.filter Prod.fst).length
  let nand := ((need.filter fun x => !x.1).map Prod.snd).sum
  norShadowTotal s < norShadowUsed s + nor || journalPagesTotal s < journalPagesUsed s + nand ||
    indexTotal < indexUsed s + (need.filter fun x => !x.1).length

/-- The page of the write that is being copied to a NOR TARGET is held until its copy is durable; step 4 of Table 5.4
holds every write (R151); so does a commit of shadows (R186, R250). -/
def State.writeHeld (s : State) (h : Host24) (pages : List (Nat × Option Bytes)) : Bool :=
  (s.imgOf h).releasing ||
    pages.any fun q => match s.findExtent h q.1 with
      | some e => e.moving && (e.copied = e.pages ||
          (!(s.selAt e.target.index).nand && q.1 - e.vbase = e.copied))
      | none => false

/-- Requests of a write that may run now: all of them, or one at a time for a PAIR extent and in Steady mode (R144,
R138, R162); those not yet queued or outstanding join their channel's queue as streams. -/
def State.issueDests (s : State) (h : Host24) : State :=
  match (s.port h).pending with
  | none => s
  | some w =>
    let waiting := w.dests.filter fun d => d.state = .waiting
    let pairPage := fun v => (s.findExtent h v).elim false fun e => e.pinned && e.writable
    let now := if s.plc.steady then waiting.take 1
      else waiting.filter fun d => !(d.kind = .copy1 && pairPage d.vpage && waiting.any fun x => x.vpage = d.vpage && x.kind = .copy0)
    now.foldl (fun st d =>
      if hc : d.select / 4 < 24 then
        let c : Chan := ⟨d.select / 4, hc⟩
        let loc := (s.findExtent h d.vpage).elim 0 fun e => match d.kind with
          | .copy0 => e.copy0.dpage + (d.vpage - e.vbase)
          | .copy1 => e.copy1.dpage + (d.vpage - e.vbase)
          | .target => e.target.dpage + (d.vpage - e.vbase)
          | _ => 0
        let r : Request := { kind := .stream, host := h.val, sel := d.select % 4, op := if w.erase then .erase else .program
                             dpage := loc, vpage := d.vpage, dest := some d.kind, bytesDone := 0, wasCut := false, retried := false }
        let same := fun q : Request => q.host = h.val && q.vpage = d.vpage && q.dest = some d.kind
        let ch := st.chan c
        if ch.queue.any same || ch.running.elim false same || all4.any (fun k => ((ch.sels.get k).busy).elim false same) then st
        else st.modChan c fun ch => { ch with queue := ch.queue ++ [r] }
      else st) s

/-- Destinations are assigned to a write that is neither held nor without staging room. -/
def State.assignDests (s : State) (h : Host24) : State :=
  match (s.port h).pending with
  | none => s
  | some w =>
    if s.writeHeld h w.pages then s.modPort h fun p => { p with pending := some { w with held := true } }
    else if s.noStagingRoom h w.stage w.pages then
      s.modPort h fun p => { p with pending := some { w with held := false, waitsStaging := true } }
    else
      let ds := w.pages.flatMap fun q => s.pageDests h (w.stage.contains q.1) q.1
      ({ s with free := s.free + 1 }.modPort h fun p =>
        { p with pending := some { w with held := false, waitsStaging := false, dests := ds } }).issueDests h

/-- A write that is held or waits for staging room is judged again. -/
def State.resumeWrite (s : State) (h : Host24) : State :=
  match (s.port h).pending with
  | some w => if w.held || w.waitsStaging then s.assignDests h else s
  | none => s

/-- A program or erase is accepted: WEL clears, WIP sets, the buffered page goes (R45, R46, R54). -/
def State.acceptWrite (s : State) (h : Host24) (erase : Bool) (stage : List Nat) (pages : List (Nat × Option Bytes)) : State :=
  let s1 := s.modPort h fun p => { p with
    wel := false, wip := true
    pending := some { erase, stage, pages, dests := [], waitsStaging := false, held := false }
    prefetch := match p.prefetch with
      | some pf => if pages.any (fun q => q.1 = pf.vpage) then none else some pf
      | none => none }
  s1.assignDests h

/-- The new content of a page after a program of `data` at offset `o` (R140). -/
def programPage (old : Bytes) (o : Nat) (data : Bytes) : Bytes :=
  old.take o ++ (List.zipWith (· &&& ·) ((old.drop o).take data.length) data) ++ old.drop (o + data.length)

/-! ## Program and erase frames -/

/-- The data of a program with its CRC byte removed, and whether that CRC holds (R42). In 8D the CRC is the first byte
of a further pair. -/
def splitCrc (on : Bool) (d8 : Bool) (addr : Word) (data : Bytes) : Bytes × Bool :=
  if on then
    let n := if d8 then data.length - 2 else data.length - 1
    let body := data.take n
    (body, data.isEmpty || crc8 (beBytes 4 addr.toNat ++ body) = (data.getD n 0).toNat)
  else (data, true)

/-- A program frame with all its clocks (R45, R46, R49, Table 2.9). -/
def programBody (op shape : Nat) (f : Frame) (s : State) : State :=
  let h := f.port
  let p := s.port h
  let t := s.portTt h
  let cfg := p.cfg.toNat
  let d8 := p.cmd = .d8
  let a := frameAddr p shape f
  let unit := cfgProgUnit cfg
  let (data, crcOk) := splitCrc (cfgNativeCrc cfg) d8 (BitVec.ofNat 32 a) f.data
  if f.ending = .partialUnit ∨ f.ending = .extraClocks ∨ (d8 ∧ (f.data.length % 2 = 1 ∨ a % 2 = 1)) then s.tornFrame h stTorn op
  else if data.isEmpty then s
  else if unit < a % unit + data.length then s.tornFrame h stOverlong op
  else if !p.wel then s
  else if p.wip then s.modPort h fun p => { p with ign := p.ign.inc }
  else if !crcOk then
    (s.modPort h fun p => { p.setStat stCrcBad with crc := p.crc.inc }).raise 0x0125 srcHPC (p8 h.val ++ p32 a)
  else
    match t.lookup op (ifaceMode p.cmd shape) a a with
    | none => s.denyFrame h op a true
    | some (i, c) =>
      let s0 := s.logClause h i c a
      let act := effAction (s.hallPass h) c
      if act ≤ 1 then
        let va := (a + c.arg0) % 2 ^ 32
        let v := va / 4096
        (s0.countBytes data.length).acceptWrite h false (if act = 1 then [v] else []) [(v, some (programPage (s0.oldPage h v true) (va % 4096) data))]
      else s0.denyFrame h op a true

/-- A 4 KiB or 64 KiB erase frame (R48, R74). -/
def eraseBody (op shape size : Nat) (f : Frame) (s : State) : State :=
  let h := f.port
  let p := s.port h
  let a := frameAddr p shape f
  let lo := a / size * size
  if f.ending = .partialUnit ∨ f.ending = .extraClocks ∨ !f.data.isEmpty then s.tornFrame h stTorn op
  else if !p.wel then s
  else if p.wip then s.modPort h fun p => { p with ign := p.ign.inc }
  else
    match (s.portTt h).lookup op (ifaceMode p.cmd shape) lo (lo + size - 1) with
    | none => s.denyFrame h op lo true
    | some (i, c) =>
      let s0 := s.logClause h i c lo
      let act := effAction (s.hallPass h) c
      if act ≤ 1 then
        let v0 := (lo + c.arg0) % 2 ^ 32 / 4096
        s0.acceptWrite h true (if act = 1 then (List.range (size / 4096)).map (v0 + ·) else []) ((List.range (size / 4096)).map fun j => (v0 + j, none))
      else s0.denyFrame h op lo true

/-- Virtual pages of a range under a clause's VOFF. -/
def rangePages (t : Timetable) (c : Clause) : List Nat :=
  let r := t.rangeAt c.range
  (List.range ((r.last - r.base) / 4096 + 1)).map fun j => ((r.base + c.arg0) % 2 ^ 32 / 4096 + j)

/-- The erase-all frame (R48, R74). -/
def eraseAllBody (op shape : Nat) (f : Frame) (s : State) : State :=
  let h := f.port
  let p := s.port h
  let t := s.portTt h
  let m := ifaceMode p.cmd shape
  if !p.wel then s
  else if p.wip then s.modPort h fun p => { p with ign := p.ign.inc }
  else
    let ms := (t.span op).filter fun x => opTest op x.2 && bit x.2.modes m
    let s0 := ms.foldl (fun st x => st.logClause h x.1 x.2 0) s
    if ms.isEmpty || (s.hallPass h && ms.any fun x => !x.2.hall) then s0.denyFrame h op 0 true
    else
      let stage := (ms.filter fun x => x.2.action = 1).flatMap fun x => rangePages t x.2
      s0.acceptWrite h true stage ((ms.flatMap fun x => rangePages t x.2).eraseDups.map fun v => (v, none))

/-! ## The end of a write -/

/-- Old versions of a page give way to a new staged page. -/
def putStaged (l : List StagedPage) (x : StagedPage) : List StagedPage :=
  l.filter (fun y => !(y.host = x.host && y.vpage = x.vpage && (y.committed == x.committed))) ++ [x]

/-- The write of one page takes effect on staging: its journal or shadow page becomes the page's version (R141, R148),
and a lost page is readable again (R160). -/
def State.landPage (s : State) (h : Host24) (w : PendingWrite) (v : Nat) (content : Option Bytes) : State :=
  let ds := w.dests.filter fun d => d.vpage = v && d.state = .durable
  let (plc1, ws) := s.plc.nextWseq
  let plc2 := { plc1 with lost := plc1.lost.filter fun x => !(x.1 = h.val && x.2.1 = v) }
  let ext := s.findExtent h v
  let mk := fun (nor : Bool) (sels : List Nat) =>
    ({ host := h.val, extent := ext.elim 0 Extent.index, vpage := v, wseq := ws, two := 2 ≤ sels.length, nor, committed := false
       sel0 := sels.getD 0 0, sel1 := sels.getD 1 0, data := content } : StagedPage)
  let js := (ds.filter fun d => d.kind = .journal0 || d.kind = .journal1).map Dest.select
  let ss := (ds.filter fun d => d.kind = .shadow0 || d.kind = .shadow1).map Dest.select
  let p3 := if js.isEmpty then plc2 else { plc2 with journal := putStaged plc2.journal (mk false js) }
  let p4 := if ss.isEmpty then p3 else { p3 with shadows := putStaged p3.shadows (mk (ext.elim false Extent.pinned) ss) }
  { s with plc := p4 }

/-- Every page of the write has at least one durable destination. -/
def PendingWrite.lands (w : PendingWrite) : Bool :=
  w.pages.all fun q => w.dests.any fun d => d.vpage = q.1 && d.state = .durable

/-- No destination is left waiting. -/
def PendingWrite.settled (w : PendingWrite) : Bool :=
  !w.held && !w.waitsStaging && w.dests.all fun d => d.state ≠ .waiting

/-- An unrecoverable write: WIP clears, an error flag sets, EV 0x0608 (R147). -/
def State.unrecoverable (s : State) (h : Host24) (w : PendingWrite) (code : Nat) : State :=
  let v := (w.pages.find? fun q => !w.dests.any fun d => d.vpage = q.1 && d.state = .durable).elim (w.pages.headD (0, none)).1 Prod.fst
  (s.modPort h fun p => { p with
    wip := false, pending := none, eraseErr := p.eraseErr || w.erase, progErr := p.progErr || !w.erase }).raise code srcPLC
      (p8 h.val ++ p32 v)

/-- Requests of a host's write leave the queues. -/
def State.dropWriteRequests (s : State) (h : Host24) : State :=
  { s with chans := s.chans.map fun c => { c with queue := c.queue.filter fun q => !(q.host = h.val && q.dest.isSome) } }

end Sys2Proof.Machine
end

