-- ==== Sys2Proof/Machine/Hosts.lean ====
section
/-! DEFINITION. The host state machine's operations (Tables 1.7 and 6.4) and the commit of Timetables (R84 to R87). -/
namespace Sys2Proof.Machine

/-- The reset of R31 and R47: 1S and default address mode, WEL clear, continuous read disarmed, prefetch discarded. -/
def resetPort (t : Timetable) (p : Port) : Port :=
  { p.dropPrefetch with cmd := .s1, addr4 := 4096 < t.vsizePages, wel := false, armed := none, rstEn := false }

/-! ## Sidebands and state changes (R28, R177) -/

def BitVec24.put (v : BitVec 24) (h : Host24) (b : Bool) : BitVec 24 :=
  if b then v ||| BitVec.ofNat 24 (2 ^ h.val) else v &&& ~~~ BitVec.ofNat 24 (2 ^ h.val)

/-- HCn_RST_N falls: the port is reset and the host's select counts as released (R31, R47). -/
def State.hostReset (s : State) (h : Host24) : State :=
  (s.endFrame h).modPort h (resetPort (s.portTt h))

/-- The sidebands of a state (Table 1.7); PWREN falls 1 ms after the host goes Off. -/
def Hcs.apply (c : Hcs) (h : Host24) (st : HostState) : Hcs :=
  let run := st = .hallPass || st = .trial || st = .running
  let egr := st = .trial || st = .running
  { c with
    pwren := BitVec24.put c.pwren h (st ≠ .off)
    pend := BitVec24.put c.pend h (st = .off && (c.pwren.getLsbD h.val || c.pend.getLsbD h.val))
    run := BitVec24.put c.run h run, egr := BitVec24.put c.egr h egr }

/-- A change of host state: state, reason, sidebands, SWEEP_DONE and EV 0x0239 (R177); HPW_LTV (R359); HPW_HEALTH and
TRIAL_DUE on entering Trial (R248), where the marks of verified blocks end (R180); a host that is proven ends P1 (Table 12.3). -/
def State.setHost (s : State) (h : Host24) (new : HostState) : State :=
  let old := (s.imgOf h).state
  if old = new then s
  else
    let rstFalls := s.hcs.run.getLsbD h.val && !(new = .hallPass || new = .trial || new = .running)
    let s1 := s.modImg h fun i => { i with
      state := new, reason := if new = .detention then i.reason else 0, verified := if new = .trial then [] else i.verified }
    let s2 := { s1 with hcs := s1.hcs.apply h new }
    let s3 := s2.modHpw h fun w => { w with sweepDone := w.sweepDone && new = .running }
    let s4 := if rstFalls then s3.hostReset h else s3
    let s5 := s4.modHpw h fun w =>
      if new = .held || new = .off then { w with ltv := 0xFFFF }
      else if new = .trial then setCause causeTrialDue { w with health := 0 } else w
    let s6 := if new = .measuring || new = .hallPass then s5.wake wkInternal 0 else s5
    s6.raise 0x0239 srcFW (p8 h.val ++ p8 old.code ++ p8 new.code)

/-- Verification of the host ends and starts afresh (R178, R180); its digest list is free again. -/
def HostImg.dropVerify (i : HostImg) : HostImg :=
  { i with selected := none, passed := false, tried := [], acceptable := false, verified := [], tap := none, tapDone := []
           sweepQueue := [], listLoaded := false, deadlinePaused := false, releasing := false }
def State.dropVerify (s : State) (h : Host24) : State :=
  let s1 := s.modImg h HostImg.dropVerify
  { s1 with lists := s1.lists.filter fun x => x.1 ≠ h.val }.resumeWrite h

/-- A discard of the host's uncommitted shadows begins (R149). -/
def State.startDiscard (s : State) (h : Host24) : State :=
  s.modPlc fun p => { p with discard := BitVec24.put p.discard h true }

/-- The row HOLD of Table 6.4: selection runs again. -/
def State.toHeld (s : State) (h : Host24) : State :=
  ((s.startDiscard h).dropVerify h).setHost h .held

/-- Detention with a reason of Table 6.5, and EV 0x0236. -/
def State.detain (s : State) (h : Host24) (reason : Nat) : State :=
  let s1 := (s.dropVerify h).modImg h fun i => { i with reason := reason }
  ((s1.setHost h .detention).modImg h fun i => { i with reason := reason }).raise 0x0236 srcFW (p8 h.val ++ p8 reason)

/-- NO_TIMETABLE, NO_ACCEPTABLE_IMAGE, VERIFY_FAILED, HALL_MISMATCH (Table 6.5). -/
def detNoTimetable : Nat := 1
def detNoAcceptable : Nat := 2
def detVerifyFailed : Nat := 3
def detHallMismatch : Nat := 4

/-! ## Commits of Timetables (R83 to R87) -/

/-- The Timetable that a commit makes the host's own takes a host to or out of Detention (Table 6.4). -/
def State.afterCommit (s : State) (h : Host24) : State :=
  let detain := ((s.ttOf h).activeTt).elim true fun t => t.detain
  let i := s.imgOf h
  if detain then (if i.state = .held && s.lcc.state ≠ .scrapped && s.lcc.state ≠ .indeterminate then s.detain h detNoTimetable else s)
  else if i.state = .detention ∧ i.reason = detNoTimetable then s.setHost h .held else s

/-- One host's part of a commit (R85). -/
def State.commitOne (s : State) (h : Host24) : State :=
  let busy := (s.port h).frame.isSome
  let s1 := s.modTt h fun t => { t with active := !t.active, epoch := t.epoch + 1, ready := false, pend := busy, pendLogged := false }
  if busy then s1 else s1.switchPoint h

/-- A commit of hosts that are all READY. -/
def State.commitTts (s : State) (hs : List Host24) : State :=
  hs.foldl State.afterCommit (hs.foldl State.commitOne s)

/-- Stage an accepted Timetable in the inactive bank and commit it. -/
def State.stageAndCommit (s : State) (h : Host24) (t : Timetable) : State :=
  (s.modTt h fun x => { x.stage t with ready := true }).commitTts [h]

end Sys2Proof.Machine
end

