-- ==== Sys2Proof/Machine/Settings.lean ====
section
/-! DEFINITION. The activation record in force, settings generations and the blocks of R346
(R245, R343 to R351). -/
namespace Sys2Proof.Machine

/-- The record that ACT_WORD selects, and the other one. -/
def Update.recOf (u : Update) : ActRecord := if u.actSel then u.rec1 else u.rec0
def Update.otherRec (u : Update) : ActRecord := if u.actSel then u.rec0 else u.rec1
/-- The record in force, when it is readable (R245). -/
def Update.inForce (u : Update) : Option ActRecord := if u.recOf.whole then some u.recOf else none
/-- Write a record into the slot that ACT_WORD does not select, and then ACT_WORD (R245 steps 3 and 4). -/
def Update.writeRecord (u : Update) (r : ActRecord) : Update :=
  if u.actSel then { u with rec0 := r, actSel := false } else { u with rec1 := r, actSel := true }

/-- The generation in force (R345); the newest held where the record is unreadable. -/
def Update.genInForce (u : Update) : Word :=
  match u.inForce with
  | some r => r.settingsDir
  | none => (u.gens.foldl (fun (a : Option Generation) g => match a with
      | some b => if newer32 g.gen.toNat b.gen.toNat then some g else some b
      | none => some g) none).elim 0 Generation.gen
def Update.generation (u : Update) (g : Word) : Option Generation := u.gens.find? fun x => x.gen = g

/-- The block that holds a persistent entry (Table 11.10). -/
def blockOfIndex (idx : Nat) : Nat :=
  if 0x1100 ≤ idx ∧ idx ≤ 0x1110 then 0x0100
  else if 0x2400 ≤ idx ∧ idx ≤ 0x2417 then 0x0200 + (idx - 0x2400)
  else if 0x2500 ≤ idx ∧ idx ≤ 0x2517 then 0x0300 + (idx - 0x2500)
  else if idx = 0x2A00 then 0x0400
  else 0x0500 + idx / 256 % 16 + 16 * (idx / 4096)

/-- Persistent writes are refused while the engine is ACTIVATING or REVERTING (R345). -/
def Update.writesBarred (u : Update) : Bool := u.state = .activating || u.state = .reverting

/-- A value list's entry (R348): the value is omitted when it equals its default. -/
def Generation.putVal (g : Generation) (key : Nat × Nat) (v dflt : Nat) : Generation :=
  let rest := g.vals.filter fun x => x.1 ≠ key
  { g with vals := if v = dflt then rest else rest ++ [(key, v)] }
def Generation.putBlob (g : Generation) (block : Nat) (b : Bytes) : Generation :=
  { g with blobs := g.blobs.filter (fun x => x.1 ≠ block) ++ [(block, b)] }
def Generation.blob (g : Generation) (block : Nat) : Option Bytes := (g.blobs.find? fun x => x.1 = block).map Prod.snd
def Generation.val (g : Generation) (key : Nat × Nat) (dflt : Nat) : Nat := (g.vals.find? fun x => x.1 = key).elim dflt Prod.snd

/-- SYS_CFGFLAGS (Table 11.13). -/
def Update.cfgFlags (u : Update) : Nat :=
  let has (f : Nat → Bool) := b2n (u.defaulted.any f)
  has (· = 0x100) + 2 * has (fun b => b / 256 = 2) + 4 * has (fun b => b / 256 = 3) + 8 * has (· = 0x400) +
    16 * has (fun b => b / 256 = 5) + 32 * b2n u.dirDefault

end Sys2Proof.Machine
end

