-- ==== Sys2Proof/Machine/Values.lean ====
section
/-! DEFINITION. The persistent value entries (R343): size, default and range of each, putting a value into effect, and the
value lists of R348 and R349. -/
namespace Sys2Proof.Machine

/-- A persistent value entry: size in bytes, default and admitted values. -/
structure ValEntry where
  size : Nat
  dflt : Nat
  ok : Nat → Bool

def between (lo hi : Nat) (v : Nat) : Bool := lo ≤ v && v ≤ hi
def anyVal (_ : Nat) : Bool := true
def oneOf (xs : List Nat) (v : Nat) : Bool := xs.contains v

/-- Bytes 12 to 15 of UNIT_ID and the port (R302). -/
def unitIdBytes : Bytes := beBytes 16 Config.unitId.toNat
def factoryMac (k : Nat) : Bytes := [0x02] ++ field unitIdBytes 12 4 ++ p8 k

/-- Table 10.12. -/
def commEntry (idx sub : Nat) : Option ValEntry :=
  if 0x1100 ≤ idx ∧ idx ≤ 0x1103 then
    match sub with
    | 1 => some ⟨1, 1, between 0 1⟩
    | 2 => some ⟨1, 0x7E, between 1 0x7F⟩
    | 3 => some ⟨2, 500, oneOf [125, 250, 500, 1000]⟩
    | 4 => some ⟨2, 0, oneOf [0, 1000, 2000, 4000, 5000, 8000]⟩
    | 5 => some ⟨2, 800, between 600 900⟩
    | 6 => some ⟨2, 750, between 600 900⟩
    | _ => none
  else if 0x1108 ≤ idx ∧ idx ≤ 0x110B then
    match sub with
    | 1 => some ⟨1, 1, between 0 1⟩
    | 2 => some ⟨1, 0x20, anyVal⟩
    | 3 => some ⟨1, 8, between 2 255⟩
    | 4 => some ⟨1, 32, between 1 255⟩
    | 5 => some ⟨1, 0, anyVal⟩
    | 6 => some ⟨1, 128, between 1 255⟩
    | 7 => some ⟨6, leNat (factoryMac (idx - 0x1108)), fun v => v % 2 = 0⟩
    | _ => none
  else if idx = 0x1110 then
    match sub with
    | 1 => some ⟨2, 10, between 1 3600⟩
    | 2 => some ⟨2, 60, between 10 3600⟩
    | 3 => some ⟨1, 0, between 0 3⟩
    | _ => none
  else none

/-- The rw entries of Table 6.1 (with R386). -/
def hostEntry (sub : Nat) : Option ValEntry :=
  match sub with
  | 0x20 => some ⟨2, 0xFFFF, anyVal⟩
  | 0x21 => some ⟨1, 0, between 0 1⟩
  | 0x22 | 0x23 | 0x24 => some ⟨4, 0xFFFFFFFF, anyVal⟩
  | 0x25 | 0x26 => some ⟨4, 0, fun v => v % 16 = 0⟩
  | 0x27 => some ⟨2, 10, between 1 10000⟩
  | 0x28 | 0x29 => some ⟨1, 0xFF, fun v => v ≤ 31 || v = 0xFF⟩
  | _ => none

/-- The rw entries of Tables 11.4, 5.9, 8.10a and 9.14. -/
def plainEntry (idx sub : Nat) : Option ValEntry :=
  match idx, sub with
  | 0x2100, 2 => some ⟨2, 0xFFFF, anyVal⟩
  | 0x2100, 5 => some ⟨4, 5000000, between 100000 100000000⟩
  | 0x2100, 6 => some ⟨2, 250, between 0 900⟩
  | 0x2100, 7 => some ⟨1, 95, between 70 105⟩
  | 0x2600, 0x10 => some ⟨2, 64, between 1 1024⟩
  | 0x2600, 0x11 => some ⟨2, 512, between 64 8192⟩
  | 0x2600, 0x12 => some ⟨2, 64, fun v => between 8 1024 v && v % 2 = 0⟩
  | 0x2600, 0x14 => some ⟨4, 600, between 10 86400⟩
  | 0x2600, 0x15 => some ⟨4, 5000, between 100 60000⟩
  | 0x2803, 1 => some ⟨1, 0, between 0 1⟩
  | 0x2803, 2 => some ⟨2, 1200, between 0 1800⟩
  | 0x2803, 3 => some ⟨1, 3, between 1 15⟩
  | 0x2803, 4 => some ⟨2, 120, between 10 3600⟩
  | 0x2803, 5 => some ⟨2, 60, between 1 3600⟩
  | 0x2803, 6 => some ⟨2, 1024, between 64 16384⟩
  | 0x2901, 1 => some ⟨1, 0, between 0 1⟩
  | 0x2901, 2 => some ⟨2, 128, between 1 4096⟩
  | 0x2901, 3 => some ⟨4, 86400, between 3600 2592000⟩
  | 0x2901, 4 => some ⟨1, 0xFF, fun v => v ≤ 63 || v = 0xFF⟩
  | 0x2901, 5 => some ⟨2, 9000, anyVal⟩
  | 0x2901, 6 => some ⟨2, 4800, between 1 4800⟩
  | _, _ => none

/-- The host that an index of a per-host area names. -/
def hostIx (base idx : Nat) : Option Host24 := if h : base ≤ idx ∧ idx - base < 24 then some ⟨idx - base, h.2⟩ else none

/-- A persistent value entry on this part (R339, R343). -/
def State.valEntry (s : State) (idx sub : Nat) : Option ValEntry :=
  match hostIx 0x2200 idx with
  | some h => if s.fused h.val then none else hostEntry sub
  | none => if idx ≤ 0x1110 then commEntry idx sub else plainEntry idx sub

/-- The generation held in force (R345). -/
def State.genNow (s : State) : Generation :=
  (s.upd.generation s.upd.genInForce).getD { gen := s.upd.genInForce, dirSeq := 0, vals := [], blobs := [] }

/-- R338: the value that a read of a persistent entry returns. -/
def State.storedVal (s : State) (idx sub : Nat) : Nat :=
  (s.valEntry idx sub).elim 0 fun e => s.genNow.val (idx, sub) e.dflt

/-! ## Putting values into effect (R338, R344 step 4) -/

def setHostVal (sub v : Nat) (i : HostImg) : HostImg :=
  match sub with
  | 0x20 => { i with hostClass := BitVec.ofNat 16 v }
  | 0x21 => { i with releaseMode := BitVec.ofNat 8 v }
  | 0x22 => { i with slotPage := i.slotPage.set 0 (BitVec.ofNat 32 v) }
  | 0x23 => { i with slotPage := i.slotPage.set 1 (BitVec.ofNat 32 v) }
  | 0x24 => { i with slotPage := i.slotPage.set 2 (BitVec.ofNat 32 v) }
  | 0x25 => { i with pagesAB := BitVec.ofNat 32 v }
  | 0x26 => { i with pagesR := BitVec.ofNat 32 v }
  | 0x27 => { i with settleMs := BitVec.ofNat 16 v }
  | 0x28 => { i with ctrAB := BitVec.ofNat 8 v }
  | 0x29 => { i with ctrR := BitVec.ofNat 8 v }
  | _ => i

/-- The effect of a value whose moment is the write itself; `powerUp` adds those that wait for a power-up. -/
def State.applyVal (s : State) (idx sub v : Nat) (powerUp : Bool) : State :=
  match hostIx 0x2200 idx with
  | some h => s.modImg h (setHostVal sub v)
  | none =>
    match idx, sub with
    | 0x2100, 2 => { s with pwr := { s.pwr with netTol := BitVec.ofNat 16 v } }
    | 0x2100, 5 => { s with pwr := { s.pwr with cap := v, level := min s.pwr.level v } }
    | 0x2100, 6 => { s with pwr := { s.pwr with rate := v } }
    | 0x2100, 7 => { s with pwr := { s.pwr with ceil := v } }
    | 0x2600, 0x10 => s.modPlc fun p => { p with extSplitMib := v }
    | 0x2600, 0x11 => if powerUp then s.modPlc fun p => { p with journalMib := v } else s
    | 0x2600, 0x12 => if powerUp then s.modPlc fun p => { p with norShadowMib := v } else s
    | 0x2600, 0x14 => s.modPlc fun p => { p with relocDeadlineS := v }
    | 0x2600, 0x15 => s.modPlc fun p => { p with stgWaitMs := v }
    | 0x2803, 1 => { s with upd := { s.upd with lock := v = 1 } }
    | 0x2803, 2 => { s with upd := { s.upd with vbakMinMv := v } }
    | 0x2803, 3 => { s with upd := { s.upd with budgetDefault := v } }
    | 0x2803, 4 => { s with upd := { s.upd with deadlineDefault := v } }
    | 0x2803, 5 => { s with upd := { s.upd with actWaitS := v } }
    | 0x2803, 6 => if powerUp then { s with upd := { s.upd with bundleAreaMib := v } } else s
    | 0x2901, 1 => { s with arc := { s.arc with retire := v = 1 } }
    | 0x2901, 2 => if powerUp then { s with arc := { s.arc with areaGib := max v ((s.arc.usedBytes + (2 ^ 30 - 1)) / 2 ^ 30) } } else s
    | 0x2901, 3 => { s with arc := { s.arc with termLenS := v } }
    | 0x2901, 4 => { s with arc := { s.arc with sealMacSlot := BitVec.ofNat 8 v } }
    | 0x2901, 5 => { s with arc := { s.arc with warnPm := v } }
    | 0x2901, 6 => { s with arc := { s.arc with paceH := v, tokens := min s.arc.tokens v } }
    | _, _ => s

/-- Every persistent value entry with an effect of its own outside the communication block. -/
def effectKeys : List (Nat × Nat) :=
  [(0x2100, 2), (0x2100, 5), (0x2100, 6), (0x2100, 7), (0x2600, 0x10), (0x2600, 0x11), (0x2600, 0x12), (0x2600, 0x14),
   (0x2600, 0x15), (0x2803, 1), (0x2803, 2), (0x2803, 3), (0x2803, 4), (0x2803, 5), (0x2803, 6), (0x2901, 1), (0x2901, 2),
   (0x2901, 3), (0x2901, 4), (0x2901, 5), (0x2901, 6)] ++
  (List.range 24).flatMap fun n => (List.range 10).map fun k => (0x2200 + n, 0x20 + k)

/-- All values of the generation in force take effect (R338, R350). -/
def State.loadValues (s : State) (powerUp : Bool) : State :=
  effectKeys.foldl (fun st k => if (st.valEntry k.1 k.2).isSome then st.applyVal k.1 k.2 (st.storedVal k.1 k.2) powerUp else st) s

/-- The port parameters that the stored communication block gives (Table 10.12). -/
def State.storedNet (s : State) (k : NetPort) : NetCfg :=
  if k.val < 4 then
    let v := fun sub => s.storedVal (0x1100 + k.val) sub
    { enabled := v 1 = 1, node := v 2, nominal := v 3, dataRate := v 4, sp1 := v 5, sp2 := v 6, plcaCount := 0, toTimer := 0
      burst := 0, burstTimer := 0, mac := [] }
  else
    let v := fun sub => s.storedVal (0x1108 + (k.val - 4)) sub
    { enabled := v 1 = 1, node := v 2, nominal := 0, dataRate := 0, sp1 := 0, sp2 := 0, plcaCount := v 3, toTimer := v 4
      burst := v 5, burstTimer := v 6, mac := leBytes 6 (v 7) }

/-- The factory parameters of a port (R330). -/
def factoryNet (k : NetPort) : NetCfg :=
  let v := fun idx sub => (commEntry idx sub).elim 0 ValEntry.dflt
  if k.val < 4 then
    { enabled := true, node := v 0x1100 2, nominal := v 0x1100 3, dataRate := v 0x1100 4, sp1 := v 0x1100 5, sp2 := v 0x1100 6
      plcaCount := 0, toTimer := 0, burst := 0, burstTimer := 0, mac := [] }
  else
    { enabled := true, node := v 0x1108 2, nominal := 0, dataRate := 0, sp1 := 0, sp2 := 0, plcaCount := v 0x1108 3
      toTimer := v 0x1108 4, burst := v 0x1108 5, burstTimer := v 0x1108 6, mac := factoryMac (k.val - 4) }

/-! ## Value lists (R348, R349) -/

structure ListVal where
  idx : Nat
  sub : Nat
  len : Nat
  bytes : Bytes
  deriving DecidableEq, Repr

def pad4 (n : Nat) : Nat := (n + 3) / 4 * 4

/-- `n` entries of a value list, and what follows them. -/
def parseList : Nat → Bytes → Option (List ListVal × Bytes)
  | 0, b => some ([], b)
  | n + 1, b =>
    let l := u8 b 3
    if b.length < 4 + pad4 l then none
    else (parseList n (b.drop (4 + pad4 l))).map fun r =>
      ({ idx := u16 b 0, sub := u8 b 2, len := l, bytes := field b 4 l } :: r.1, r.2)

def ascending : List ListVal → Bool
  | a :: b :: r => (a.idx < b.idx || (a.idx = b.idx && a.sub < b.sub)) && ascending (b :: r)
  | _ => true

/-- R349: the values of a DICT_DEFAULTS payload; none where it is rejected. -/
def State.dictDefaults (s : State) (b : Bytes) : Option (List ((Nat × Nat) × Nat)) :=
  let n := b.length
  if n < 12 || u32 b 0 ≠ 0x4444524B || u16 b 4 ≠ 1 || u32 b (n - 4) ≠ crc32c (b.take (n - 4)) then none
  else
    match parseList (u16 b 6) ((b.take (n - 4)).drop 8) with
    | some (vs, []) =>
      if ascending vs && vs.all fun v => (s.valEntry v.idx v.sub).elim false fun e => v.len = e.size && e.ok (leNat v.bytes) then
        some (vs.map fun v => ((v.idx, v.sub), leNat v.bytes))
      else none
    | _ => none

def ListVal.image (v : ListVal) : Bytes := p16 v.idx ++ p8 v.sub ++ p8 v.len ++ padTo (pad4 v.len) v.bytes

/-- Order of a value list. -/
def keyBefore (a b : (Nat × Nat) × Nat) : Bool := a.1.1 < b.1.1 || (a.1.1 = b.1.1 && a.1.2 ≤ b.1.2)
def insertVal (x : (Nat × Nat) × Nat) : List ((Nat × Nat) × Nat) → List ((Nat × Nat) × Nat)
  | [] => [x]
  | y :: ys => if keyBefore x y then x :: y :: ys else y :: insertVal x ys

/-- The body of a value block: its values that differ from their defaults, in order. -/
def State.valueList (s : State) (g : Generation) (block : Nat) : Bytes :=
  ((g.vals.filter fun v => blockOfIndex v.1.1 = block).foldr insertVal []).flatMap fun v =>
    let n := (s.valEntry v.1.1 v.1.2).elim 4 ValEntry.size
    ListVal.image { idx := v.1.1, sub := v.1.2, len := n, bytes := leBytes n v.2 }

end Sys2Proof.Machine
end

