-- ==== Sys2Proof/Machine/Persist.lean ====
section
/-! DEFINITION. Directories and stored blocks of settings generations (R346, R347), persistent writes (R344), and the settlement
of a Timetable that waits to be committed (R340). -/
namespace Sys2Proof.Machine

/-! ## Directories and their blocks -/

/-- The body of a block in a generation. -/
def State.blockBody (s : State) (g : Generation) (block : Nat) : Bytes := (g.blob block).getD (s.valueList g block)

/-- The wrapper of Table 11.11 around a body. -/
def wrapBlock (block : Nat) (gen : Word) (body : Bytes) : Bytes :=
  let w := p32 0x4243524B ++ p16 1 ++ p16 Config.bodyVer.toNat ++ p16 block ++ p16 0 ++ p32 gen.toNat ++ p32 body.length ++ p32 0 ++ body
  w ++ p32 (crc32c w)

/-- Timetable blocks lie in the envelope store (Table 11.10). -/
def inPool (block : Nat) : Bool := block / 256 = 2

/-- Bytes of NV granules taken by the blocks that the live generations list: offset and bytes. -/
def State.nvTaken (s : State) : List (Nat × Nat) :=
  s.upd.gens.flatMap fun g => (g.insts.filter fun i => !inPool i.block).map fun i =>
    (i.loc, 0x1C + i.len)

/-- First fit in 256-byte granules (R347). -/
def State.nvPlace (s : State) (n : Nat) : Nat :=
  ((List.range 1008).find? fun k => !s.nvTaken.any fun t => overlaps (0x5000 + 256 * k) ((n + 255) / 256 * 256) t.1 ((t.2 + 255) / 256 * 256)).elim
    0x5000 fun k => 0x5000 + 256 * k

/-- The directory of a generation (Table 11.12). -/
def Generation.image (g : Generation) : Bytes :=
  let es := g.insts.flatMap fun i =>
    p16 i.block ++ p16 (b2n (inPool i.block)) ++ p32 i.loc ++ p32 i.len ++ p32 i.check
  let d := p32 0x4447524B ++ p16 1 ++ p16 g.insts.length ++ p32 g.gen.toNat ++ p32 g.dirSeq.toNat ++ es
  d ++ p32 (crc32c d)

/-- A newly stored block, which takes the place of the old one. -/
def State.putInst (s : State) (g : Generation) (block : Nat) : Generation :=
  let body := s.blockBody g block
  let w := wrapBlock block g.gen body
  let i : Inst := { block, loc := if inPool block then Config.storeIndex s.free else s.nvPlace w.length, gen := g.gen
                    len := body.length, check := u32 w (w.length - 4) }
  { g with insts := g.insts.filter (fun x => x.block < block) ++ [i] ++ g.insts.filter fun x => block < x.block }

/-! ## Persistent writes (R344) -/

/-- Steps 2, 3 and 5 of R344: a newly stored block, the directory with DIR_SEQ + 1, and EV 0x0303. -/
def State.persist (s : State) (idx sub role : Nat) (f : Generation → Generation) : State :=
  let cur := s.genNow
  let new := s.putInst { f cur with dirSeq := cur.dirSeq + 1 } (blockOfIndex idx)
  let u := { s.upd with
    gens := s.upd.gens.filter (fun x => x.gen ≠ cur.gen) ++ [new], dirDefault := false
    defaulted := s.upd.defaulted.filter fun b => b ≠ blockOfIndex idx }
  { s with upd := u, free := s.free + 1 }.raise 0x0303 srcFW
    (p16 idx ++ p8 sub ++ p8 role ++ p32 new.gen.toNat ++ p32 new.dirSeq.toNat)

def State.persistVal (s : State) (idx sub v role : Nat) : State :=
  s.persist idx sub role fun g => g.putVal (idx, sub) v ((s.valEntry idx sub).elim 0 ValEntry.dflt)
def State.persistBlob (s : State) (idx sub : Nat) (b : Bytes) (role : Nat) : State :=
  s.persist idx sub role fun g => g.putBlob (blockOfIndex idx) b

/-! ## A Timetable that waits (R84, R89, R340) -/

def ttNone : Nat := 0
def ttWaiting : Nat := 1
def ttCommitted : Nat := 2
def ttRefused : Nat := 3

/-- A refusal: .22 reads 3 with the check, EV 0x0311. -/
def State.refuseTt (s : State) (h : Host24) (check : Nat) : State :=
  (s.modTt h fun t => { t with waiting := none, waitImage := none, status := ttRefused, failedCheck := check }).raise 0x0311 srcFW
    (p8 h.val ++ p8 check)

/-- The waiting Timetable is stored and committed once checks 12 and 13 pass and PEND is clear. -/
def State.settleTt (s : State) (h : Host24) : State :=
  match (s.ttOf h).waiting with
  | none => s
  | some t =>
    if (s.ttOf h).pend || !s.ttCheck12 t h.val || !s.ttCheck13 t h then s
    else
      let s1 := match (s.ttOf h).waitImage with
        | some (img, role) => s.persistBlob (0x2400 + h.val) 0 img role
        | none => s
      (s1.modTt h fun x => { x with waiting := none, waitImage := none, status := ttCommitted, failedCheck := 0 }).stageAndCommit h t

/-- Extents are created and relocations queued for a Timetable that is to be committed (R89); a pool that cannot hold them
refuses it with check 13. -/
def State.awaitTt (s : State) (h : Host24) (t : Timetable) (img : Option (Bytes × Nat)) : State :=
  if t.detain then
    (s.modTt h fun x => { x with waiting := some t, waitImage := img, status := ttWaiting, failedCheck := 0 }).settleTt h
  else if !s.ttCheck12 t h.val && img.isSome then s.refuseTt h 12
  else
    match s.createExtents t h with
    | none => (s.refuseTt h 13).raise 0x0603 srcPLC (p8 h.val ++ p32 0)
    | some s1 =>
      if !s1.ttPlaceable t h then (s1.refuseTt h 13).raise 0x0603 srcPLC (p8 h.val ++ p32 0) else
      let s2 := s1.queueForCheck13 t h
      (s2.modTt h fun x => { x with waiting := some t, waitImage := img, status := ttWaiting, failedCheck := 0 }).settleTt h

end Sys2Proof.Machine
end

