-- ==== Sys2Proof/Machine/Keys.lean ====
section
/-! DEFINITION. Operations of the key store, the counters and the random bit generator (chapter 13). -/
namespace Sys2Proof.Machine

/-! ## Key slots (R375 to R384) -/

def revRecorded : Word := 0x5245564B
/-- The revocation word that marks a revocation in effect for every class (R383). -/
def revEverywhere : Word := 0x52455641

def State.slot (s : State) (k : Nat) : KeySlot := if h : k < 64 then s.keys.slots.get ⟨k, h⟩ else {}
def State.modSlot (s : State) (k : Nat) (f : KeySlot → KeySlot) : State :=
  if h : k < 64 then { s with keys := { s.keys with slots := updV s.keys.slots ⟨k, h⟩ f } } else s

def KeySlot.revoked (k : KeySlot) : Bool := k.revWord ≠ 0
/-- 0x2740 + k, .01: 0 empty, 1 live, 2 revoked. -/
def KeySlot.state (k : KeySlot) : Nat := if k.revoked then 2 else if k.typ = 0 then 0 else 1
def KeySlot.live (k : KeySlot) : Bool := k.state = 1
def KeySlot.pol (k : KeySlot) (b : Nat) : Bool := k.policy.getLsbD b
def KeySlot.scope (k : KeySlot) : Nat := k.policy.toNat / 65536
def KeySlot.admits (k : KeySlot) (cls : Nat) : Bool := k.scope = cls || k.scope = 0xFFFF

def polImage : Nat := 0
def polSyllabus : Nat := 1
def polFirmware : Nat := 2
def polHostKeyed : Nat := 3
def polHostCard : Nat := 4
def polPartnerMac : Nat := 5
def polExpose : Nat := 6
def polDeriveSrc : Nat := 7

def typRole : BitVec 3 := 1
def typHmac : BitVec 3 := 2
def typVerify : BitVec 3 := 3
def typSign : BitVec 3 := 4

/-- EXPOSE | DERIVE_SRC with SCOPE 0xFFFF (R376). -/
def rolePolicy : Word := 0xFFFF00C0

/-- KEY_ID (R378). -/
def keyIdOf (typ : BitVec 3) (key : Bytes) : Bytes :=
  (Hash.sha256 (if typ = typVerify then key else ascii "KRKI" ++ key)).take 8

/-- A revocation of slot `k` is in effect for an image of a host class (Table 13.3, R191). -/
def State.revokedForClass (s : State) (k cls : Nat) : Bool :=
  let sl := s.slot k
  sl.revoked && (sl.immediate || sl.revWord = revEverywhere || s.keys.stagedList.contains (k, cls))

/-- In Scrapped and Indeterminate the key store refuses all but firmware verification and the Reader role key (R418). -/
def State.keysOpen (s : State) : Bool := !(s.lcc.state = .scrapped || s.lcc.state = .indeterminate)

/-- R219 for host class `cls`: the slot may verify an envelope. -/
def State.slotForImage (s : State) (k cls : Nat) : Bool :=
  let sl := s.slot k
  s.keysOpen && cls ≠ 0xFFFF && sl.typ = typVerify && sl.pol polImage && sl.admits cls && !s.revokedForClass k cls

/-- R219 for class 0xFFFF: a Syllabus, or the firmware item alone (R377, R239). -/
def State.slotForSyllabus (s : State) (k : Nat) (fwOnly : Bool) : Bool :=
  let sl := s.slot k
  s.keysOpen && sl.typ = typVerify && !sl.revoked && (sl.pol polSyllabus || (fwOnly && sl.pol polFirmware && (k = 62 || k = 63)))

/-- A firmware envelope's slot: Staged revocation of it takes effect only once the other slot's firmware has confirmed. -/
def State.slotForFirmware (s : State) (k : Nat) : Bool :=
  let sl := s.slot k
  (k = 62 || k = 63) && sl.typ = typVerify && sl.pol polFirmware &&
    !(sl.revoked && (sl.immediate || sl.revWord = revEverywhere || s.keys.stagedList.contains (k, 0xFFFF)))

/-- The key slot that signed the envelope a host has selected. -/
def State.selectedKey (s : State) (h : Host24) : Option Nat := (s.selectedEnvelope h).map fun e => u8 e 0x1D

/-- Hosts whose selected image is signed with the slot are held (R190). -/
def State.holdSigned (s : State) (k : Nat) (p : Host24 → Bool) : State :=
  forEach all24 (fun h st =>
    if p h && st.selectedKey h = some k && (st.imgOf h).state ≠ .off && (st.imgOf h).state ≠ .detention then st.toHeld h else st) s

/-- A Staged revocation takes effect for a class (R191, R383). -/
def State.stagedEffect (s : State) (k cls : Nat) : State :=
  if s.keys.stagedList.length < 1024 then
    { s with keys := { s.keys with stagedList := s.keys.stagedList ++ [(k, cls)] } }.raise 0x023B srcFW (p8 k ++ p16 cls)
  else
    ((s.modSlot k fun sl => { sl with revWord := revEverywhere }).raise 0x023B srcFW (p8 k ++ p16 0xFFFF)).holdSigned k fun _ => true

/-- Host classes assigned to any host. -/
def State.classes (s : State) : List Nat :=
  ((all24.filter fun h => !s.fused h.val && (s.imgOf h).hostClass ≠ 0xFFFF).map fun h => (s.imgOf h).hostClass.toNat).eraseDups

def State.classConfirmed (s : State) (cls : Nat) : Bool :=
  all24.all fun h => s.fused h.val || (s.imgOf h).hostClass.toNat ≠ cls ||
    (s.imgOf h).confirmedKey.elim false fun j => !(s.slot j).revoked

/-- Staged revocations of image keys whose class has moved on take effect (R191). -/
def State.stagedEval (s : State) : State :=
  (List.range 64).foldl (fun st k =>
    let sl := st.slot k
    if sl.revoked && !sl.immediate && sl.revWord ≠ revEverywhere && sl.typ = typVerify && sl.pol polImage then
      st.classes.foldl (fun t c => if t.classConfirmed c && !t.revokedForClass k c then t.stagedEffect k c else t) st
    else st) s

/-- A revocation is refused: empty, slot 1, or a firmware slot whose other is not live (R382). -/
def State.revokeRefused (s : State) (k : Nat) : Bool :=
  (s.slot k).typ = 0 || k = 1 || ((k = 62 || k = 63) && !(s.slot (125 - k)).live)

/-- The revocation word is written; EV 0x023A; Immediate mode holds hosts, Staged mode is evaluated (R189 to R191). -/
def State.recordRevocation (s : State) (k : Nat) : State :=
  let sl := s.slot k
  let s1 := (s.modSlot k fun x => { x with revWord := revRecorded }).raise 0x023A srcFW (p8 k ++ p8 (b2n sl.immediate))
  if sl.immediate then s1.holdSigned k fun _ => true else s1.stagedEval

/-- Policy of a keyed job (R377): master, host use and destination. -/
def State.keyedAdmit (s : State) (k : Nat) (m : Master) (forHost : Option (Host24 × Nat)) (dest dst : Nat) : Bool :=
  let sl := s.slot k
  (s.keysOpen || (k = 4 && forHost.isNone && dest ≠ 2)) && (m = .mgpPriv || m = .mgpUser) && sl.live &&
    (match forHost with
      | some (h, use) => sl.typ = typHmac && sl.admits (s.imgOf h).hostClass.toNat && sl.pol use
      | none => sl.typ = typRole || (sl.typ = typHmac && (sl.pol polPartnerMac || sl.pol polDeriveSrc))) &&
    (dest ≠ 0 || sl.pol polExpose) &&
    (dest ≠ 2 || (sl.pol polDeriveSrc && 1 ≤ dst && dst ≤ 4 && !(s.slot dst).revoked &&
      (s.lcc.state ≠ .fielded || (s.slot dst).live)))

/-- Write a derived ROLE key (R381). -/
def State.writeRoleKey (s : State) (k : Nat) (key : Bytes) : State :=
  s.modSlot k fun sl => { sl with typ := typRole, immediate := true, policy := rolePolicy, key := key, keyId := keyIdOf typRole key }

/-! ## Counters (R386 to R389) -/

def State.ring (s : State) (k : Nat) : CtrRing := if h : k < 64 then s.ctr.rings.get ⟨k, h⟩ else {}
def State.modRing (s : State) (k : Nat) (f : CtrRing → CtrRing) : State :=
  if h : k < 64 then { s with ctr := { s.ctr with rings := updV s.ctr.rings ⟨k, h⟩ f } } else s

/-- The counter's value (R387). -/
def CtrRing.value (r : CtrRing) : Nat :=
  min 0xFFFFFFFF (((r.words.filter fun x => !r.bad.contains x.1).map fun x => x.2.toNat).foldl max 0 + r.bad.length)
def State.counter (s : State) (k : Nat) : Nat := (s.ring k).value

/-- EV 0x0713 once in a run for each uncorrectable word met (R387). -/
def State.meetBad (s : State) (k : Nat) : State :=
  let r := s.ring k
  let new := r.bad.filter fun w => !r.badLogged.contains w
  (new.foldl (fun (st : State) w => st.raise 0x0713 srcCTR (p8 k ++ p32 w)) s).modRing k fun r => { r with badLogged := r.badLogged ++ new }

def CtrRing.put (r : CtrRing) (w : Nat) (v : Word) : CtrRing :=
  { r with words := r.words.filter (fun x => x.1 ≠ w) ++ [(w, v)], bad := r.bad.filter (· ≠ w) }

/-- Counters of fused hosts never change (R386). -/
def State.ctrFused (s : State) (k : Nat) : Bool := s.part = .kr9612 && 44 ≤ k && k ≤ 55

/-- An increment; false where the counter sticks at its largest value, with EV 0x0711 (R388). -/
def State.ctrInc (s : State) (k source : Nat) : Bool × State :=
  let s0 := s.meetBad k
  let v := s0.counter k
  if v = 0xFFFFFFFF then (false, s0.raise 0x0711 srcCTR (p8 k ++ p8 source))
  else (true, s0.modRing k fun r => r.put ((v + 1) % 64) (BitVec.ofNat 32 (v + 1)))

/-- An advance to `v` above the value writes every word and logs EV 0x0712. -/
def State.ctrAdvance (s : State) (k v source : Nat) : Bool × State :=
  let s0 := s.meetBad k
  let old := s0.counter k
  if v ≤ old then (false, s0)
  else (true, (s0.modRing k fun r => { r with words := (List.range 64).map fun w => (w, BitVec.ofNat 32 v), bad := [] }).raise 0x0712 srcCTR
    (p8 k ++ p32 old ++ p32 v ++ p8 source))

/-- Sources in EV 0x0711 and EV 0x0712, whose codes the spec does not print. -/
def srcConfirm : Nat := (Config.eventCode 0x0711 0).toNat
def srcOwner : Nat := (Config.eventCode 0x0711 1).toNat
def srcService : Nat := (Config.eventCode 0x0711 2).toNat
def srcCtrCmd : Nat := (Config.eventCode 0x0711 3).toNat

/-! ## The random bit generator (R391 to R397) -/

def day : Nat := 24 * 3600 * 1000000

/-- Two conditioned blocks: from the pool, else fresh from a source that has not failed. -/
def State.takeEntropy (s : State) : Option (Bytes × State) :=
  match s.rng.pool with
  | a :: b :: r => some (a ++ b, { s with rng := { s.rng with pool := r } })
  | _ => if s.rng.src = .failed then none else
      some (leBytes 32 (Config.entropy s.free).toNat ++ leBytes 32 (Config.entropy (s.free + 1)).toNat, { s with free := s.free + 2 })

def State.stampBytes (s : State) : Bytes := p64 s.timeBase.toNat ++ p32 s.netBoot.toNat

/-- A reseed (R396); none when no entropy can be had, and the working state stays. -/
def State.reseed (s : State) : Option State :=
  match s.rng.drbg, s.takeEntropy with
  | some w, some (e, s1) =>
    some ({ s1 with rng := { s1.rng with
      drbg := some (w.reseed e s.stampBytes), lastReseed := s.timeBase.toNat, dueSince := none, reqs := {}, sinceReseed := 0
      reseeds := s1.rng.reseeds.inc } }.raise 0x0723 srcRNG (p8 1 ++ p32 s.rng.reqs.word.toNat))
  | _, _ => none

/-- Instantiation at a cold start of the firmware (R395). -/
def State.instantiateDrbg (s : State) : State :=
  match s.takeEntropy with
  | some (e, s1) =>
    { s1 with rng := { s1.rng with
      drbg := some (Drbg.instantiate e (beBytes 16 Config.unitId.toNat ++ s.stampBytes) (ascii "KREORI-DRBG"))
      lastReseed := s.timeBase.toNat, dueSince := none, sinceReseed := 0 } }.raise 0x0723 srcRNG (p8 0 ++ p32 s.rng.reqs.word.toNat)
  | none => { s with rng := { s.rng with drbg := none } }

/-- R397: a request is refused. -/
def State.drbgRefuses (s : State) : Bool :=
  s.rng.drbg.isNone || 2 ^ 24 ≤ s.rng.sinceReseed || s.rng.lastReseed + 3 * day ≤ s.timeBase.toNat

/-- Causes in EV 0x0507. -/
def causeOf (s : State) : Nat := (Config.eventCode 0x0507 (16 + if s.rng.drbg.isNone then 1 else if s.drbgRefuses then 2 else 3)).toNat

/-- `n` bytes for a consumer, after a reseed where one is asked for; none with EV 0x0507 (R225, R397). -/
def State.draw (s : State) (n : Nat) (reseedFirst : Bool) (consumer : Nat) : Option Bytes × State :=
  let s1 := if reseedFirst then s.reseed else some s
  match s1 with
  | none => (none, s.raise 0x0507 srcRNG (p8 consumer ++ p8 (causeOf s)))
  | some t =>
    match t.rng.drbg with
    | some w =>
      if t.drbgRefuses then (none, t.raise 0x0507 srcRNG (p8 consumer ++ p8 (causeOf t)))
      else
        let (out, w1) := w.generate n
        (some out, { t with rng := { t.rng with
          drbg := some w1, reqs := t.rng.reqs.inc, sinceReseed := t.rng.sinceReseed + 1
          dueSince := if t.rng.dueSince.isNone && 2 ^ 20 ≤ t.rng.sinceReseed + 1 then some t.timeBase.toNat else t.rng.dueSince } })
    | none => (none, t.raise 0x0507 srcRNG (p8 consumer ++ p8 (causeOf t)))

/-- Consumers in EV 0x0507, whose codes the spec does not print. -/
def conRng : Nat := (Config.eventCode 0x0507 1).toNat
def conSession : Nat := (Config.eventCode 0x0507 2).toNat
def conChallenge : Nat := (Config.eventCode 0x0507 3).toNat
def conKeygen : Nat := (Config.eventCode 0x0507 4).toNat
def conPool : Nat := (Config.eventCode 0x0507 5).toNat

end Sys2Proof.Machine
end

