-- ==== Sys2Proof/Machine/NetOps.lean ====
section
/-! DEFINITION. Operations of the Duner dictionary protocol that every chapter shares (chapter 10): messages, sessions, the
partner table and what the controller sends. -/
namespace Sys2Proof.Machine

/-- Controller firmware runs: the ROM has handed over and no restart is under way (R16, R452). -/
def State.fwRuns (s : State) : Bool := !s.sys.inRom && !s.restarting

/-! ## Messages (R304, R305) -/

def tyRollcall : Nat := 0
def tyOpenReq : Nat := 1
def tyOpenChal : Nat := 2
def tyOpenProof : Nat := 3
def tyOpenOk : Nat := 4
def tyClose : Nat := 5
def tyReq : Nat := 6
def tyRsp : Nat := 7
def tySegInit : Nat := 8
def tySegData : Nat := 9
def tySegAck : Nat := 10
def tySegEnd : Nat := 11
def tyAbort : Nat := 12

/-- A message: header fields, body and MAC. -/
structure Msg where
  typ : Nat
  flags : Nat
  session : Nat
  xid : Nat
  seq : Nat
  body : Bytes
  /-- bytes before the MAC (M′ of R311), and the MAC -/
  signed : Bytes
  mac : Bytes
  deriving DecidableEq, Repr

/-- A body length that a type admits (Table 10.4). -/
def bodyFits (typ n : Nat) : Bool :=
  match typ with
  | 0 => n = 24 | 1 => n = 20 | 2 => n = 24 | 3 => n = 0 | 4 => n = 4 | 5 => n = 4 | 6 => 4 ≤ n | 7 => 4 ≤ n
  | 8 => n = 12 | 9 => 2 ≤ n | 10 => n = 20 | 11 => n = 8 | 12 => n = 8 | _ => false

/-- FLAGS bits that a type defines. -/
def flagBits (typ : Nat) : Nat := if typ = 0 then 1 else if typ = 10 then 3 else 0

/-- Reserved bytes of a body are zero. -/
def reservedOk (typ : Nat) (b : Bytes) : Bool :=
  match typ with
  | 1 => allZero (field b 1 3)
  | 5 => allZero (field b 1 3)
  | 8 => u8 b 11 = 0
  | 10 => u8 b 3 = 0
  | _ => true

/-- DLC sizes of a CAN FD frame. -/
def fdSizes : List Nat := [1, 2, 3, 4, 5, 6, 7, 8, 12, 16, 20, 24, 32, 48, 64]

/-- The frame's DDP bytes that a message of `len` bytes fills (R300, R302). -/
def frameBytes (port : NetPort) (len : Nat) : Nat :=
  if port.val < 4 then (fdSizes.find? fun n => 1 + len ≤ n).elim 0 (· - 1) else max 46 len

/-- Read a message from a frame; none where R304 drops it. -/
def Msg.parse (port : NetPort) (m : Bytes) : Option Msg :=
  let len := u16 m 2
  let ses := u8 m 4
  let hdr := if ses = 0 then 12 else 28
  let typ := u8 m 0 % 16
  let body := field m 12 (len - hdr)
  if m.length < 12 ∨ u8 m 0 / 16 ≠ 1 ∨ 12 < typ ∨ len < hdr ∨ m.length ≠ frameBytes port len ∨ (if port.val < 4 then 63 else 1500) < len ∨
      !bodyFits typ (len - hdr) ∨ u16 m 6 ≠ 0 ∨ 2 ^ (if flagBits typ = 0 then 0 else if flagBits typ = 1 then 1 else 2) ≤ u8 m 1 ∨
      !reservedOk typ body then none
  else some { typ, flags := u8 m 1, session := ses, xid := u8 m 5, seq := u32 m 8, body, signed := m.take (len - (if ses = 0 then 0 else 16))
              mac := if ses = 0 then [] else field m (len - 16) 16 }

/-- A message's bytes before its MAC. -/
def msgBytes (typ flags session xid seq : Nat) (body : Bytes) (mac : Bool) : Bytes :=
  p8 (16 + typ) ++ p8 flags ++ p16 (12 + body.length + (if mac then 16 else 0)) ++ p8 session ++ p8 xid ++ p16 0 ++ p32 seq ++ body

/-- The MAC of R311; `d` is 0x50 for the partner and 0x43 for the controller. -/
def macOf (key : Bytes) (d : Nat) (np nc m : Bytes) : Bytes := (Hash.hmac 1 key (p8 d ++ np ++ nc ++ m)).take 16

/-- OP, SUB, INDEX and CODE of an ABORT body, its entry as the request gives it. -/
def abortBody (entry : Bytes) (code : Nat) : Bytes := padTo 4 entry ++ p32 code

/-! ## Counters and sending -/

def satInc (w : Word) : Word := if w = 0xFFFFFFFF then w else w + 1

def State.modNet (s : State) (f : Net → Net) : State := { s with net := f s.net }

/-- A port starts afresh with new parameters. -/
def NetPortState.reconfigure (p : NetPortState) (c : NetCfg) : NetPortState :=
  if p.cfg = c then p else { p with cfg := c, canState := 0, tec := 0, rec_ := 0, beaconOk := c.enabled && c.node = 0, stale := true, rx := [] }

def State.sendTo (s : State) (port : Nat) (addr bytes : Bytes) : State :=
  s.modNet fun n => { n with tx := n.tx ++ [{ port, addr, bytes }] }

/-- A message with no MAC. -/
def State.sendPlain (s : State) (port : Nat) (addr : Bytes) (typ flags session xid : Nat) (body : Bytes) : State :=
  (s.sendTo port addr (msgBytes typ flags session xid 0 body false)).modNet fun n =>
    if typ = tyAbort then { n with abortsSent := satInc n.abortsSent } else n

def State.session (s : State) (k : Nat) : Option Session :=
  if h : 1 ≤ k ∧ k ≤ 16 then s.net.sessions.get ⟨k - 1, by omega⟩ else none
def State.setSession (s : State) (k : Nat) (x : Option Session) : State :=
  if h : 1 ≤ k ∧ k ≤ 16 then s.modNet fun n => { n with sessions := n.sessions.set (k - 1) x (by omega) } else s
def State.modSession (s : State) (k : Nat) (f : Session → Session) : State :=
  match s.session k with
  | some x => s.setSession k (some (f x))
  | none => s

/-- A role's key (Table 10.7). -/
def State.roleKey (s : State) (role : Nat) : Bytes := (s.slot role).key

/-- A message in a session, MACed, with the next sequence number. -/
def State.sendRaw (s : State) (k typ flags xid : Nat) (body : Bytes) : State :=
  match s.session k with
  | some x =>
    let m := msgBytes typ flags k xid x.seqOut.toNat body true
    ((s.sendTo x.port x.addr (m ++ macOf (s.roleKey x.role) 0x43 x.np x.nc m)).modNet fun n =>
      if typ = tyAbort then { n with abortsSent := satInc n.abortsSent } else n).modSession k fun x => { x with seqOut := x.seqOut + 1 }
  | none => s

/-! ## Sessions (R312 to R315) -/

/-- A transfer that the controller ends logs EV 0x0A06 (R324). -/
def State.transferEvent (s : State) (t : Transfer) (code : Nat) : State :=
  s.raise 0x0A06 srcNET (p8 t.session ++ p8 t.xid ++ p32 code)

/-- CLOSE has no code for a failed proof, for the 2 s of a half-open session and for a restart. -/
def causeProof : Nat := (Config.eventCode 0x0A02 0).toNat
def causeHalfOpen : Nat := (Config.eventCode 0x0A02 1).toNat
def causeRestart : Nat := (Config.eventCode 0x0A02 2).toNat

/-- A session moves to FREE: CLOSE when `send`, its transfers end, EV 0x0A02 (R315). -/
def State.closeSession (s : State) (k cause : Nat) (send : Bool) : State :=
  match s.session k with
  | none => s
  | some x =>
    let s1 := if send && x.open_ then s.sendRaw k tyClose 0 0 (p8 cause ++ [0, 0, 0]) else s
    let mine := s1.net.transfers.filter fun t => t.session = k
    let s2 := mine.foldl (fun st t => st.transferEvent t 0x05040008) s1
    ((s2.modNet fun n => { n with transfers := n.transfers.filter fun t => t.session ≠ k }).setSession k none).raise 0x0A02 srcNET
      (p8 k ++ p8 cause)

def sessionNos : List Nat := (List.range 16).map (· + 1)

def State.closeWhere (s : State) (p : Session → Bool) (cause : Nat) (send : Bool) : State :=
  sessionNos.foldl (fun st k => if (st.session k).elim false p then st.closeSession k cause send else st) s

/-- Sessions of a role close when its key goes (cause 4). -/
def State.closeRole (s : State) (role : Nat) : State := s.closeWhere (fun x => x.open_ && x.role = role) 4 true

/-- A message in an open session; the session closes with cause 5 before its 2^31-th message (R312). -/
def State.sendIn (s : State) (k typ flags xid : Nat) (body : Bytes) : State :=
  match s.session k with
  | some x => if 2 ^ 31 - 2 ≤ x.seqOut.toNat then s.closeSession k 5 true else s.sendRaw k typ flags xid body
  | none => s

/-- A revocation recorded for a slot; sessions of a revoked role key close (Table 10.8). -/
def State.revokeSlot (s : State) (k : Nat) : State :=
  let s1 := s.recordRevocation k
  if 1 ≤ k ∧ k ≤ 4 then s1.closeRole k else s1

/-! ## The partner table (R308) -/

/-- An address as an event parameter (Table 18.6). -/
def addr8 (a : Bytes) : Bytes := padTo 8 a

def State.partner (s : State) (port : Nat) (addr : Bytes) : Option Partner :=
  s.net.partners.find? fun p => p.port = port && p.addr = addr
def State.partnerIndex (s : State) (port : Nat) (addr : Bytes) : Nat := (s.partner port addr).elim 0xFF Partner.index
def State.modPartner (s : State) (port : Nat) (addr : Bytes) (f : Partner → Partner) : State :=
  s.modNet fun n => { n with partners := n.partners.map fun p => if p.port = port && p.addr = addr then f p else p }
def State.holdsSession (s : State) (p : Partner) : Bool :=
  sessionNos.any fun k => (s.session k).elim false fun x => x.open_ && x.port = p.port && x.addr = p.addr

def freePartner (ps : List Partner) : Option Nat := (List.range 256).find? fun i => !ps.any fun p => p.index = i
def newPartner (i port : Nat) (addr : Bytes) (now : Nat) : Partner :=
  { index := i, port, addr, answered := false, duplicate := false, kind := 0, caps := 0, misses := 0, boot := 0
    unitId := List.replicate 16 0, answeredNow := false, heardNow := true, lastSeen := now
    macLogged := none }

/-- A well-formed message makes or refreshes the entry of its sender; a full table gives up its longest silent entry
without a session, with EV 0x0A08. -/
def State.touchPartner (s : State) (port : Nat) (addr : Bytes) : State :=
  let now := s.timeBase.toNat
  match s.partner port addr with
  | some _ => s.modPartner port addr fun p => { p with heardNow := true, misses := 0, lastSeen := now }
  | none =>
    match freePartner s.net.partners with
    | some i => s.modNet fun n => { n with partners := n.partners ++ [newPartner i port addr now] }
    | none =>
      match (s.net.partners.filter fun p => !s.holdsSession p).foldl (fun (a : Option Partner) p => match a with
          | some b => if p.lastSeen < b.lastSeen then some p else some b
          | none => some p) none with
      | some old =>
        (s.modNet fun n => { n with partners := n.partners.map fun p => if p.index = old.index then newPartner old.index port addr now else p }).raise
          0x0A08 srcNET (addr8 old.addr ++ addr8 addr)
      | none => s

/-- SEGMAX of a port (Table 10.5). -/
def segMax (port : Nat) (inSession : Bool) : Nat :=
  if port < 4 then (if inSession then 33 else 49) else (if inSession then 1470 else 1486)
/-- The data that a REQ or RSP carries. -/
def reqMax (port : Nat) (inSession : Bool) : Nat :=
  if port < 4 then (if inSession then 31 else 47) else (if inSession then 1468 else 1484)

/-- The controller's own ROLLCALL body: CAPS bit 0 a free session slot, bit 1 recovery listen (R305). -/
def State.rollcallBody (s : State) (port : Nat) : Bytes :=
  let free := sessionNos.any fun k => (s.session k).isNone
  p8 3 ++ p8 (b2n free + 2 * b2n (s.sys.listen ≠ 0)) ++ p16 (segMax port true) ++ p32 s.netBoot.toNat ++ unitIdBytes

/-- The broadcast address of a port: DST 0x00, or the DDP group address (R300, R302). -/
def groupAddr (port : Nat) : Bytes := if port < 4 then [0, 0, 0, 0, 0, 0] else [0x03, 0x59, 0x44, 0x44, 0x50, 0x00]

/-- A ROLLCALL query on each enabled port (R307). -/
def State.sendRollcalls (s : State) : State :=
  (List.finRange 8).foldl (fun st k =>
    if (st.net.ports.get k).cfg.enabled then st.sendPlain k.val (groupAddr k.val) tyRollcall 1 0 0 (st.rollcallBody k.val) else st) s

end Sys2Proof.Machine
end

