-- ==== Sys2Proof/Machine/Digest.lean ====
section
/-! DEFINITION. The digest cluster (chapter 7): descriptors, their checks, the queue, job results and the effect of a
restart; and the verification registers of the signature sequencer. -/
namespace Sys2Proof.Machine

/-! ## Descriptors (Table 7.2) -/

def Desc.word (d : Desc) (k : Nat) : Nat := d.w.getD k 0
def Desc.op (d : Desc) : Nat := bits (d.word 0) 0 3
def Desc.alg (d : Desc) : Nat := bits (d.word 0) 4 3
def Desc.src (d : Desc) : Nat := bits (d.word 0) 8 2
def Desc.lenMode (d : Desc) : Bool := bit (d.word 0) 10
def Desc.pad (d : Desc) : Bool := bit (d.word 0) 11
def Desc.stateIn (d : Desc) : Bool := bit (d.word 0) 12
def Desc.dest (d : Desc) : Nat := bits (d.word 0) 13 2
def Desc.keySlot (d : Desc) : Nat := bits (d.word 0) 16 6
def Desc.outLen (d : Desc) : Nat := bits (d.word 0) 23 7
def Desc.prio (d : Desc) : Nat := bits (d.word 0) 30 2
def Desc.len (d : Desc) : Nat := d.word 1
def Desc.addr (d : Desc) : Nat := d.word 2
def Desc.host (d : Desc) : Nat := bits (d.word 3) 0 5
def Desc.view (d : Desc) : Bool := bit (d.word 3) 5
def Desc.forHost (d : Desc) : Bool := bit (d.word 3) 6
def Desc.dstSlot (d : Desc) : Nat := bits (d.word 3) 8 6
def Desc.stallMs (d : Desc) : Nat := bits (d.word 3) 16 16
def Desc.aux (d : Desc) : Nat := d.word 4
def Desc.jFirst (d : Desc) : Nat := bits (d.word 6) 0 8
def Desc.jEnd (d : Desc) : Nat := bits (d.word 6) 8 8
def Desc.area (d : Desc) : Nat := bits (d.word 7) 0 4
def Desc.entry (d : Desc) : Nat := bits (d.word 7) 8 16

/-- Output bytes (Table 7.2). -/
def Desc.outBytes (d : Desc) : Nat := if d.outLen = 0 then Hash.outSize d.alg else d.outLen

/-! ## Controller data areas (R205) -/

/-- The bytes of a firmware slot copy (Table 16.1); bytes that no rule gives read erased. -/
def FwSlot.imageOf (f : FwSlot) : Bytes :=
  let hdr := p32 0x5346524B ++ p16 1 ++ p8 f.slot ++ p8 0 ++ p16 f.gen.toNat ++ p16 0 ++ p32 f.envelope.length ++ p32 f.image.length ++
    p32 f.slotCrc.toNat
  let h := padTo 0x3C hdr
  padTo 0x1000 (h ++ p32 (crc32c h)) ++ f.envelope ++ List.replicate (0xF000 - f.envelope.length) 0xFF ++ f.image ++
    List.replicate ((f.image.length + 65535) / 65536 * 65536 - f.image.length) 0xFF

/-- The bytes of an envelope-store entry: a slot's envelope and Timetable, or a stored Timetable block. -/
def State.storeEntry (s : State) (e a n : Nat) : Option Bytes :=
  if e < 72 then
    if h : e / 3 < 24 then
      let sl := (s.imgOf ⟨e / 3, h⟩).slots.get ⟨e % 3, Nat.mod_lt _ (by decide)⟩
      match sl.envelope, sl.timetable with
      | some env, t =>
        if a + n ≤ env.length then some (field env a n)
        else t.bind fun t => if 0x500000 ≤ a && a - 0x500000 + n ≤ t.image.length then some (field t.image (a - 0x500000) n) else none
      | none, _ => none
    else none
  else
    s.upd.gens.findSome? fun g => (g.insts.find? fun i => inPool i.block && i.loc = e).bind fun i =>
      let w := wrapBlock i.block i.gen (s.blockBody g i.block)
      if a + n ≤ w.length then some (field w a n) else none

/-- The end of an area, for check 3. -/
def State.areaEnd (s : State) (d : Desc) : Nat :=
  match d.area with
  | 1 => s.upd.bundleLen
  | 2 | 3 => 0x400000
  | 4 => if d.entry < 72 || 0x100 ≤ d.entry then 0x600000 else 0
  | _ => 0

def State.areaRead (s : State) (area entry a n : Nat) : Option Bytes :=
  match area with
  | 1 => if a + n ≤ s.upd.bundle.length then some (field s.upd.bundle a n) else none
  | 2 => if a + n ≤ s.upd.fw0.imageOf.length && s.upd.fw0.present then some (field s.upd.fw0.imageOf a n) else none
  | 3 => if a + n ≤ s.upd.fw1.imageOf.length && s.upd.fw1.present then some (field s.upd.fw1.imageOf a n) else none
  | 4 => s.storeEntry entry a n
  | _ => none

/-- Bytes of a host's virtual flash in committed view, or the host's own. -/
def State.flashRead (s : State) (h : Host24) (own : Bool) (a n : Nat) : Option Bytes :=
  if n = 0 then some []
  else (s.readRun h own (a / 4096) ((a + n - 1) / 4096 - a / 4096 + 1)).map fun b => field b (a % 4096) n

/-! ## Submission (R197, Table 7.3) -/

def isMgp (m : Master) : Bool := m = .mgpPriv || m = .mgpUser

/-- Checks 1 to 9. -/
def State.descOk (s : State) (m : Master) (d : Desc) : Bool :=
  let mgp := isMgp m
  let block := Hash.blockSize d.alg
  (d.w.getD 0 0 / 8 % 2 = 0 && bits (d.word 0) 7 1 = 0 && bits (d.word 0) 22 1 = 0 && bits (d.word 3) 7 1 = 0 && bits (d.word 3) 14 2 = 0 &&
    bits (d.word 6) 16 16 = 0 && bits (d.word 7) 4 4 = 0 && bits (d.word 7) 24 8 = 0) &&
  (d.op ≤ 2 && 1 ≤ d.alg && d.alg ≤ 4 && d.src ≤ 2 && d.dest ≤ 2 && d.prio ≤ 2) &&
  (!d.lenMode || (d.src = 1 && d.len = 0 && d.op = 0)) &&
  (if d.src = 0 then d.len ≤ 16 * 2 ^ 20
   else if d.src = 2 then
     if d.host = 31 then d.addr + d.len ≤ s.areaEnd d
     else if hh : d.host < 24 then d.addr + d.len ≤ 4096 * (s.committedTt ⟨d.host, hh⟩).vsizePages else false
   else true) &&
  (if d.alg = 4 then d.outLen ≤ 64 else d.outLen ≤ Hash.outSize d.alg) && (d.dest ≠ 1 || d.aux % 4 = 0) &&
  (d.pad || (d.op = 0 && d.alg ≤ 3 && d.len % block = 0 && d.dest = 0 && !d.lenMode)) &&
  (!d.stateIn || (d.op = 0 && d.alg ≤ 3 && d.aux % 4 = 0)) &&
  (d.op ≠ 2 || ((d.alg = 1 || d.alg = 4) && d.src = 0 && (d.outLen = 24 || d.outLen = 32) && d.len = 23 + d.outLen &&
    d.jFirst ≤ d.jEnd && d.pad && !d.stateIn)) &&
  (d.op ≠ 1 || (d.alg ≤ 3 && d.pad && !d.stateIn)) && (d.dest ≠ 2 || d.op = 1) &&
  ((d.host ≠ 31 && !d.view && !d.forHost) || mgp) && (if d.host < 24 then !s.fused d.host else d.host = 31 || d.src ≠ 2) &&
  (!d.forHost || d.host < 24) &&
  (if d.host = 31 then 1 ≤ d.area && d.area ≤ 4 else d.area = 0 && d.entry = 0) && (d.src ≠ 1 || mgp || m = .debug)

/-- The host use of a keyed job (R377). -/
def Desc.use (d : Desc) : Option (Host24 × Nat) :=
  if d.forHost then (if hh : d.host < 24 then some (⟨d.host, hh⟩, polHostKeyed) else none) else none

/-- Check 10, and the same at the job's start (R210). -/
def State.keyOk (s : State) (m : Master) (d : Desc) : Bool := d.op ≠ 1 || s.keyedAdmit d.keySlot m d.use d.dest d.dstSlot

def lsAccepted : Nat := 0
def lsBusy : Nat := 1
def lsBadDesc : Nat := 2
def lsKeyRefused : Nat := 3
def lsSrcDenied : Nat := 4

/-- DGC_LASTSUB as the submitting master sees it. -/
def State.setLastSub (s : State) (m : Master) (l : LastSub) : State :=
  { s with dgc := { s.dgc with lastSubs := s.dgc.lastSubs.filter (fun x => x.1 ≠ masterId m) ++ [(masterId m, l)] } }

/-- Nanoseconds of a job of `n` message bytes at full speed (R193). -/
def jobNs (d : Desc) (n : Nat) : Nat :=
  let blocks := if d.op = 2 then d.jEnd - d.jFirst else if !d.pad then n / Hash.blockSize d.alg else
    (if d.alg = 1 then (n + 8) / 64 + 1 else if d.alg = 4 then n / 136 + 1 else (n + 16) / 128 + 1) + (if d.op = 1 then 3 else 0)
  40 + blocks * (if d.alg = 1 then 80 else if d.alg = 4 then 120 else 100)

/-- The retry hint of R201. -/
def State.dgcRetry (s : State) (noSet : Bool) : Nat :=
  let left := (s.dgc.running.filter fun x => x.2.desc.src = 0).map fun x =>
    let ns := jobNs x.2.desc x.2.desc.len * (if s.power = .p0 then 1 else 2)
    (ns + 999) / 1000 - (s.timeBase.toNat - x.2.started) + 1
  match left with
  | [] => 100
  | a :: as => if noSet then 100 else min 65535 (as.foldl min a)

def State.freeSet (s : State) : Option (Fin 64) := (List.finRange 64).find? fun k => !(s.dgc.sets.get k).alloc
def State.modSet (s : State) (k : Nat) (f : ResSet → ResSet) : State :=
  if h : k < 64 then { s with dgc := { s.dgc with sets := updV s.dgc.sets ⟨k, h⟩ f } } else s
def State.resSet (s : State) (k : Nat) : ResSet := if h : k < 64 then s.dgc.sets.get ⟨k, h⟩ else {}

/-- Queue a job that passed its checks, which ends P2, or refuse it with BUSY (check 11). -/
def State.enqueueJob (s : State) (m : Master) (d : Desc) : State :=
  match s.freeSet with
  | some k =>
    if 64 ≤ s.dgc.queue.length then
      ({ s with dgc := { s.dgc with busyCnt := s.dgc.busyCnt.inc } }).setLastSub m
        { code := BitVec.ofNat 3 lsBusy, set := 0, retry := BitVec.ofNat 16 (s.dgcRetry false) }
    else
      let job : DgcJob := { set := k.val, master := m, desc := d, fed := [], ended := false, buffered := 0, started := 0 }
      let s1 := s.modSet k.val fun _ => {
        alloc := true, queued := true, alg := BitVec.ofNat 3 d.alg, tag := BitVec.ofNat 32 (d.word 5), owner := some m
        push := d.src = 1, lenMode := d.lenMode }
      ({ s1.wake wkInternal 0 with dgc := { (s1.wake wkInternal 0).dgc with queue := s1.dgc.queue ++ [job] } }).setLastSub m
        { code := 0, set := BitVec.ofNat 6 k.val, retry := 0 }
  | none =>
    ({ s with dgc := { s.dgc with busyCnt := s.dgc.busyCnt.inc } }).setLastSub m
      { code := BitVec.ofNat 3 lsBusy, set := 0, retry := BitVec.ofNat 16 (s.dgcRetry true) }

/-- A descriptor is submitted by master `m` (R197). -/
def State.submitJob (s : State) (m : Master) (a : Nat) : State :=
  if a % 32 ≠ 0 then s.setLastSub m { code := BitVec.ofNat 3 lsBadDesc }
  else
    match s.memRead m a 32 with
    | (none, s1) => s1.setLastSub m { code := BitVec.ofNat 3 lsSrcDenied }
    | (some b, s1) =>
      let d : Desc := { w := (List.range 8).map fun i => u32 b (4 * i) }
      if !s1.descOk m d then s1.setLastSub m { code := BitVec.ofNat 3 lsBadDesc }
      else if !s1.keyOk m d then s1.setLastSub m { code := BitVec.ofNat 3 lsKeyRefused }
      else s1.enqueueJob m d

/-! ## Starting (R194, R195, R198, R199) -/

/-- Some host is Measuring or On Hall pass (R199). -/
def State.verifying (s : State) : Bool := all24.any fun h => (s.imgOf h).state = .measuring || (s.imgOf h).state = .hallPass

/-- The first waiting job in the order of Table 7.4. -/
def firstJob (q : List DgcJob) : Option DgcJob :=
  ((q.find? fun j => j.desc.prio = 0) <|> (q.find? fun j => j.desc.prio = 1)) <|> q.head?

/-- Known-answer tests that a job's core and the cores before it fail: each is excluded (R195). -/
def State.failCores (s : State) (kat : List (Nat × Nat)) : State :=
  kat.foldl (fun st x =>
    if x.1 < 16 && !st.dgc.ok.getLsbD x.1 && !st.dgc.excluded.getLsbD x.1 then
      ({ st with dgc := { st.dgc with excluded := st.dgc.excluded ||| BitVec.ofNat 16 (2 ^ x.1) } }).raise 0x0501 srcDGC (p8 x.1 ++ p8 x.2)
    else st) s

/-- A job ends: its set's result is written, then DONE (R213); the set of an unwanted job is freed (R202). -/
def State.endJob (s : State) (k : Nat) (f : ResSet → ResSet) : State :=
  let s1 := { s with dgc := { s.dgc with
    running := s.dgc.running.filter fun x => x.2.set ≠ k, queue := s.dgc.queue.filter fun j => j.set ≠ k } }
  s1.modSet k fun r => if r.orphan then {} else { f r with queued := false, running := false, done := true, dinWords := 64 }

/-- EV 0x0502, at most once per master per second (R207). -/
def State.shortEvent (s : State) (j : DgcJob) : State :=
  let s1 := { s with dgc := { s.dgc with shortCnt := s.dgc.shortCnt.inc } }
  let id := masterId j.master
  if s.dgc.shortLogged.any fun x => x.1 = id && x.2 = s.sec then s1
  else ({ s1 with dgc := { s1.dgc with shortLogged := (id, s.sec) :: s1.dgc.shortLogged.filter fun x => x.1 ≠ id } }).raise 0x0502 srcDGC
    (p8 j.set ++ p8 id ++ p64 j.fed.length)

/-- The host or the master that an event of a job names. -/
def DgcJob.whom (j : DgcJob) : Nat := if j.desc.forHost then j.desc.host else masterId j.master

/-- Start the first waiting job on the lowest free core it may use. -/
def State.startJob (s : State) : State :=
  match firstJob s.dgc.queue with
  | none => s
  | some j =>
    let free := s.coresOn.filter s.coreFree
    match free with
    | [] => s
    | c :: _ =>
      if s.verifying && free.length ≤ s.dgc.reserve.toNat then s
      else if !s.keyOk j.master j.desc then
        (s.endJob j.set fun r => { r with keyRefused := true }).raise 0x0505 srcDGC (p8 j.desc.keySlot ++ p8 j.whom)
      else
        let s1 := { s with dgc := { s.dgc with
          queue := s.dgc.queue.erase j, ok := s.dgc.ok ||| BitVec.ofNat 16 (2 ^ c)
          running := s.dgc.running ++ [(c, { j with buffered := 0, started := s.timeBase.toNat })] } }
        s1.modSet j.set fun r => { r with queued := false, running := true, dinWords := 64 }

/-! ## Results (R203 to R213) -/

/-- The address that a read error names: the piece or the page that failed. -/
def State.failAddr (s : State) (j : DgcJob) : Nat :=
  let d := j.desc
  let mem := (s.refusedPiece j.master d.addr d.len false).elim ((s.badWord d.addr d.len).getD d.addr) Prod.fst
  let page := if hh : d.host < 24 then
    ((List.range ((d.addr + d.len) / 4096 + 1 - d.addr / 4096)).find? fun i => (s.readPage ⟨d.host, hh⟩ (d.addr / 4096 + i) d.view).isNone).elim
      d.addr fun i => max d.addr (4096 * (d.addr / 4096 + i)) else d.addr
  if d.src = 0 then mem else page

/-- The message of a job; none on a read error. -/
def State.jobData (s : State) (j : DgcJob) : Option Bytes × State :=
  let d := j.desc
  match d.src with
  | 0 => s.memRead j.master d.addr d.len
  | 1 => (some j.fed, s)
  | _ =>
    if d.host = 31 then (s.areaRead d.area d.entry d.addr d.len, s)
    else if hh : d.host < 24 then (s.flashRead ⟨d.host, hh⟩ d.view d.addr d.len, s)
    else (none, s)

/-- CHAIN: tmp = H(I ‖ q ‖ i ‖ j ‖ tmp) for j from J_FIRST to J_END − 1 (Table 7.2, R220). -/
def chainJob (alg n : Nat) (pre : Bytes) : Nat → Nat → Bytes → Bytes
  | 0, _, t => t
  | k + 1, j, t => chainJob alg n pre k (j + 1) (Hash.digest alg n (pre ++ p8 j ++ t))

/-- A context: state words and byte count (R209). -/
def contextState (alg : Nat) (b : Bytes) : List Nat := (List.range 8).map fun i => beNat (field b (i * (if alg = 1 then 4 else 8)) (if alg = 1 then 4 else 8))

/-- Output and byte count of a job over its message (R209 to R211); none when a context is refused. -/
def jobOutput (d : Desc) (key : Bytes) (ctx : Option Bytes) (m : Bytes) : Option (Bytes × Nat) :=
  let n := d.outBytes
  if d.op = 2 then
    some (chainJob d.alg n (m.take 22) (d.jEnd - d.jFirst) d.jFirst (m.drop 23), m.length)
  else if d.op = 1 then some ((Hash.hmac d.alg key m).take n, m.length)
  else if d.alg = 4 then some (Hash.digest 4 n m, m.length)
  else
    let f := Hash.famOf d.alg
    let st := match ctx with
      | some c => (contextState d.alg c, u64 c 64)
      | none => (Hash.initState d.alg, 0)
    if st.2 % Hash.blockSize d.alg ≠ 0 then none
    else if d.pad then some ((f.finish st.1 st.2 m).take n, st.2 + m.length)
    else some ((f.stateBytes (f.run st.1 m)), st.2 + m.length)

/-- A read error ends a job (R203, R204). -/
def State.jobReadErr (s : State) (j : DgcJob) (a : Nat) : State :=
  (s.endJob j.set fun r => { r with readErr := true }).raise 0x0504 srcDGC
    (p8 j.set ++ p8 (if j.desc.src = 2 then j.desc.host else masterId j.master) ++ p32 a)

/-- The result of a job that has all its data. -/
def State.finishJob (s : State) (j : DgcJob) : State :=
  let d := j.desc
  match s.jobData j with
  | (none, s1) => s1.jobReadErr j (s.failAddr j)
  | (some m, s1) =>
    let (ctx, s2) := if d.stateIn then s1.memRead j.master d.aux 72 else (some [], s1)
    match ctx with
    | none => s2.jobReadErr j d.aux
    | some c =>
      match jobOutput d (s2.slot d.keySlot).key (if d.stateIn then some c else none) m with
      | none => s2.jobReadErr j d.aux
      | some (out, cnt) =>
        let base := fun (r : ResSet) => { r with count := BitVec.ofNat 64 cnt }
        match d.dest with
        | 1 =>
          (match s2.memRead j.master d.aux d.outBytes with
            | (none, s3) => s3.jobReadErr j d.aux
            | (some e, s3) => s3.endJob j.set fun r => { base r with cmpFail := out ≠ e })
        | 2 => ((s2.endJob j.set base).writeRoleKey d.dstSlot out).closeRole d.dstSlot
        | _ => s2.endJob j.set fun r => { base r with out := out, outLen := BitVec.ofNat 7 out.length }

/-- All the data of a job is there. -/
def DgcJob.complete (j : DgcJob) : Bool :=
  j.desc.src ≠ 1 || (if j.desc.lenMode then j.ended else j.desc.len ≤ j.fed.length)

/-! ## Feeding (R206 to R208) -/

def State.jobOfSet (s : State) (k : Nat) : Option DgcJob :=
  ((s.dgc.running.map Prod.snd) ++ s.dgc.queue).find? fun j => j.set = k
def State.modJob (s : State) (k : Nat) (f : DgcJob → DgcJob) : State :=
  let g := fun j : DgcJob => if j.set = k then f j else j
  { s with dgc := { s.dgc with queue := s.dgc.queue.map g, running := s.dgc.running.map fun x => (x.1, g x.2) } }

/-- Excess data: discarded with TRUNCATED, and EV 0x0503 once per job. -/
def State.excessWord (s : State) (k : Nat) (m : Master) : State :=
  let r := s.resSet k
  (s.modSet k fun r => { r with truncated := true, excess := true }).raiseIf (!r.excess) 0x0503 srcDGC (p8 k ++ p8 (masterId m))

/-- A DIN word of set `k`; a bus error leaves the cluster as it is, but for DIN_FULL, and sets the debug port's sticky error. -/
def State.feedWord (s : State) (k : Nat) (m : Master) (v : Word) : State :=
  let r := s.resSet k
  if !r.alloc || !r.push || r.owner ≠ some m then s.stickyIf m
  else if r.done then (if r.lenMode || r.lengthShort || r.aborted || r.keyRefused then s else s.excessWord k m)
  else
    match s.jobOfSet k with
    | none => s
    | some j =>
      if j.desc.lenMode && j.ended then s
      else if !j.desc.lenMode && j.desc.len ≤ j.fed.length then s.excessWord k m
      else if r.queued && 64 ≤ j.buffered then (s.modSet k fun r => { r with dinFull := true }).stickyIf m
      else
        let b := leBytes 4 v.toNat
        let fed := j.fed ++ (if j.desc.lenMode then b else b.take (j.desc.len - j.fed.length))
        let n := if r.queued then j.buffered + 1 else 0
        (s.modJob k fun j => { j with fed := fed, buffered := n }).modSet k fun r => { r with dinFull := false, dinWords := BitVec.ofNat 7 (64 - n) }

/-- DGC_LASTW of set `k` (R208). -/
def State.lastWord (s : State) (k : Nat) (m : Master) (valid : Nat) : State :=
  let r := s.resSet k
  if !r.alloc || !r.push || r.owner ≠ some m then s
  else if !r.lenMode then s.modSet k fun r => { r with lastwIgn := true }
  else s.modJob k fun j =>
    if j.ended then j
    else { j with ended := true, fed := if j.fed.isEmpty || valid = 0 then j.fed else j.fed.take (j.fed.length - (4 - valid)) }

/-! ## Release, abort, restart (R214, R202) -/

def State.releaseSet (s : State) (k : Nat) (m : Master) : State :=
  let r := s.resSet k
  if r.done && r.owner = some m then s.modSet k fun _ => {} else s

def State.abortJob (s : State) (k : Nat) (m : Master) : State :=
  let r := s.resSet k
  if r.owner = some m && (r.queued || r.running) then s.endJob k fun r => { r with aborted := true } else s

/-- The start of a restart of the management processor. -/
def State.dgcRestart (s : State) : State :=
  let mine := s.dgc.queue.filter fun j => isMgp j.master
  let s1 := mine.foldl (fun st j => st.modSet j.set fun _ => {}) s
  let sets := s1.dgc.sets.map fun r =>
    if r.owner.elim false isMgp then (if r.running then { r with orphan := true } else if r.done then {} else r) else r
  { s1 with dgc := { s1.dgc with queue := s1.dgc.queue.filter (fun j => !isMgp j.master), sets := sets } }

/-! ## The sequencer's verifications (R219 to R221) -/

/-- EV 0x0506 for every outcome other than PASS (R221). -/
def State.sigEvent (s : State) (k reason level : Nat) : State :=
  s.raiseIf (reason ≠ 0) 0x0506 srcSIG (p8 k ++ p8 reason ++ p8 level)

def State.sigEnd (s : State) (reason level : Nat) : State :=
  let v := s.sig
  ({ s with free := s.free + 1, sig := { v with
      busy := false, done := true, pass := reason = 0, reason := BitVec.ofNat 4 reason, level := BitVec.ofNat 3 level
      time := (Config.freeWord s.free).setWidth 32 } } : State).sigEvent v.slot.toNat reason level

/-- R219 for a class, 0xFFFF for no host. -/
def State.slotVerifies (s : State) (k cls : Nat) : Bool :=
  if cls = 0xFFFF then s.slotForSyllabus k true || s.slotForFirmware k else s.slotForImage k cls

/-- R220 over bytes at hand: reason and level; `fw` judges the slot for firmware. -/
def State.verifySig (s : State) (ok : Bool) (k : Nat) (sig : Bytes) (msg : Option Bytes) : Nat × Nat :=
  if !ok then (Lms.rKeySlot, 0) else Lms.verify (s.slot k).key sig msg

end Sys2Proof.Machine
end

