-- ==== Sys2Proof/Machine/Envelope.lean ====
section
/-! DEFINITION. Image envelopes (R169 to R175): fields, check 1 of Table 6.3, the slots that have an envelope, and the
preferred slot of a host. -/
namespace Sys2Proof.Machine

/-! ## Fields of Table 6.2 -/

def envClass (e : Bytes) : Nat := u16 e 8
def envKind (e : Bytes) : Nat := u8 e 0xA
def envAlg (e : Bytes) : Nat := u8 e 0xB
def envSeq (e : Bytes) : Nat := u32 e 0xC
def envSec (e : Bytes) : Nat := u32 e 0x10
def envLength (e : Bytes) : Nat := u32 e 0x14
def envKey (e : Bytes) : Nat := u8 e 0x1D
def envBuild (e : Bytes) : Bytes := field e 0x20 16
def envSigOff (e : Bytes) : Nat := u32 e 0x38
def envSigLen (e : Bytes) : Nat := u32 e 0x3C
/-- SIG_OFF + SIG_LEN: the envelope's length within a payload (Table 8.4). -/
def envBytes (e : Bytes) : Nat := envSigOff e + envSigLen e
/-- The signed part and the signature (R170). -/
def envSigned (e : Bytes) : Bytes := field e 0 (envSigOff e)
def envSig (e : Bytes) : Bytes := field e (envSigOff e) (envSigLen e)
def envDigest (e : Bytes) : Bytes := Hash.sha256 (envSigned e)
/-- Entry `i` of the digest list (R171). -/
def envEntry (e : Bytes) (i : Nat) : Bytes := field e (0x80 + i * Hash.outSize (envAlg e)) (Hash.outSize (envAlg e))
def envListLen (e : Bytes) : Nat := u32 e 0x34

/-- The fields of check 1 that do not depend on one another. -/
def envHeaderOk (e : Bytes) : Bool :=
  0x80 ≤ e.length && u32 e 0 = 0x4549524B && u16 e 4 = 1 && u16 e 6 = 0x80 && u32 e 0x7C = crc32c (e.take 0x7C) &&
    u16 e 0x1E = 0 && allZero (field e 0x40 0x3C)

/-- Check 1 of Table 6.3. -/
def envCheck1 (e : Bytes) : Bool :=
  envHeaderOk e && 1 ≤ envAlg e && envAlg e ≤ 3 && u8 e 0x1C = 16 && 1 ≤ envLength e &&
    envBlocks e = (envLength e + 65535) / 65536 && envBlocks e ≤ 65536 && u32 e 0x30 = 0x80 &&
    envListLen e = envBlocks e * Hash.outSize (envAlg e) && envSigOff e = 0x80 + envListLen e &&
    1 ≤ envSigLen e && envSigLen e ≤ 16384 && envBytes e ≤ e.length

/-- Check 2 for a host's class and a slot. -/
def envCheck2 (e : Bytes) (cls : Nat) (k : Fin 3) : Bool :=
  envKind e = b2n (k = 2) && envClass e = cls && cls ≠ 0xFFFF

/-- Check 6, and check 7 of Table 16.4: reason and level of R220. -/
def State.envVerify (s : State) (ok : Bool) (e : Bytes) : Bool :=
  (s.verifySig ok (envKey e) (envSig e) (some (envSigned e))).1 = Lms.rPass

/-- The event of that verification (R221). -/
def State.envSigEvent (s : State) (e : Bytes) : State :=
  let r := s.verifySig true (envKey e) (envSig e) (some (envSigned e))
  s.sigEvent (envKey e) r.1 r.2

/-! ## Slots (R166, R228, R229) -/

/-- Generation that a record lists for a slot. -/
def ActHost.gen (a : ActHost) (k : Fin 3) : Half := if k = 0 then a.genA else if k = 1 then a.genB else a.genR
def State.actHost (s : State) (r : ActRecord) (h : Host24) : ActHost := r.hosts.get h

/-- The envelope that a slot has under the record in force. -/
def State.slotEnv (s : State) (h : Host24) (k : Fin 3) : Option Bytes :=
  let sl := (s.imgOf h).slots.get k
  match s.upd.inForce with
  | some r => if (r.hosts.get h).gen k = sl.gen then sl.envelope else none
  | none => sl.envelope

/-- The slot exists: a first page is configured (Table 6.1). -/
def State.slotExists (s : State) (h : Host24) (k : Fin 3) : Bool := (s.imgOf h).slotPage.get k ≠ 0xFFFFFFFF
def State.slotPages (s : State) (h : Host24) (k : Fin 3) : Nat :=
  if k = 2 then (s.imgOf h).pagesR.toNat else (s.imgOf h).pagesAB.toNat
def State.slotFirst (s : State) (h : Host24) (k : Fin 3) : Nat := ((s.imgOf h).slotPage.get k).toNat

/-- R174: the slot preferred by SEQUENCE where no record is readable, and whether EV 0x0233 is due. -/
def prefBySeq (a b : Option Bytes) : Fin 3 × Bool :=
  match a.filter envCheck1, b.filter envCheck1 with
  | some x, some y =>
    if newer32 (envSeq x) (envSeq y) then (0, false)
    else if newer32 (envSeq y) (envSeq x) then (1, false)
    else (0, !(envSeq x = envSeq y && envDigest x = envDigest y))
  | none, some _ => (1, false)
  | _, none => (0, false)

/-- The preferred slot of a host, A or B (R174). -/
def State.prefSlot (s : State) (h : Host24) : Fin 3 × Bool :=
  match s.upd.inForce with
  | some r => (if (r.hosts.get h).pref = 0 then 0 else 1, false)
  | none => prefBySeq (s.slotEnv h 0) (s.slotEnv h 1)

def otherSlot (k : Fin 3) : Fin 3 := if k = 0 then 1 else 0

/-- The candidates of R173 in order. -/
def State.candidateSlots (s : State) (h : Host24) : List (Fin 3) :=
  let p := (s.prefSlot h).1
  [p, otherSlot p, 2].filter fun k => s.slotExists h k && (s.slotEnv h k).isSome

/-- The record in force marks the preferred slot as in Trial (R176). -/
def State.slotTrial (s : State) (h : Host24) (k : Fin 3) : Bool :=
  match s.upd.inForce with
  | some r => r.trial && (r.hosts.get h).trial && r.trialHosts.getLsbD h.val && k = (s.prefSlot h).1
  | none => false

/-- A clause of the Timetable writes, or erases, a virtual page of the run (check 3). -/
def writesInto (t : Timetable) (lo n : Nat) : Bool :=
  t.reaches.any fun r => r.writable && r.lo < lo + n && lo ≤ r.hi

/-- Checks 2 and 4 to 11 of Table 3.10 on a Timetable held as data. -/
def State.ttStatic (s : State) (t : Timetable) (h : Host24) : Bool :=
  ttFirstFailed t.image h.val s.partCode (s.fused h.val) = 0

end Sys2Proof.Machine
end

