-- ==== Sys2Proof/Machine/Restart.lean ====
section
/-! DEFINITION. The ROM (chapter 16): the checks of a firmware slot, the choice of the firmware, the Trial rules, recovery
listen, and the part of a restart of the management processor that hardware and ROM make. -/
namespace Sys2Proof.Machine

/-! ## Firmware slots (R436 to R441) -/

def Update.fwOf (u : Update) (k : Nat) : FwSlot := if k = 0 then u.fw0 else u.fw1
def Update.setFw (u : Update) (k : Nat) (f : FwSlot) : Update := if k = 0 then { u with fw0 := f } else { u with fw1 := f }
def ActRecord.fwGen (r : ActRecord) (k : Nat) : Half := if k = 0 then r.fwGen0 else r.fwGen1

/-- Checks 4 to 7 of Table 16.4 on a firmware envelope: the first that fails, or 0. -/
def State.fwEnvFailed (s : State) (e : Bytes) : Nat :=
  if !(envCheck1 e && envKind e = 2 && (envClass e = 0 || envClass e = s.partCode) && envLength e ≤ 3145728) then 4
  else if !s.slotForFirmware (envKey e) then 5
  else if envSec e < s.counter 63 then 6
  else if !s.envVerify true e then 7
  else 0

/-- Check 8: every 64 KiB block of the image, filled with 0xFF, matches its list entry (R171). -/
def imageMatches (e image : Bytes) : Bool :=
  (List.range (envBlocks e)).all fun i =>
    let b := (image.drop (i * blockSize)).take blockSize
    Hash.digest (envAlg e) (Hash.outSize (envAlg e)) (b ++ List.replicate (blockSize - b.length) 0xFF) = envEntry e i

/-- Table 16.4 for a slot: the first check that fails, or 0. -/
def State.fwFailed (s : State) (k : Nat) : Nat :=
  let f := s.upd.fwOf k
  if !(s.boot.recordWhole && f.present && s.upd.inForce.elim true fun r => r.fwGen k = f.gen) then 1
  else if !f.readable then 2
  else if f.slotCrc.toNat ≠ crc32c (f.envelope ++ f.image) then 3
  else
    let n := s.fwEnvFailed f.envelope
    if n ≠ 0 then n else if !(f.image.length = envLength f.envelope && imageMatches f.envelope f.image) then 8 else 0

/-- R440: the preferred firmware slot, with the sequences of EV 0x0B03 where it is due. -/
def State.fwPref (s : State) : Nat × Option (Nat × Nat) :=
  match s.upd.inForce with
  | some r => (r.fwPref, none)
  | none =>
    let e := fun k => let f := s.upd.fwOf k
      if f.present && f.readable then some f.envelope else none
    let (k, ev) := prefBySeq (e 0) (e 1)
    (k.val, if ev then some (envSeq ((e 0).getD []), envSeq ((e 1).getD [])) else none)

/-! ## The Trial rules of the ROM (R445) -/

/-- Reasons of Table 8.12. -/
def rvDeadline : Nat := 1
def rvBudget : Nat := 2
def rvVerify : Nat := 3
def rvMigration : Nat := 4
def rvSelfTest : Nat := 5
def rvAbandoned : Nat := 6
def rvHeld : Nat := 7

/-- The firmware is in Trial under the record in force. -/
def State.fwTrial (s : State) : Bool := s.upd.inForce.elim false fun r => r.trial && r.fwNamed

/-- A revert made by the ROM: ACT_WORD selects the other record, and EV 0x080B is logged. -/
def State.romRevert (s : State) (reason : Nat) : State :=
  { s with upd := { s.upd with actSel := !s.upd.actSel }, sys := { s.sys with revert := BitVec.ofNat 3 reason } }.raise 0x080B srcROM
    (p8 reason)

/-- TRIAL_COUNT + 1, for the record in force. -/
def Update.countTrial (u : Update) : Update :=
  if u.trialCountSeq = u.recOf.actSeq.toNat % 2 ^ 24 then { u with trialCount := min 255 (u.trialCount + 1) } else u
/-- The count is above the budget; another record's count counts as exhausted (Table 8.11). -/
def Update.exhausted (u : Update) : Bool :=
  u.trialCountSeq ≠ u.recOf.actSeq.toNat % 2 ^ 24 || u.recOf.budget < u.trialCount

/-- Step 8 of Table 16.5 and step 1 of R445. -/
def State.romTrial (s : State) : State :=
  if !s.fwTrial then s
  else if s.sys.kind = 3 then s.romRevert rvDeadline
  else
    let cnt := s.sys.kind = 0 || !s.sys.roll
    let s1 := { s with upd := if cnt then s.upd.countTrial else s.upd, sys := { s.sys with counted := true } }
    if s1.upd.exhausted then s1.romRevert rvBudget else s1

/-! ## The choice (R439, R440, step 7 of Table 16.5) -/

/-- The outcome of a slot's checks goes to SYS_BOOTINFO; a rejection logs EV 0x0B02. -/
def State.romTry (s : State) (k : Nat) : Nat × State :=
  let n := s.fwFailed k
  let s1 := { s with sys := if k = 0 then { s.sys with slot0Result := BitVec.ofNat 4 n } else { s.sys with slot1Result := BitVec.ofNat 4 n } }
  let s2 := if n = 7 then s1.envSigEvent (s.upd.fwOf k).envelope else s1
  (n, s2.raiseIf (n ≠ 0) 0x0B02 srcROM (p8 k ++ p8 0 ++ p8 n))

/-- The slot to run: the preferred one, then the other; a Trial firmware that fails reverts first. -/
def State.romPick (s : State) : Option Nat × State :=
  let s0 := match s.fwPref.2 with
    | some (a, b) => s.raise 0x0B03 srcROM (p32 a ++ p32 b)
    | none => s
  let p := s.fwPref.1
  let (n, s1) := s0.romTry p
  if n = 0 then (some p, s1)
  else
    let s2 := if s1.fwTrial then s1.romRevert rvVerify else s1
    let q := if s2.fwPref.1 = p then 1 - p else s2.fwPref.1
    let (m, s3) := s2.romTry q
    (if m = 0 then some q else none, s3)

/-! ## Handover and recovery listen (R442, R446, R449) -/

/-- The debug master is opened in Maker and Integrator, and stays locked in every other state (R444). -/
def State.openDebug (s : State) : State :=
  if s.lcc.state = .maker || s.lcc.state = .integrator then { s with dbg := { s.dbg with open_ := true, until_ := none } } else s

/-- Region 7 of gate 1 (R443). -/
def codeRegion : Region := { base := 0x10000000, en := true, lock := true, size := 22, srd := 0xC0, perm := 1 }
def State.setRegion7 (s : State) : State :=
  { s with gates := updV s.gates (1 : Fin 22) fun g => { g with regions := g.regions.set 7 codeRegion } }

/-- The image lies in SRAM bank 0 from 0x1000_0000 (R439). -/
def State.loadImage (s : State) (image : Bytes) : State := { s with sram := (s.sram.eraseN sramBase 0x300000).writeN 0 sramBase image }.rewritten sramBase 0x400000

def second : Nat := 1000000

/-- Step 10: NET_BOOT, SYS_BOOTINFO, EV 0x0B01; the confirmation watchdog is armed for a firmware in Trial (R446). -/
def State.handOver (s : State) (slot : Nat) (envelope : Bytes) (recovery : Bool) : State :=
  let r := s.upd.inForce
  let trial := s.fwTrial && r.elim false fun r => r.fwPref = slot
  let arm := trial && s.sys.cwdt.isNone
  let s1 := { s with
    netBoot := if s.netBoot = BitVec.allOnes 32 then s.netBoot else s.netBoot + 1
    sys := { s.sys with
      inRom := false, slot := slot = 1, trialFw := trial, recovery := recovery, recordBad := r.isNone, listen := 0
      cwdt := if arm then some (s.timeBase.toNat + (r.elim 0 ActRecord.deadlineS + 10) * second) else s.sys.cwdt } }
  s1.raise 0x0B01 srcROM (p8 slot ++ p8 s.sys.kind.toNat ++ p32 s.upd.trialCount ++ p32 (envSeq envelope))

/-- Recovery listen's ports: CAN0 and T1S0 with the stored communication block when it is whole, else the factory's; the update lock and
the supply threshold come from block 0x0528 likewise (R449, R450). -/
def State.listenPorts (s : State) : State :=
  let good := fun (k : Nat) => !s.upd.dirDefault && !s.upd.defaulted.contains k
  let cfg := fun (k : NetPort) =>
    let x := if good 0x0100 then s.storedNet k else factoryNet k
    { x with enabled := x.enabled && (k = 0 || k = 4) }
  let s1 := s.modNet fun n => { n with ports := Vector.ofFn fun (k : Fin 8) => (n.ports.get k).reconfigure (cfg k) }
  { s1 with upd := { s1.upd with
    lock := good 0x0528 && s.storedVal 0x2803 1 = 1, vbakMinMv := if good 0x0528 then s.storedVal 0x2803 2 else 1200 } }

/-- Recovery listen: cause 1 NO_FIRMWARE, 2 NO_CORE. -/
def State.enterListen (s : State) (cause : Nat) : State :=
  let s1 := forEach all24 (fun h t => if (t.imgOf h).state = .off then t else t.toHeld h) s
  let s2 := if s.sys.kind = 0 then s1.setRegion7.openDebug else s1
  { s2.listenPorts with sys := { s2.sys with listen := cause, rState := .idle, rOutcome := 0, rLen := 0, rResume := 0 } }.raise 0x0B05 srcROM (p8 cause)

/-- Steps 7 to 10 of Table 16.5, and the cases in which they end in recovery listen. -/
def State.romBoot (s : State) : State :=
  let s0 := if s.boot.recordWhole then s else s.raise 0x0B04 srcROM []
  match s0.romTrial.romPick with
  | (some k, s1) =>
    let f := s1.upd.fwOf k
    let s2 := s1.loadImage f.image
    (if s.sys.kind = 0 then s2.setRegion7.openDebug else s2).handOver k f.envelope false
  | (none, s1) => s1.enterListen 1

/-! ## Mailbox results (R63, Table 2.14) -/

def mbOk : Nat := 0
def mbBusy : Nat := 1
def mbNotYet : Nat := 2
def mbDenied : Nat := 3
def mbBadArg : Nat := 4
def mbFull : Nat := 5
def mbGone : Nat := 6

/-- BUSY of a restart, with a retry hint of 20,000 µs. -/
def mbRestarting : MbResult := { code := mbBusy, retry := 20000, rsp := [] }

/-- A result is delivered: the response, then DONE and CAUSE.MB_DONE; the response stays in place until the next GO. -/
def Hpw.deliver (r : MbResult) (w : Hpw) : Hpw :=
  setCause causeMbDone { w with
    mbCode := BitVec.ofNat 3 r.code, mbDone := true, mbPending := false
    mbTag := w.request.elim w.mbTag fun q => BitVec.ofNat 8 q.tag, mbRlen := BitVec.ofNat 12 r.rsp.length
    mbRetry := if r.code = mbBusy then BitVec.ofNat 32 r.retry else 0
    mbRsp := w.mbRsp.writeN 0 0 r.rsp, request := none, result := none }

/-! ## The restart itself (R16, R452 to R454) -/

/-- Kinds of SYS_BOOTINFO.KIND. -/
def kRequested : BitVec 2 := 1
def kLiveness : BitVec 2 := 2
def kConfirm : BitVec 2 := 3

/-- What a restart does to the rest of the controller (Table 1.2). -/
def State.restartBegin (s : State) (kind : BitVec 2) (roll : Bool) : State :=
  let s1 := (s.wake wkInternal 0).dgcRestart
  let s2 := if s1.sig.busy then s1.sigEnd Lms.rAborted 0 else s1
  let s3 := sessionNos.foldl (fun st k => if (st.session k).isSome then st.closeSession k causeRestart false else st) s2
  let s4 := forEach all24 (fun h st =>
    let w := (st.port h).hpw
    let st1 := if w.mbPending then st.modHpw h (Hpw.deliver mbRestarting) else st
    st1.modImg h fun i => if i.state = .hallPass then { i with deadlinePaused := true } else i) s3
  { s4 with
    restarting := true
    latches := s4.latches.filter fun x => x.1.1 ≠ 0x20 && x.1.1 ≠ 0x21
    net := { s4.net with transfers := [] }
    signer := if s4.signer.busy then { s4.signer with busy := false, done := true, reason := 5 } else s4.signer
    sys := { s4.sys with
      kind := kind, inRom := true, roll := roll, wdtEn := false, counted := false, revert := 0, recovery := false
      slot0Result := 0xF, slot1Result := 0xF, listen := 0 } }

/-- A restart up to the hand-over. -/
def State.warmBoot (s : State) (kind : BitVec 2) (roll : Bool) : State := (s.restartBegin kind roll).romBoot

end Sys2Proof.Machine
end

