-- ==== Sys2Proof/Machine/Bundle.lean ====
section
/-! DEFINITION. The Lochevik bundle (R230, R231): bundle header, Syllabus, items and payloads, and delta streams (R232). -/
namespace Sys2Proof.Machine

/-! ## Header and Syllabus (Tables 8.1 and 8.2); a bundle's Syllabus stands at offset 0x40 -/

def bundleLenOf (b : Bytes) : Nat := u32 b 8
def sylLen (b : Bytes) : Nat := u32 b 0xC
def sylSeq (b : Bytes) : Nat := u32 b 0x48
def sylPart (b : Bytes) : Nat := u8 b 0x4C
def sylKey (b : Bytes) : Nat := u8 b 0x4D
def itemCount (b : Bytes) : Nat := u16 b 0x4E
def sylUnit (b : Bytes) : Bytes := field b 0x50 16
def sylBudget (b : Bytes) : Nat := u8 b 0x60
def sylDeadline (b : Bytes) : Nat := u16 b 0x62
def sylSigLen (b : Bytes) : Nat := u32 b 0x64
/-- The signed part of the Syllabus, header and item table, and its signature. -/
def sylSigned (b : Bytes) : Bytes := field b 0x40 (128 + 64 * itemCount b)
def sylSig (b : Bytes) : Bytes := field b (0x40 + 128 + 64 * itemCount b) (sylSigLen b)
def sylDigest (b : Bytes) : Bytes := Hash.sha256 (sylSigned b)
/-- Bundle ID (0x2800.04). -/
def bundleId (b : Bytes) : Bytes := (sylDigest b).take 8

/-- The first 64 bytes pass Table 8.1. -/
def bundleHeaderOk (b : Bytes) : Bool :=
  0x40 ≤ b.length && u32 b 0 = 0x424C524B && u16 b 4 = 1 && u16 b 6 = 0x40 && allZero (field b 0x10 0x2C) && u32 b 0x3C = crc32c (b.take 0x3C)

/-- The Syllabus header passes Table 8.2. -/
def sylHeaderOk (b : Bytes) : Bool :=
  0xC0 ≤ b.length && u32 b 0x40 = 0x5953524B && u16 b 0x44 = 1 && u16 b 0x46 = 0x80 && 1 ≤ itemCount b && itemCount b ≤ 64 &&
    sylBudget b ≤ 15 && u8 b 0x61 = 0 && (sylDeadline b = 0 || between 10 3600 (sylDeadline b)) && between 1 16384 (sylSigLen b) &&
    allZero (field b 0x78 0x44) && u32 b 0xBC = crc32c (field b 0x40 0x7C) && sylLen b = 128 + 64 * itemCount b + sylSigLen b

/-! ## Items (Tables 8.3 and 8.4) -/

structure Item where
  typ : Nat
  arg8 : Nat
  targets : Nat
  off : Nat
  len : Nat
  token : Nat
  source : Bytes
  digest : Bytes
  /-- reserved fields are zero -/
  clean : Bool
  deriving DecidableEq, Repr

def Item.parse (b : Bytes) (i : Nat) : Item :=
  let o := 0xC0 + 64 * i
  { typ := u8 b o, arg8 := u8 b (o + 1), targets := u32 b (o + 4), off := u32 b (o + 8), len := u32 b (o + 0xC), token := u32 b (o + 0x10)
    source := field b (o + 0x18) 8, digest := field b (o + 0x20) 32, clean := u16 b (o + 2) = 0 && u32 b (o + 0x14) = 0 }

def itemsOf (b : Bytes) : List Item := (List.range (itemCount b)).map (Item.parse b)

def tyFwFull : Nat := 0x01
def tyFwDelta : Nat := 0x02
def tyHostFull : Nat := 0x10
def tyHostDelta : Nat := 0x11
def tyHostRecovery : Nat := 0x12
def tyTimetable : Nat := 0x20
def tyBell : Nat := 0x30
def tyGateSet : Nat := 0x40
def tyDictDefaults : Nat := 0x50

def Item.isFw (i : Item) : Bool := i.typ = tyFwFull || i.typ = tyFwDelta
def Item.isPrimary (i : Item) : Bool := i.typ = tyHostFull || i.typ = tyHostDelta
def Item.isImage (i : Item) : Bool := i.isPrimary || i.typ = tyHostRecovery
def Item.isDelta (i : Item) : Bool := i.typ = tyFwDelta || i.typ = tyHostDelta
def Item.unitWide (i : Item) : Bool := i.isFw || i.typ = tyGateSet || i.typ = tyDictDefaults
def Item.names (i : Item) (h : Nat) : Bool := bit i.targets h
def Item.payload (i : Item) (b : Bytes) : Bytes := field b i.off i.len
/-- Hosts or channels that the item targets, in order. -/
def Item.targetList (i : Item) : List Host24 := all24.filter fun h => i.names h.val

/-- One item's fields (R231). -/
def Item.ok (i : Item) (b : Bytes) (fused : Nat → Bool) : Bool :=
  let n := i.targetList.length
  i.clean && (i.isFw || i.isImage || i.typ = tyTimetable || i.typ = tyBell || i.typ = tyGateSet || i.typ = tyDictDefaults) &&
    0x40 + sylLen b ≤ i.off && i.off + i.len ≤ bundleLenOf b && i.targets < 2 ^ 24 &&
    (if i.unitWide then n = 0 else if i.typ = tyTimetable || i.typ = tyBell then n = 1 else 1 ≤ n) &&
    i.targetList.all (fun h => !fused h.val && !(sylPart b = 0x12 && 12 ≤ h.val)) &&
    (i.isPrimary || i.token = 0) && (i.isDelta || allZero i.source) && i.arg8 ≤ b2n (i.typ = tyTimetable)

/-- At most one of the items satisfies `p`. -/
def atMostOne (is : List Item) (p : Item → Bool) : Bool := (is.filter p).length ≤ 1

def payloadsApart : List Item → Bool
  | [] => true
  | i :: r => r.all (fun j => !overlaps i.off i.len j.off j.len) && payloadsApart r

/-- The item table passes R231. -/
def itemTableOk (b : Bytes) (fused : Nat → Bool) : Bool :=
  let is := itemsOf b
  is.all (fun i => i.ok b fused) && payloadsApart is && atMostOne is Item.isFw && atMostOne is (fun i => i.typ = tyGateSet) &&
    atMostOne is (fun i => i.typ = tyDictDefaults) &&
    (List.range 24).all fun h =>
      let tt := fun a => is.any fun i => i.typ = tyTimetable && i.arg8 = a && i.names h
      atMostOne is (fun i => i.isPrimary && i.names h) && atMostOne is (fun i => i.typ = tyHostRecovery && i.names h) &&
        atMostOne is (fun i => i.typ = tyTimetable && i.arg8 = 0 && i.names h) &&
        atMostOne is (fun i => i.typ = tyTimetable && i.arg8 = 1 && i.names h) && atMostOne is (fun i => i.typ = tyBell && i.names h) &&
        (!(is.any fun i => i.isPrimary && i.names h) || tt 0) && (is.any fun i => i.typ = tyHostRecovery && i.names h) == tt 1

/-! ## What a Syllabus names (R227) -/

/-- Hosts named with an image: TRIAL_HOSTS. -/
def trialHosts (b : Bytes) : List Host24 := all24.filter fun h => (itemsOf b).any fun i => i.isPrimary && i.names h.val
/-- The Timetable item of a host; `r` for slot R. -/
def ttItem (b : Bytes) (h : Host24) (r : Bool) : Option Bytes :=
  ((itemsOf b).find? fun i => i.typ = tyTimetable && i.arg8 = b2n r && i.names h.val).map fun i => i.payload b
/-- Hosts named with a Timetable only. -/
def ttOnlyHosts (b : Bytes) : List Host24 := all24.filter fun h => (ttItem b h false).isSome && !(trialHosts b).contains h
def fwItem (b : Bytes) : Option Item := (itemsOf b).find? Item.isFw
def bellItems (b : Bytes) : List (Chan × Bytes) :=
  all24.filterMap fun c => ((itemsOf b).find? fun i => i.typ = tyBell && i.names c.val).map fun i => (c, i.payload b)
def itemPayload (b : Bytes) (t : Nat) : Option Bytes := ((itemsOf b).find? fun i => i.typ = t).map fun i => i.payload b
/-- Image items with each of their target hosts, in order, with the item's index. -/
def imageTargets (b : Bytes) : List (Nat × Item × Host24) :=
  ((List.range (itemCount b)).zip (itemsOf b)).flatMap fun x => if x.2.isImage then x.2.targetList.map fun h => (x.1, x.2, h) else []

/-- Envelope, and what follows it, of an image payload (Table 8.4). -/
def payloadEnv (p : Bytes) : Bytes := field p 0 (envBytes p)
def payloadImage (p : Bytes) : Bytes := p.drop (envBytes p)

/-! ## Delta streams (R232, R233) -/

def errNone : Nat := 0
def errHeader : Nat := 1
def errOp : Nat := 2
def errRange : Nat := 3
def errOverrun : Nat := 4
def errShort : Nat := 5
def errRead : Nat := 6
def errWrite : Nat := 7
def errAborted : Nat := 8
def errNoSpace : Nat := 9

/-- Outcome of a build: error, offset of the failing operation, output and operations completed. -/
structure Built where
  err : Nat
  pos : Nat
  out : Bytes
  ops : Nat

/-- Operations from stream offset `pos` on; `src` reads the source, `fuel` bounds the operations. -/
def runDelta (src : Nat → Nat → Option Bytes) (stream : Bytes) (srcLen outLen : Nat) : Nat → Nat → Bytes → Nat → Built
  | 0, pos, out, ops => { err := errShort, pos, out, ops }
  | fuel + 1, pos, out, ops =>
    let fail := fun e => ({ err := e, pos, out, ops } : Built)
    if stream.length ≤ pos then fail errShort
    else match u8 stream pos with
      | 0 => if out.length < outLen then fail errShort else if pos + 1 ≠ stream.length then fail errOp
             else { err := errNone, pos, out, ops }
      | 1 =>
        let o := u32 stream (pos + 1)
        let n := u32 stream (pos + 5)
        if stream.length < pos + 9 then fail errShort
        else if n = 0 then fail errOp
        else if srcLen < o + n then fail errRange
        else if outLen < out.length + n then fail errOverrun
        else match src o n with
          | some b => runDelta src stream srcLen outLen fuel (pos + 9) (out ++ b) (ops + 1)
          | none => fail errRead
      | 2 =>
        let n := u32 stream (pos + 1)
        if stream.length < pos + 5 then fail errShort
        else if n = 0 then fail errOp
        else if outLen < out.length + n then fail errOverrun
        else if stream.length < pos + 5 + n then fail errShort
        else runDelta src stream srcLen outLen fuel (pos + 5 + n) (out ++ field stream (pos + 5) n) (ops + 1)
      | _ => fail errOp

def deltaSourceLen (d : Bytes) : Nat := u32 d 8
def deltaOutputLen (d : Bytes) : Nat := u32 d 0xC
def deltaHeaderOk (d : Bytes) : Bool :=
  32 ≤ d.length && u32 d 0 = 0x5344524B && u16 d 4 = 1 && u16 d 6 = 0x20 && allZero (field d 0x14 12)

/-- The image that a payload gives: one literal run of LENGTH bytes, or a delta against the source (R233). -/
def buildImage (delta : Bool) (payload : Bytes) (srcLen : Nat) (src : Nat → Nat → Option Bytes) : Built :=
  let e := payloadEnv payload
  let d := payloadImage payload
  if !delta then
    if d.length < envLength e then { err := errShort, pos := 0, out := [], ops := 0 }
    else if envLength e < d.length then { err := errOverrun, pos := 0, out := [], ops := 0 }
    else { err := errNone, pos := 0, out := d, ops := 1 }
  else if !(deltaHeaderOk d && deltaSourceLen d = srcLen && deltaOutputLen d = envLength e) then { err := errHeader, pos := 0, out := [], ops := 0 }
  else runDelta src d srcLen (envLength e) (d.length + 1) 32 [] 0

end Sys2Proof.Machine
end

