-- ==== Sys2Proof/Machine/Sfdp.lean ====
section
/-! DEFINITION. The SFDP table a port emulates (R50, Table 2.8). The layout of each parameter table is JESD216 revision
D's, which the spec names and does not restate (PRESUMED). -/
namespace Sys2Proof.Machine

/-- The dummy and mode clocks of a read opcode in its interface mode, when a clause admits it. -/
def admitted (t : Timetable) (op shape m : Nat) : Option (Nat × Nat) :=
  ((t.span op).find? fun p => bit p.2.modes m && p.2.action ≠ 2).map fun p => (p.2.dummy, modeClocks shape m)

def admits (t : Timetable) (op : Nat) : Bool := (t.span op).any fun p => p.2.action ≠ 2

/-- Dummy clocks, mode clocks and opcode of a fast read; zero when it is not supported. -/
def fastRead (t : Timetable) (op shape m : Nat) : Nat :=
  match admitted t op shape m with
  | some (d, mc) => d % 32 + 32 * (mc % 8) + 256 * op
  | none => 0

def log2Nat (n : Nat) : Nat := Nat.log2 n

/-- Density DWORD: bits less one, or a power of two above 2 Gbit. -/
def densityWord (pages : Nat) : Nat :=
  let b := pages * 32768
  if b ≤ 2 ^ 31 then b - 1 else 2 ^ 31 + log2Nat b

/-- A typical time as count - 1 and unit index, for the units given in ascending order. -/
def timeField (v : Nat) (units : List Nat) (countBits : Nat) : Nat :=
  let fits := ((List.range units.length).zip units).find? fun p => (v + p.2 - 1) / max 1 p.2 ≤ 2 ^ countBits
  match fits with
  | some (i, uu) => ((v + uu - 1) / max 1 uu - 1) + 2 ^ countBits * i
  | none => 2 ^ countBits - 1 + 2 ^ countBits * (units.length - 1)

/-- The multiplier field: maximum = 2 × (field + 1) × typical. -/
def maxField (typ mx : Nat) : Nat := min 15 ((mx + 2 * max 1 typ - 1) / (2 * max 1 typ) - 1)

/-- The 20 DWORDs of the Basic Flash Parameter Table. -/
def bfpt (t : Timetable) : List Nat :=
  let tm := fun i => t.times.getD i 0
  let pages := t.vsizePages
  let dual := fastRead t 0xBC 5 1
  let quad := fastRead t 0xEC 6 2
  let oct := fastRead t 0xCC 7 3
  let unit := bits t.cfg 16 4
  [ 0xFF800000 + 0x2000 + 0xE0 + 5 + (if pages ≤ 4096 then 1 else 2) * 2 ^ 17 + b2n (dual ≠ 0) * 2 ^ 20 + b2n (quad ≠ 0) * 2 ^ 21,
    densityWord pages, quad, dual * 2 ^ 16, 0xFFFFFFEE, 0x0000FFFF, 0x0000FFFF, 0xD810200C, 0,
    maxField (tm 2) (tm 3) + 16 * timeField (tm 2) [1, 16, 128, 1000] 5 + 2 ^ 11 * timeField (tm 4) [1, 16, 128, 1000] 5,
    maxField (tm 0) (tm 1) + 16 * unit + 256 * timeField (tm 0) [8, 64] 5 +
      2 ^ 24 * timeField (1000 * tm 6) [16, 256, 4000, 64000] 5 + 2 ^ 31,
    2 ^ 31, 0, 2 ^ 31 + 0xC + 3, 0, 2 ^ 12 + 2 ^ 14 * b2n (pages ≤ 4096) + 2 ^ 24 * b2n (pages ≤ 4096), oct, 0, 0, 0 ]

/-- The 4-byte Address Instruction Table: support bits and erase opcodes. -/
def fourByteTable (t : Timetable) : List Nat :=
  [ b2n (admits t 0x13) + 2 * b2n (admits t 0x0C) + 8 * b2n (admits t 0xBC) + 32 * b2n (admits t 0xEC) +
      64 * b2n (admits t 0x12) + 2 ^ 9 * b2n (admits t 0x21) + 2 ^ 10 * b2n (admits t 0xDC) + 2 ^ 21 * b2n (admits t 0xCC),
    (if admits t 0x21 then 0x21 else 0xFF) + 256 * (if admits t 0xDC then 0xDC else 0xFF) + 0xFFFF0000 ]

/-- The xSPI Profile 1.0 table: the 8D read opcode and its dummy count at 200 MHz. -/
def xspiTable (t : Timetable) : List Nat :=
  let d := (admitted t 0xEE 8 5).elim 0 Prod.fst
  [ (if (admitted t 0xEE 8 5).isSome then 0xEE * 256 else 0), 0, 0, d * 2 ^ 7 % 2 ^ 32, 0 ]

/-- Command Sequences to Change to Octal DDR: 0x06, then 0x81 with data 0x08. -/
def octalTable : List Nat := [0x01060000, 0, 0x02810800, 0, 0, 0, 0, 0]

/-- The whole table: header, parameter headers, tables. -/
def sfdpBytes (t : Timetable) : Bytes :=
  let d8 := bit t.modesPermitted 2
  let n := if d8 then 4 else 3
  let base := 8 + 8 * n
  let hdr := fun (idLo idHi len ptr : Nat) => p8 idLo ++ p8 (if idLo = 0 then 8 else 0) ++ p8 1 ++ p8 len ++ leBytes 3 ptr ++ p8 idHi
  ascii "SFDP" ++ p8 8 ++ p8 1 ++ p8 (n - 1) ++ p8 0xFF ++
    hdr 0x00 0xFF 20 base ++ hdr 0x84 0xFF 2 (base + 80) ++ hdr 0x05 0xFF 5 (base + 88) ++
    (if d8 then hdr 0x0A 0xFF 8 (base + 108) else []) ++
    (bfpt t ++ fourByteTable t ++ xspiTable t ++ (if d8 then octalTable else [])).flatMap p32

/-- `n` bytes from SFDP address `a`; beyond the table 0xFF. -/
def sfdpRead (t : Timetable) (a n : Nat) : Bytes :=
  let b := (sfdpBytes t).drop a
  (b.take n) ++ List.replicate (n - b.length) 0xFF

end Sys2Proof.Machine
end

