-- ==== Sys2Proof/Machine/PortCommands.lean ====
section
/-! DEFINITION. The meanings of host frames, of a port's timers and line buffer, and of Timetable commits (chapters 2
and 3). -/
namespace Sys2Proof.Machine

/-! ## Reads (R33, R34, R53) -/

def frameRead (f : Frame) (s : State) : State :=
  takeFrame 0x03 0x01 f (readBody 0x03 0x01 f) s
def execRead (f : Frame) (s : State) := done (frameRead f s)
def frameRead4 (f : Frame) (s : State) : State :=
  takeFrame 0x13 0x02 f (readBody 0x13 0x02 f) s
def execRead4 (f : Frame) (s : State) := done (frameRead4 f s)
def frameFast (f : Frame) (s : State) : State :=
  takeFrame 0x0B 0x03 f (readBody 0x0B 0x03 f) s
def execFast (f : Frame) (s : State) := done (frameFast f s)
def frameFast4 (f : Frame) (s : State) : State :=
  takeFrame 0x0C 0x04 f (readBody 0x0C 0x04 f) s
def execFast4 (f : Frame) (s : State) := done (frameFast4 f s)
def frameDualIo (f : Frame) (s : State) : State :=
  takeFrame 0xBC 0x05 f (readBody 0xBC 0x05 f) s
def execDualIo (f : Frame) (s : State) := done (frameDualIo f s)
def frameQuadIo (f : Frame) (s : State) : State :=
  takeFrame 0xEC 0x06 f (readBody 0xEC 0x06 f) s
def execQuadIo (f : Frame) (s : State) := done (frameQuadIo f s)
def frameOctalIo (f : Frame) (s : State) : State :=
  takeFrame 0xCC 0x07 f (readBody 0xCC 0x07 f) s
def execOctalIo (f : Frame) (s : State) := done (frameOctalIo f s)
def frameDdrRead (f : Frame) (s : State) : State :=
  takeFrame 0xEE 0x08 f (readBody 0xEE 0x08 f) s
def execDdrRead (f : Frame) (s : State) := done (frameDdrRead f s)

/-! ## Programs and erases -/

def framePp4 (f : Frame) (s : State) : State :=
  takeFrame 0x12 0x09 f (programBody 0x12 0x09 f) s
def execPp4 (f : Frame) (s : State) := done (framePp4 f s)
def framePp (f : Frame) (s : State) : State :=
  takeFrame 0x02 0x0A f (programBody 0x02 0x0A f) s
def execPp (f : Frame) (s : State) := done (framePp f s)
def frameSe4k4 (f : Frame) (s : State) : State :=
  takeFrame 0x21 0x0B f (eraseBody 0x21 0x0B 4096 f) s
def execSe4k4 (f : Frame) (s : State) := done (frameSe4k4 f s)
def frameSe4k (f : Frame) (s : State) : State :=
  takeFrame 0x20 0x0C f (eraseBody 0x20 0x0C 4096 f) s
def execSe4k (f : Frame) (s : State) := done (frameSe4k f s)
def frameBe64k4 (f : Frame) (s : State) : State :=
  takeFrame 0xDC 0x0D f (eraseBody 0xDC 0x0D 65536 f) s
def execBe64k4 (f : Frame) (s : State) := done (frameBe64k4 f s)
def frameBe64k (f : Frame) (s : State) : State :=
  takeFrame 0xD8 0x0E f (eraseBody 0xD8 0x0E 65536 f) s
def execBe64k (f : Frame) (s : State) := done (frameBe64k f s)
def frameEraseAll (f : Frame) (s : State) : State :=
  takeFrame 0xC7 0x0F f (eraseAllBody 0xC7 0x0F f) s
def execEraseAll (f : Frame) (s : State) := done (frameEraseAll f s)

/-! ## Control frames (R43 to R47, R50) -/

/-- A control frame: a deny clause gives it no effect (Table 3.7); otherwise the port's emulation serves it. -/
def controlBody (op shape : Nat) (f : Frame) (hasData prot : Bool) (body : State → State) (s : State) : State :=
  let h := f.port
  match (s.portTt h).lookup op (ifaceMode (s.port h).cmd shape) 0 0 with
  | none => body s
  | some (i, c) =>
    let s0 := s.logClause h i c 0
    if effAction (s.hallPass h) c = 2 then
      let s1 := s0.denyFrame h op 0 prot
      if hasData then s1.modPort h (·.addOut (List.replicate f.want (cfgFill (s1.port h).cfg.toNat))) else s1
    else body s0

def control (op shape : Nat) (f : Frame) (hasData prot : Bool) (body : State → State) (s : State) : State :=
  takeFrame op shape f (controlBody op shape f hasData prot body) s

/-- A data phase that returns the same fresh byte to the end of the frame. -/
def repeatOut (f : Frame) (b : State → Byte) (s : State) : State :=
  s.modPort f.port (·.addOut (List.replicate f.want (b s)))

/-- The emulated status register (R43). -/
def statusByte (h : Host24) (s : State) : Byte := BitVec.ofNat 8 (b2n (s.port h).wip + 2 * b2n (s.port h).wel)
/-- The emulated flag status register (R44). -/
def flagByte (h : Host24) (s : State) : Byte :=
  let p := s.port h
  BitVec.ofNat 8 (128 * b2n (!p.wip) + 32 * b2n p.eraseErr + 16 * b2n p.progErr + 2 * b2n p.prot)
/-- The mode register byte (R31). -/
def modeByte (h : Host24) (s : State) : Byte := match (s.port h).cmd with
  | .s1 => 0x00 | .s4 => 0x04 | .d8 => 0x08

def frameWren (f : Frame) (s : State) : State :=
  control 0x06 0x10 f false false (fun s => s.modPort f.port fun p => { p with wel := true }) s
def execWren (f : Frame) (s : State) := done (frameWren f s)
def frameWrdi (f : Frame) (s : State) : State :=
  control 0x04 0x11 f false false (fun s => s.modPort f.port fun p => { p with wel := false }) s
def execWrdi (f : Frame) (s : State) := done (frameWrdi f s)
def frameRdsr (f : Frame) (s : State) : State :=
  control 0x05 0x12 f true false (repeatOut f (statusByte f.port)) s
def execRdsr (f : Frame) (s : State) := done (frameRdsr f s)
def frameRdfsr (f : Frame) (s : State) : State :=
  control 0x70 0x13 f true false (repeatOut f (flagByte f.port)) s
def execRdfsr (f : Frame) (s : State) := done (frameRdfsr f s)
def frameClfsr (f : Frame) (s : State) : State :=
  control 0x50 0x14 f false false
    (fun s => s.modPort f.port fun p => { p with eraseErr := false, progErr := false, prot := false }) s
def execClfsr (f : Frame) (s : State) := done (frameClfsr f s)

/-- Write Status Register: one data byte, a partial one is torn; changes nothing and clears WEL (R43, Table 2.9). -/
def frameWrsr (f : Frame) (s : State) : State :=
  takeFrame 0x01 0x15 f (fun s => if f.ending = .partialUnit then s.tornFrame f.port stTorn 0x01
    else controlBody 0x01 0x15 f false false (fun s => s.modPort f.port fun p => { p with wel := false }) s) s
def execWrsr (f : Frame) (s : State) := done (frameWrsr f s)

/-- The command state that a mode register value names (R31). -/
def modeOfByte (b : Byte) : Option (CmdState × Nat) :=
  if b = 0x00 then some (.s1, 0) else if b = 0x04 then some (.s4, 1) else if b = 0x08 then some (.d8, 2) else none

/-- Write Mode Register with WEL set (R31). -/
def wrmrEffect (f : Frame) (s : State) : State :=
  match modeOfByte (f.data.headD 0xFF) with
  | none => s.modPort f.port fun p => p.setStat stDenied
  | some (cs, b) =>
    if bit (s.portTt f.port).modesPermitted b then s.modPort f.port fun p => { p with cmd := cs, wel := false }
    else s.denyFrame f.port 0x81 0 true

def frameWrmr (f : Frame) (s : State) : State :=
  takeFrame 0x81 0x16 f (fun s =>
    if f.ending = .partialUnit then s.tornFrame f.port stTorn 0x81
    else if !(s.port f.port).wel then s
    else controlBody 0x81 0x16 f false true (wrmrEffect f) s) s
def execWrmr (f : Frame) (s : State) := done (frameWrmr f s)
def frameRdmr (f : Frame) (s : State) : State :=
  control 0x85 0x17 f true false (repeatOut f (modeByte f.port)) s
def execRdmr (f : Frame) (s : State) := done (frameRdmr f s)
def frameEn4b (f : Frame) (s : State) : State :=
  control 0xB7 0x18 f false false (fun s => s.modPort f.port fun p => { p with addr4 := true }) s
def execEn4b (f : Frame) (s : State) := done (frameEn4b f s)
def frameEx4b (f : Frame) (s : State) : State :=
  control 0xE9 0x19 f false false (fun s => s.modPort f.port fun p => { p with addr4 := false }) s
def execEx4b (f : Frame) (s : State) := done (frameEx4b f s)

/-- Read ID: the header's ID bytes, then zeros (R50). -/
def frameRdid (f : Frame) (s : State) : State :=
  control 0x9F 0x1A f true false (fun s =>
    s.modPort f.port (·.addOut (field (s.portTt f.port).idBytes 0 f.want))) s
def execRdid (f : Frame) (s : State) := done (frameRdid f s)

def frameRsten (f : Frame) (s : State) : State :=
  control 0x66 0x1C f false false (fun s => s.modPort f.port fun p => { p with rstEn := true }) s
def execRsten (f : Frame) (s : State) := done (frameRsten f s)

/-- Reset acts only right after Reset Enable. -/
def frameRst (f : Frame) (s : State) : State :=
  control 0x99 0x1D f false false (fun s =>
    if (s.port f.port).rstEn then s.modPort f.port (resetPort (s.portTt f.port)) else s) s
def execRst (f : Frame) (s : State) := done (frameRst f s)
/-- Power down and release are accepted and do nothing (R33). -/
def frameDp (f : Frame) (s : State) : State :=
  control 0xB9 0x1E f false false (fun s => s) s
def execDp (f : Frame) (s : State) := done (frameDp f s)
def frameRes (f : Frame) (s : State) : State :=
  control 0xAB 0x1F f false false (fun s => s) s
def execRes (f : Frame) (s : State) := done (frameRes f s)

/-- Read SFDP (R50); native mode applies to it (R40): a status byte first, and CRC blocks with NATIVE_CRC. -/
def frameRdsfdp (f : Frame) (s : State) : State :=
  control 0x5A 0x1B f true false (fun s =>
    let h := f.port
    let p := s.port h
    let a := if p.cmd = .s1 then f.addr.toNat % 2 ^ 24 else f.addr.toNat
    let bs := sfdpRead (s.portTt h) a f.want
    let cfg := p.cfg.toNat
    if cfgNative cfg then
      let b := s.nativeStatus h true false
      if cfgNativeCrc cfg then s.modPort h (·.addOut (b :: (emitCrc bs [b] 0).1)) else s.modPort h (·.addOut (b :: bs))
    else s.modPort h (·.addOut bs)) s
def execRdsfdp (f : Frame) (s : State) := done (frameRdsfdp f s)

end Sys2Proof.Machine
end

