-- ==== Sys2Proof/Machine/PortEvents.lean ====
section
/-! DEFINITION. The meanings of address-first and unrecognised frames, of a port's timers, fills and the end of a write
(chapters 2 and 5). -/
namespace Sys2Proof.Machine

/-- What a frame does whose command phase spells `op` (R33, R53): the shape that the Timetable gives that opcode;
`mailbox` serves the two mailbox shapes. -/
def frameOf (mailbox : Nat → Nat → Frame → State → State) (op : Nat) (f : Frame) (s : State) : State :=
  match idxShape ((s.portTt f.port).entry op) with
  | 0x01 => takeFrame op 0x01 f (readBody op 0x01 f) s
  | 0x02 => takeFrame op 0x02 f (readBody op 0x02 f) s
  | 0x03 => takeFrame op 0x03 f (readBody op 0x03 f) s
  | 0x04 => takeFrame op 0x04 f (readBody op 0x04 f) s
  | 0x05 => takeFrame op 0x05 f (readBody op 0x05 f) s
  | 0x06 => takeFrame op 0x06 f (readBody op 0x06 f) s
  | 0x07 => takeFrame op 0x07 f (readBody op 0x07 f) s
  | 0x08 => takeFrame op 0x08 f (readBody op 0x08 f) s
  | 0x09 => takeFrame op 0x09 f (programBody op 0x09 f) s
  | 0x0A => takeFrame op 0x0A f (programBody op 0x0A f) s
  | 0x0B => takeFrame op 0x0B f (eraseBody op 0x0B 4096 f) s
  | 0x0C => takeFrame op 0x0C f (eraseBody op 0x0C 4096 f) s
  | 0x0D => takeFrame op 0x0D f (eraseBody op 0x0D 65536 f) s
  | 0x0E => takeFrame op 0x0E f (eraseBody op 0x0E 65536 f) s
  | 0x0F => takeFrame op 0x0F f (eraseAllBody op 0x0F f) s
  | 0x10 => frameWren f s
  | 0x11 => frameWrdi f s
  | 0x12 => frameRdsr f s
  | 0x13 => frameRdfsr f s
  | 0x14 => frameClfsr f s
  | 0x15 => frameWrsr f s
  | 0x16 => frameWrmr f s
  | 0x17 => frameRdmr f s
  | 0x18 => frameEn4b f s
  | 0x19 => frameEx4b f s
  | 0x1A => frameRdid f s
  | 0x1B => frameRdsfdp f s
  | 0x1C => frameRsten f s
  | 0x1D => frameRst f s
  | 0x1E => frameDp f s
  | 0x1F => frameRes f s
  | 0x20 => mailbox op 0x20 f s
  | 0x21 => mailbox op 0x21 f s
  | _ => takeFrame op 0 f id s

/-- An address-first frame: served in the arming opcode's span on an armed port, else as whatever opcode the lanes
spell (R53). -/
def contReadFrame (mailbox : Nat → Nat → Frame → State → State) (f : Frame) (s : State) : State :=
  match (s.port f.port).armed with
  | some op => takeFrame op (standardShape op) { f with laneAddr := f.addr, laneMode := f.mode } id s
  | none => frameOf mailbox f.lead.toNat f s

/-- RDY low beyond HPC_RDY_TMO: RDY rises and the rest of the frame is fill (R39). -/
def execRdyTimeout (h : Host24) (s : State) :=
  done (match (s.port h).frame with
    | some fr => if fr.waiting = .rdy then s.timeoutFrame h fr else s
    | none => s)

/-- READY still 0 after HPC_RDY_TMO: a status byte with ERR, then fill (R41). -/
def execNativeTimeout (h : Host24) (s : State) :=
  done (match (s.port h).frame with
    | some fr => if fr.waiting = .native then s.timeoutFrame h fr else s
    | none => s)

/-- The reads that a host waited for leave the queues. -/
def State.dropDemand (s : State) (h : Host24) : State :=
  { s with chans := s.chans.map fun c => { c with queue := c.queue.filter fun q => !(q.host = h.val && q.kind = .demand) } }

/-- `n` further bytes are in the line buffer: a waiting frame goes on (R37, R41). -/
def execLineBufferFilled (h : Host24) (n : Nat) (s : State) :=
  done (match (s.port h).frame with
    | some fr => if fr.waiting = .none then s
        else (s.dropDemand h).serve h (s.portTt h) (readFuel fr.left) n { fr with waiting := .none }
    | none => s)

/-- A prefetch fill ends: valid once the page CRC has matched, discarded when no copy gives a matching page (R106). The
fill is a delivery for the host's tap (R184). -/
def execPrefetchFillDone (h : Host24) (crcOk : Bool) (s : State) :=
  done (match (s.port h).prefetch with
    | some pf =>
      if pf.valid then s
      else if crcOk then (s.modPort h fun p => { p with prefetch := some { pf with valid := true } }).tapDelivery h (pf.vpage * 4096) 4096
      else s.modPort h Port.dropPrefetch
    | none => s)

/-! ## Folds (R143, R149) -/

def mkReloc (s : State) (h : Nat) (e : Nat) (cls : Nat) (fold waitedOn : Bool) : Reloc :=
  { slot := 0, host := h, extent := e, cls, fold, startWseq := 0, waitedOn, queuedAt := s.timeBase.toNat, overdue := false, draining := none }

def State.queueReloc (s : State) (r : Reloc) : State :=
  if (s.plc.queued ++ s.plc.relocs).any fun q => q.host = r.host && q.extent = r.extent && q.fold == r.fold && q.cls = r.cls then s
  else s.modPlc fun p => { p with queued := p.queued ++ [r] }

/-- A fold is queued when an extent's index entries exceed one eighth of its pages, and for the extent with the oldest
entries while less than a quarter of the journal area or index is free (R143). -/
def State.queueFolds (s : State) : State :=
  let s1 := s.allExtents.foldl (fun st he =>
    let n := (s.plc.journal.filter fun x => x.host = he.1.val && x.extent = he.2.index).length
    if he.2.pages < 8 * n then st.queueReloc (mkReloc s he.1.val he.2.index 2 true false) else st) s
  if permyriad (journalPagesTotal s - journalPagesUsed s) (journalPagesTotal s) < 2500 ∨
      permyriad (indexTotal - indexUsed s) indexTotal < 2500 then
    match s.plc.journal with
    | x :: _ => s1.queueReloc (mkReloc s x.host x.extent 2 true false)
    | [] => s1
  else s1

/-- Every required destination of the pending write is settled: it lands and WIP clears, or it is unrecoverable
(R145, R147). -/
def State.writeDurable (s : State) (h : Host24) : State :=
  match (s.port h).pending with
  | none => s
  | some w =>
    if !w.settled then s
    else if w.lands then
      let s1 := w.pages.foldl (fun st q => st.landPage h w q.1 q.2) s
      ((s1.modPort h fun p => { p with wip := false, pending := none }).dropWriteRequests h).queueFolds.checkSteady
    else (s.unrecoverable h w 0x0608).dropWriteRequests h

def execWriteDurable (h : Host24) (s : State) := done (s.writeDurable h)

end Sys2Proof.Machine
end

