-- ==== Sys2Proof/Machine/FlashCommands.lean ====
section
/-! DEFINITION. The meanings of the flash-channel commands (chapter 4). -/
namespace Sys2Proof.Machine

/-! ## Discovery (R94 to R97) -/

def labelMagic : Nat := 0x4C44524B
/-- A label with its check word whole (R96). -/
def labelValid (l : Bytes) : Bool := u32 l 0 = labelMagic && u16 l 4 = 1 && u32 l 28 = crc32c (l.take 28)
def labelMine (s : State) (c : Chan) (k : Sel) (l : Bytes) : Bool :=
  u8 l 7 = c.val && u8 l 8 = k.val && u64 l 10 = s.plc.poolId.toNat && s.plc.poolId ≠ 0

/-- The descriptor in force for a select. -/
def State.descOf (s : State) (c : Chan) (k : Sel) : SelDesc := ((s.chan c).activeBell.getD (factoryBell c.val)).desc k.val

/-- Where discovery leaves a select (R94). -/
def discoverState (s : State) (c : Chan) (k : Sel) (a : DeviceAnswers) : SelState :=
  let d := s.descOf c k
  if d.cls = 3 then .absent
  else if a.idBytes.all (· = 0) || a.idBytes.all (· = 0xFF) then .absent
  else if !d.idBytes.isEmpty && field a.idBytes 0 d.idBytes.length ≠ d.idBytes then .mismatch
  else if d.cls ≠ 2 && !a.sfdp then (if d.cls = 0 then .absent else .mismatch)
  else if d.densityMbit ≠ 0 && a.sfdp && a.densityMbit ≠ d.densityMbit then .mismatch
  else if d.cls ≠ 2 && !a.sfdpComplete then .mismatch
  else if a.label ≠ a.label2 then .mismatch
  else if (s.selAt (selIndex c.val k.val)).admitWord ≠ 0 then .formatting
  else if a.label.all (· = 0xFF) then .unformatted
  else if labelValid a.label then (if labelMine s c k a.label then .ready else .foreign)
  else .unformatted

/-- Discovery of one select (R94); it writes to no device. -/
def execSelectDiscovery (c : Chan) (k : Sel) (a : DeviceAnswers) (s : State) :=
  done (
    let ch := s.chan c
    if ch.parked then s.modSel c k fun sl => { sl with state := .parked }
    else if (ch.sels.get k).state = .failed then s
    else
      let d := s.descOf c k
      let st := discoverState s c k a
      let nand := d.cls = 2
      let dens := if nand then d.densityMbit else a.densityMbit
      let s1 := s.modSel c k fun sl => { (sl.loadDesc d) with
        state := st, nand, densityMbit := dens, idBytes := a.idBytes, addr4 := !nand && (st = .ready || st = .unformatted || st = .foreign)
        busy := none, timeouts := 0 }
      if st = .ready then s1.raise 0x0410 srcFCC (p8 c.val ++ p8 k.val ++ p32 dens)
      else s1.raise 0x0411 srcFCC (p8 c.val ++ p8 k.val ++ p8 st.code))

/-! ## Channel commands (R122, R123) -/

def State.chanResult (s : State) (c : Chan) (cmd res : Nat) : State :=
  s.modChan c fun ch => { ch with lastCmd := cmd, lastResult := res }

/-- Extents with a valid copy on select `i`. -/
def State.copiesOn (s : State) (i : Nat) : List (Host24 × Extent) := s.allExtents.filter fun he => holds he.2 i


/-- The pool can take every copy of a select elsewhere. -/
def State.canRetire (s : State) (i : Nat) : Bool :=
  (s.copiesOn i).all fun he =>
    ((s.candidates (s.committedTt he.1) he.1.val he.2.pinned he.2.writable).any fun j =>
      j ≠ i && (s.findRun j he.2.pages).isSome && !(he.2.copies.any fun l => l.index ≠ i && l.chan = j / 4))

def State.retireSelect (s : State) (c : Chan) (k : Sel) : State :=
  (
    let i := selIndex c.val k.val
    if (s.selAt i).state ≠ .ready then s.chanResult c 1 2
    else if !s.canRetire i then s.chanResult c 1 3
    else
      let s1 := (s.modSel c k fun sl => { sl with state := .retiring }).chanResult c 1 1
      (s1.copiesOn i).foldl (fun st he => st.queueReloc (mkReloc st he.1.val he.2.index 2 false true)) s1)
def execRetire (c : Chan) (k : Sel) (s : State) := done (s.retireSelect c k)

/-- A RETIRING select with no copy, journal page or shadow left is RETIRED. -/
def execRetireComplete (c : Chan) (k : Sel) (s : State) :=
  done (
    let i := selIndex c.val k.val
    if (s.selAt i).state = .retiring && (s.usedRuns i).isEmpty &&
        !((s.plc.journal ++ s.plc.shadows).any fun x => x.sel0 = i || (x.two && x.sel1 = i)) then
      (s.modSel c k fun sl => { sl with state := .retired }).chanResult c 1 0
    else s)

def State.park (s : State) (c : Chan) : State :=
  (
    let ch := s.chan c
    if all4.any fun k => (ch.sels.get k).state = .ready || (ch.sels.get k).state = .retiring then s.chanResult c 2 2
    else
      ((s.modChan c fun ch => { ch with
        parked := true, pwrenFalling := true, queue := [], running := none
        sels := ch.sels.map fun sl => { sl with state := .parked, busy := none } }).chanResult c 2 0).raise 0x041B srcFCC
          (p8 c.val ++ p8 0))
def execPark (c : Chan) (s : State) := done (s.park c)

/-- UNPARK releases park; discovery then runs on every select, a FAILED one included (R109). -/
def State.unpark (s : State) (c : Chan) : State :=
  (
    if !(s.chan c).parked then s.chanResult c 3 2
    else
      ((s.modChan c fun ch => { ch with
        parked := false, pwren := true, pwrenFalling := false
        sels := ch.sels.map fun sl => { sl with state := if sl.admitWord ≠ 0 then .formatting else .absent } }).chanResult c 3 0).raise
          0x041B srcFCC (p8 c.val ++ p8 1))
def execUnpark (c : Chan) (s : State) := done (s.unpark c)

/-- 1 ms after a PARK the supply switch goes off (R499). -/
def execFcPwrenDrivenLow (c : Chan) (s : State) :=
  done (if (s.chan c).pwrenFalling && (s.chan c).parked then
    s.modChan c fun ch => { ch with pwren := false, pwrenFalling := false } else s)

/-- The pages of a select are erased. -/
def Placement.eraseSelect (p : Placement) (i : Nat) : Placement :=
  { p with flash := p.flash.eraseN (flashKey i 0) (2 ^ 24 * pageSize)
           spare := p.spare.filter fun x => x.1 / 2 ^ 24 ≠ i }

/-- ADMIT: scan, erase, and from then on labelling (steps 1 to 4 of R123), also resumed from the recorded step. -/
def State.admitSel (s : State) (c : Chan) (k : Sel) (factoryBad : List Nat) : State :=
  (
    let i := selIndex c.val k.val
    let sl := s.selAt i
    let fresh := sl.state = .unformatted || sl.state = .foreign || sl.state = .retired
    if fresh || (sl.state = .formatting && sl.admitWord ≤ 2) then
      let scan := fresh || sl.admitWord ≤ 1
      let bad := if scan then (if sl.nand then sortNats factoryBad else []) else sl.badBlocks
      ((s.modSel c k fun sl => { sl with
        state := .formatting, admitWord := 3, badBlocks := bad, scrubAsked := []
        formatSeq := if scan then sl.formatSeq + 1 else sl.formatSeq }).modPlc (·.eraseSelect i)).chanResult c 4 1
    else s.chanResult c 4 2)
def execAdmitSelect (c : Chan) (k : Sel) (factoryBad : List Nat) (s : State) := done (s.admitSel c k factoryBad)

/-- R96, R396: POOL_ID is drawn, after a reseed, before the first label of all is written; without bytes no label is written. -/
def State.ensurePool (s : State) : Bool × State :=
  if s.plc.poolId ≠ 0 then (true, s)
  else match s.draw 8 true conPool with
    | (some out, t) => (true, { t with plc := { t.plc with poolId := BitVec.ofNat 64 (leNat out) } })
    | (none, t) => (false, t)

/-- The label is written and read back (step 5). A NAND device with a bad block 0 gets none. -/
def execAdmitComplete (c : Chan) (k : Sel) (labelOk : Bool) (s : State) :=
  done (
    let sl := s.selAt (selIndex c.val k.val)
    if sl.state = .formatting && sl.admitWord = 3 then
      if sl.nand && sl.badBlocks.contains 0 then (s.modSel c k fun sl => { sl with admitWord := 0 }).failSelect c k 3
      else match s.ensurePool with
        | (false, t) => t
        | (true, t) =>
          if !labelOk then (t.modSel c k fun sl => { sl with admitWord := 0 }).failSelect c k 3
          else ((t.modSel c k fun sl => { sl with state := .ready, admitWord := 0 }).chanResult c 4 0).raise 0x0410 srcFCC
            (p8 c.val ++ p8 k.val ++ p32 sl.densityMbit)
    else s)

/-! ## Transfers (R114 to R116) -/

def State.slotNow (s : State) : Nat := s.timeBase.toNat / 2 % 64

/-- The order of background classes within row 7: that of Table 12.5; DEDUCED: class 2 at its rank 4, class 1 at rank 8. -/
def bgOrder (cls : Nat) : Nat :=
  match cls with
  | 7 => 1 | 3 => 2 | 4 => 3 | 2 => 4 | 0 => 5 | 6 => 6 | 5 => 7 | _ => 8

/-- The row of Table 4.14 for a request in a slot, with its order within the row; none while it waits for a slot. -/
def reqRow (w : Nat × Nat) (lastGuest : Nat) (r : Request) : Option (Nat × Nat) :=
  match r.kind with
  | .background cls => if slotBg w then some (7, bgOrder cls) else none
  | k =>
    match rankOf w r.host with
    | some q => if k = .demand then some (q + 1, 0) else some (5, q)
    | none => if slotGuest w r.host then some (6, (r.host + 23 - lastGuest) % 24) else none

/-- A request may start: its select serves the pool and has nothing outstanding. -/
def Channel.startable (ch : Channel) (r : Request) : Bool :=
  match ch.sels.toList[r.sel]? with
  | some sl => sl.state.servesReads && sl.busy.isNone
  | none => false

/-- A select programs or erases, or its channel sends it one. -/
def State.writing (s : State) (i : Nat) : Bool :=
  let w := fun r : Request => (r.op = .program || r.op = .erase)
  (s.selAt i).busy.elim false w || (if hc : i / 4 < 24 then (s.chan ⟨i / 4, hc⟩).running.elim false fun r => r.sel = i % 4 && w r else false)

/-- A request may start now: R138 keeps one side of a pair free of programs and erases. -/
def State.mayStart (s : State) (c : Chan) (r : Request) : Bool :=
  (s.chan c).startable r && !((r.op = .program || r.op = .erase) && (s.pairPartner (selIndex c.val r.sel)).elim false s.writing)

/-- R101, R115: by row, then by the order within it; a cut transfer before a new one of the same class and host. -/
def before (a b : (Nat × Nat) × Request) : Bool :=
  a.1.1 < b.1.1 || (a.1.1 = b.1.1 && (a.1.2 < b.1.2 || (a.1.2 = b.1.2 && a.2.wasCut && !b.2.wasCut)))

/-- The request that the slot and the service order put first; earlier in the queue on a tie. -/
def Channel.next (ch : Channel) (w : Nat × Nat) (ok : Request → Bool) : Option ((Nat × Nat) × Request) :=
  (ch.queue.filterMap fun r => if ok r then (reqRow w ch.lastGuest r).map fun x => (x, r) else none).foldl
    (fun acc x => match acc with
      | none => some x
      | some y => if before x y then some x else some y) none

/-- The data phase of a program, erase or page read is over: the device works on it. -/
def Channel.retireRunning (ch : Channel) : Channel :=
  match ch.running with
  | some r =>
    if r.op = .read then ch
    else { ch with running := none, rdyLevel := if ch.rdyEn then false else ch.rdyLevel
                   sels := if h : r.sel < 4 then updV ch.sels ⟨r.sel, h⟩ (fun sl => { sl with busy := some r }) else ch.sels }
  | none => ch

/-- Key of a data page in the spare-record table. -/
def spareKey (i d : Nat) : Nat := i * 2 ^ 24 + d
def Placement.spareUsed (p : Placement) (i d : Nat) : Nat := ((p.spare.find? fun x => x.1 = spareKey i d).elim 0 fun x => x.2.used)
def Placement.setSpare (p : Placement) (i d : Nat) (n : Nat) : Placement :=
  { p with spare := (spareKey i d, { used := n, torn := false }) :: p.spare.filter fun x => x.1 ≠ spareKey i d }
/-- R146: the spare page of a block is refreshed: record 0 for each page ever written. -/
def Placement.refresh (p : Placement) (i b : Nat) : Placement :=
  { p with spare := p.spare.map fun x => if x.1 / 2 ^ 24 = i && x.1 % 2 ^ 24 / 15 = b then (x.1, { x.2 with used := 1 }) else x }

/-- TRANSFER_START: the next request runs; a program of a full spare area is refused and the page refreshed first
(R104, R146). -/
def execTransferStart (c : Chan) (s : State) :=
  done (
    let s0 := s.modChan c Channel.retireRunning
    let ch := s0.chan c
    if !ch.en || ch.parked || ch.running.isSome || s.power = .p3 || s.power = .p4 then s0
    else
      let w := (ch.activeBell.getD (factoryBell c.val)).slotAt s.slotNow
      match ch.next w (s0.mayStart c) with
      | none => s0
      | some ((row, _), r) =>
        let i := selIndex c.val r.sel
        let nor := !(s0.selAt i).nand
        let full := nor && (r.op = .program || r.op = .erase) && (r.dest = some .copy0 || r.dest = some .copy1 || r.dest = some .target) &&
          32 ≤ s0.plc.spareUsed i r.dpage
        let s1 := if full then (s0.raise 0x041C srcFCC (p8 c.val ++ p8 r.sel ++ p32 r.dpage)).modPlc (·.refresh i (r.dpage / 15)) else s0
        s1.modChan c fun ch => { ch with
          queue := ch.queue.erase r, running := some { r with op := if r.op = .read && !nor then .pageRead else r.op }
          lastGuest := if row = 6 then r.host else ch.lastGuest, stale := false })

/-- TRANSFER_CUT: a request of a higher row cuts the running transfer at a cut point (R100, R101, R115). -/
def execTransferCut (c : Chan) (bytes : Nat) (s : State) :=
  done (
    let ch := s.chan c
    let w := (ch.activeBell.getD (factoryBell c.val)).slotAt s.slotNow
    match ch.running, ch.next w (s.mayStart c) with
    | some r, some ((row, _), _) =>
      let mine := ((reqRow w ch.lastGuest r).elim 8 Prod.fst)
      if row < mine then
        let demand := r.kind = .demand
        let part := r.op = .program && !(s.selAt (selIndex c.val r.sel)).nand && 0 < bytes
        s.modChan c fun ch => { ch with
          running := none
          queue := { r with wasCut := true, bytesDone := if demand then 0 else r.bytesDone + bytes } :: ch.queue
          sels := if h : r.sel < 4 then (if part then updV ch.sels ⟨r.sel, h⟩ (fun sl => { sl with busy := some { r with dest := none } }) else ch.sels) else ch.sels }
      else s
    | _, _ => s)

/-- BELL_SLOT_BOUNDARY: every channel's slot follows the time base (R114). -/
def execBellSlotBoundary (s : State) :=
  done { s with chans := s.chans.map fun ch => { ch with slot := s.slotNow } }

/-! ## Polls and completions (R102, R108) -/

def Channel.busySels (ch : Channel) : List Nat :=
  (List.range 4).filter fun k => (ch.sels.toList[k]?).elim false fun sl => sl.busy.isSome

def execStatusPoll (c : Chan) (s : State) :=
  done (s.modChan c fun ch0 =>
    let ch := ch0.retireRunning
    if ch.rdyEn && !ch.ignoreRdy && !ch.rdyLevel then ch else { ch with polled := ch.busySels })

def execFcRdyRise (c : Chan) (s : State) :=
  done (s.modChan c fun ch0 =>
    let ch := ch0.retireRunning
    { ch with rdyLevel := true, polled := if ch.rdyEn then ch.busySels else ch.polled })

def State.fcRdyTimeout (s : State) (c : Chan) : State :=
  (
    let ch := s.chan c
    if ch.rdyEn && !ch.ignoreRdy then
      (s.modChan c fun ch => { ch with rdyLevel := false, ignoreRdy := true, stat := ch.stat ||| 1 }).raise 0x0412 srcFCC (p8 c.val)
    else s)
def execFcRdyTimeout (c : Chan) (s : State) := done (s.fcRdyTimeout c)

def Channel.setStat (ch : Channel) (b : Nat) : Channel := { ch with stat := ch.stat ||| BitVec.ofNat 7 (2 ^ b) }

/-- The operation of a select that has been sent to the device. -/
def State.outstanding (s : State) (c : Chan) (k : Sel) : Option Request := ((s.modChan c Channel.retireRunning).chan c |>.sels.get k).busy

/-- Mark a destination of the host's pending write. -/
def State.markDest (s : State) (h : Host24) (v : Nat) (k : DestKind) (st : DestState) : State :=
  s.modPort h fun p => { p with pending := p.pending.map fun w => { w with
    dests := w.dests.map fun d => if d.vpage = v && d.kind = k && d.state = .waiting then { d with state := st } else d } }

/-- A journal or shadow page that failed to program is repeated on another select (R147). -/
def State.moveDest (s : State) (h : Host24) (v : Nat) (k : DestKind) (bad : Nat) : State :=
  let cands := (if k = .shadow0 || k = .shadow1 then
      ((s.findExtent h v).elim s.nandReady fun e => if e.pinned then s.shadowSelects else s.nandReady) else s.nandReady)
  let others := cands.filter (· ≠ bad)
  match s.pickSelects (if others.isEmpty then cands else others) false with
  | i :: _ =>
    let mv (d : Dest) : Dest := if d.vpage = v && d.kind = k && d.state = .waiting then { d with select := i } else d
    let s1 : State := { s with free := s.free + 1 }
    let s2 := s1.modPort h fun p => { p with pending := p.pending.map fun w => { w with dests := w.dests.map mv } }
    s2.issueDests h
  | [] => s.markDest h v k .failed

/-- A page reaches an in-place copy: the device page, then its spare record (R142). -/
def State.storeCopy (s : State) (h : Host24) (i d v : Nat) : State :=
  match (s.port h).pending.bind (fun w => w.pages.find? fun q => q.1 = v) with
  | some q => s.modPlc fun p => (p.storePage i d q.2).setSpare i d (p.spareUsed i d + 1)
  | none => s

/-- The requests of a select leave its channel. -/
def Channel.dropSelect (ch : Channel) (k : Nat) : Channel :=
  { ch with queue := ch.queue.filter fun r => r.sel ≠ k, running := ch.running.filter fun r => r.sel ≠ k }

/-- The host's write waits no longer for a failed select: its copy there is not required any more, and a journal or shadow page
is repeated on another select (R147). -/
def State.moveOff (s : State) (h : Host24) (i : Nat) : State :=
  let ds := (s.port h).pending.elim [] fun w => w.dests.filter fun d => d.select = i && d.state = .waiting
  (ds.foldl (fun st d =>
    if d.kind = .copy0 || d.kind = .copy1 || d.kind = .target then st.markDest h d.vpage d.kind .failed
    else st.moveDest h d.vpage d.kind i) s).issueDests h

/-- A select becomes FAILED and is never addressed again until UNPARK (R109). -/
def State.failDevice (s : State) (c : Chan) (k : Sel) (cause : Nat) : State :=
  forEach all24 (fun h t => t.moveOff h (selIndex c.val k.val)) ((s.failSelect c k cause).modChan c (·.dropSelect k.val))

/-- 16 page errors within 24 hours make a select FAILED (R109). -/
def State.pageError (s : State) (c : Chan) (k : Sel) : State :=
  let now := s.timeBase.toNat
  let s1 := s.modSel c k fun sl => { sl with pageErrors := now :: sl.pageErrors.filter fun t => now < t + 86400000000 }
  if 16 ≤ (s1.selAt (selIndex c.val k.val)).pageErrors.length then s1.failDevice c k 2 else s1

/-- A block joins the bad-block list; a list that is full, or a NAND reserve that is used up, fails the select. -/
def State.listBlock (s : State) (c : Chan) (k : Sel) (b : Nat) : State :=
  let i := selIndex c.val k.val
  let sl := s.selAt i
  let lim := if sl.nand then nandReserve (nandBlocks sl.densityMbit sl.pagesPerBlock) else 2048
  if sl.badBlocks.contains b then s
  else if min 2048 lim < sl.badBlocks.length + 1 then s.failDevice c k 3
  else s.modSel c k fun sl => { sl with badBlocks := sl.badBlocks ++ [b] }

/-- Copies that lie under a listed NOR block lose V (R159). -/
def State.dropUnderBlock (s : State) (i b : Nat) : State :=
  s.allExtents.foldl (fun st he =>
    st.dropCopies he.1 he.2 (fun l => l.index = i && 1 ≤ b && overlaps l.dpage he.2.pages (15 * (b - 1)) 15) false) s

/-- A failed program or erase (Table 4.8, R147). -/
def State.opFailed (s : State) (c : Chan) (k : Sel) (r : Request) (erase : Bool) : State :=
  let i := selIndex c.val k.val
  let sl := s.selAt i
  let b := sl.blockOf r.dpage
  let s1 := (s.modChan c (·.setStat (if erase then 5 else 4))).raise (if erase then 0x0414 else 0x0413) srcFCC
    (p8 c.val ++ p8 k.val ++ p32 b)
  let s2 := s1.listBlock c k b
  let s3 := if sl.nand then s2 else s2.dropUnderBlock i b
  match r.dest with
  | some d =>
    if (s3.selAt i).state = .failed then s3
    else if hh : r.host < 24 then
      if sl.nand || d = .shadow0 || d = .shadow1 then s3.moveDest ⟨r.host, hh⟩ r.vpage d i
      else (s3.markDest ⟨r.host, hh⟩ r.vpage d .failed).issueDests ⟨r.host, hh⟩
    else s3
  | none => s3

def State.requeue (s : State) (c : Chan) (r : Request) : State :=
  s.modChan c fun ch => { ch with queue := { r with retried := true } :: ch.queue }

/-- The device status shows that an operation has completed, well or not (R102, Table 4.8). -/
def State.opDone (s : State) (c : Chan) (k : Sel) (st : DevStatus) : State :=
  let s0 := s.modChan c Channel.retireRunning
  match (s0.chan c |>.sels.get k).busy with
  | none => s0
  | some r =>
    let i := selIndex c.val k.val
    let s1 := s0.modSel c k fun sl => { sl with busy := none, timeouts := 0 }
    match st with
    | .ok =>
      (match r.dest with
        | some d =>
          if hh : r.host < 24 then
            let h : Host24 := ⟨r.host, hh⟩
            let s2 := if d = .copy0 || d = .copy1 || d = .target then s1.storeCopy h i r.dpage r.vpage else s1
            (s2.markDest h r.vpage d .durable).issueDests h
          else s1
        | none => s1)
    | .programFail => s1.opFailed c k r false
    | .eraseFail => s1.opFailed c k r true
    | .uncorrectable =>
      if !r.retried then s1.requeue c r
      else (((s1.modChan c (·.setStat 3)).modSel c k fun sl => { sl with eccCnt := sl.eccCnt.inc }).raise 0x0415 srcFCC
        (p8 c.val ++ p8 k.val ++ p32 r.dpage)).pageError c k
    | .atThreshold =>
      let b := (s1.selAt i).blockOf r.dpage
      if (s1.selAt i).scrubAsked.contains b then s1
      else (s1.modSel c k fun sl => { sl with scrubAsked := sl.scrubAsked ++ [b] }).raise 0x0416 srcFCC (p8 c.val ++ p8 k.val ++ p32 b)
    | .parity q =>
      let s2 := (s1.modChan c (·.setStat 6)).raise 0x041D srcFCC (p8 c.val ++ p8 q.val)
      if r.retried then s2 else s2.requeue c r

def execDeviceOperationComplete (c : Chan) (k : Sel) (st : DevStatus) (s : State) := done (s.opDone c k st)

/-- A whole-page read completes and its CRC is checked: one retry, then a page error (R106). -/
def execPageReadDone (c : Chan) (k : Sel) (crcOk : Bool) (s : State) :=
  done (
    let ch := s.chan c
    let run := ch.running.filter fun r => r.sel = k.val && (r.op = .read || r.op = .pageRead)
    match run <|> ((ch.sels.get k).busy.filter fun r => r.op = .pageRead) with
    | none => s
    | some r =>
      let s1 := (if run.isSome then s.modChan c fun ch => { ch with running := none }
        else s.modSel c k fun sl => { sl with busy := none }).modSel c k fun sl => { sl with timeouts := 0 }
      if crcOk then s1
      else if !r.retried then s1.requeue c r
      else (((s1.modChan c (·.setStat 2)).modSel c k fun sl => { sl with crcCnt := sl.crcCnt.inc }).raise 0x0417 srcFCC
        (p8 c.val ++ p8 k.val ++ p32 r.dpage)).pageError c k)

/-- The opcode that EV 0x0419 names (Table 4.3a). -/
def opcodeOf (nand : Bool) (op : DevOp) : Nat :=
  match op with
  | .read => if nand then 0x0B else 0xEE
  | .program => if nand then 0x10 else 0x12
  | .erase => if nand then 0xD8 else 0x21
  | .pageRead => 0x13

/-- No completion in twice the maximum time: reset, retry once, count (Table 4.8, R109). -/
def execCommandTimeout (c : Chan) (k : Sel) (idSame : Bool) (s : State) :=
  done (
    let s0 := s.modChan c Channel.retireRunning
    match (s0.chan c |>.sels.get k).busy with
    | none => s0
    | some r =>
      let i := selIndex c.val k.val
      let s1 := ((s0.modChan c (·.setStat 1)).modSel c k fun sl => { sl with
        tmoCnt := sl.tmoCnt.inc, timeouts := sl.timeouts + 1, busy := none }).raise 0x0419 srcFCC
          (p8 c.val ++ p8 k.val ++ p8 (opcodeOf (s.selAt i).nand r.op))
      if !idSame then s1.failDevice c k 1
      else if 3 ≤ (s1.selAt i).timeouts then s1.failDevice c k 0
      else if !r.retried then s1.requeue c r
      else match r.dest with
        | some d => if hh : r.host < 24 then (s1.markDest ⟨r.host, hh⟩ r.vpage d .failed).issueDests ⟨r.host, hh⟩ else s1
        | none => s1)

/-! ## Bell schedules (R119, R120) -/

/-- Check 7 of Table 4.15. -/
def State.bellCheck7 (s : State) (c : Nat) (b : BellSchedule) : Bool :=
  all24.all fun h =>
    let t := s.committedTt h
    cfgRdyEn t.cfg || cfgNative t.cfg ||
      !((s.extents h).any fun e => e.pinned && e.copies.any fun l => l.chan = c) ||
      (match latency b h.val with | some l => l ≤ t.tNorNs | none => false)

/-- The first failed check of a staged schedule, read already, or 0; `runTime` adds check 8. -/
def State.bellStagedFailed (s : State) (c : Chan) (b : BellSchedule) (runTime : Bool) : Nat :=
  if !bellCheck2 b c.val s.partCode (s.fused c.val) then 2
  else if !bellCheck4 b then 4
  else if !bellCheck5 b (fun h => s.fused h) then 5
  else if !bellCheck6 b then 6
  else if !s.bellCheck7 c.val b then 7
  else if runTime && !((s.chan c).activeBell.elim true fun cur => bellCheck8 (s.chan c) cur b) then 8
  else 0

/-- FCC_BELL.READY: set only if the inactive bank's schedule passes (R120). -/
def State.bellReadyWrite (s : State) (c : Chan) (v : Bool) : State :=
  (
    if !v then s.modChan c fun ch => { ch with ready := false }
    else match (s.chan c).inactiveBell with
      | none => s.raise 0x0418 srcFCC (p8 c.val ++ p8 1)
      | some b =>
        let k := s.bellStagedFailed c b true
        if k = 0 then s.modChan c fun ch => { ch with ready := true } else s.raise 0x0418 srcFCC (p8 c.val ++ p8 k))
def execFccBellReadyWrite (c : Chan) (v : Bool) (s : State) := done (s.bellReadyWrite c v)

/-- A commit of every named channel at the next cycle boundary if all are READY, else of none (Table 4.10). -/
def State.bellCommit (s : State) (mask : BitVec 24) : State :=
  let named := all24.filter fun c => (mask &&& s.maskBits).getLsbD c.val
  match named.find? fun c => !(s.chan c).ready with
  | some c => s.raise 0x0418 srcFCC (p8 c.val ++ p8 0)
  | none => forEach named (fun c t => t.modChan c fun ch => { ch with commitPending := true }) s

def execFccBellCommit (v : Word) (s : State) := done (s.bellCommit (v.setWidth 24))

def execBellCommitTakeEffect (s : State) :=
  done { s with chans := s.chans.map fun ch => if ch.commitPending then ch.takeBell else ch }

end Sys2Proof.Machine
end

