-- ==== Sys2Proof/Machine/PlacementCommands.lean ====
section
/-! DEFINITION. The commands of the Registrar (chapter 5): relocations, checkpoints, shadow discards, staging waits, the
power-up steps and the placement commands of 0x2600.20. -/
namespace Sys2Proof.Machine

def State.relocOf (s : State) (h : Host24) (e : Nat) : Option Reloc := s.plc.relocs.find? fun r => r.host = h.val && r.extent = e
def State.modReloc (s : State) (h : Host24) (e : Nat) (f : Reloc → Reloc) : State :=
  s.modPlc fun p => { p with relocs := p.relocs.map fun r => if r.host = h.val && r.extent = e then f r else r }

/-! ## Relocation (R151, Table 5.4) -/

/-- PINNED as the extent will need it: as committed, or as a waiting Timetable gives it (R136). -/
def State.wantedPinned (s : State) (h : Host24) (e : Extent) : Bool :=
  match (s.ttOf h).waiting.bind fun t => attrsOf t.reaches e with
  | some a => a.1
  | none => e.pinned

/-- Step 1's choice of a destination (Table 5.2, R137): a free run, tier and role, and not the channel of a copy that stays. -/
def State.targetOk (s : State) (h : Host24) (e : Extent) (t : CopyLoc) (replaces : Nat) (fold : Bool) : Bool :=
  let i := selIndex t.chan.val t.sel.val
  let sl := s.selAt i
  let stay := (if replaces = 0 then [e.copy1] else if replaces = 1 then [e.copy0] else [e.copy0, e.copy1]).filter Loc.valid
  sl.state = .ready && s.runFree i t.dpage.toNat e.pages && stay.all (fun l => l.chan ≠ t.chan.val) &&
    (if fold then sl.nand
     else if s.wantedPinned h e then
       !sl.nand && s.qualifies (s.committedTt h) h.val t.chan.val && s.roleTakes true e.writable i
     else sl.nand || (s.roleTakes false e.writable i &&
       !(List.range 96).any fun j => (s.selAt j).nand && (s.selAt j).state = .ready && (s.findRun j e.pages).isSome))

def freeSlot (rs : List Reloc) : Nat := ((List.range 256).find? fun i => !rs.any fun r => r.slot = i).getD 0

/-- Steps 1 and 2: the record, the entry with TARGET, and START_WSEQ. At most 8 run; in Steady mode only rebuilds and folds,
one at a time (R162). -/
def execRelocationStart (h : Host24) (e : Nat) (target : CopyLoc) (replaces : Fin 3) (fold : Bool) (s : State) :=
  done (match s.extentAt h e with
    | none => s
    | some x =>
      let q := s.plc.queued.find? fun r => r.host = h.val && r.extent = e && r.fold == fold
      let cls := q.elim 2 Reloc.cls
      let okPos := if replaces = 0 then x.copy0.valid else if replaces = 1 then x.copy1.valid else x.copies.length < 2
      if x.state = .lost || x.moving || (s.relocOf h e).isSome || 8 ≤ s.plc.relocs.length || !okPos then s
      else if s.plc.steady && (!(fold || cls = 3) || !s.plc.relocs.isEmpty) then s
      else if !s.targetOk h x target replaces.val fold then s
      else
        let l : Loc := { valid := true, chan := target.chan.val, sel := target.sel.val, dpage := target.dpage.toNat }
        let slot := freeSlot s.plc.relocs
        let r := { q.getD (mkReloc s h.val e cls fold false) with slot := slot, startWseq := s.plc.wseq.toNat }
        let s1 := s.modPlc fun p => { p with
          relocs := p.relocs ++ [r], queued := p.queued.filter fun y => !(y.host = h.val && y.extent = e && y.fold == fold) }
        let y := { x with target := l, rrec := slot, replaces := replaces.val, copied := 0, moving := true }
        s1.modExtent h e fun _ => { y with journal := s1.wantsJournal y })

/-- The content that step 3 copies: the journal's or a valid copy's, never a shadow's. -/
def State.copySource (s : State) (h : Host24) (x : Extent) (v : Nat) : Option Bytes :=
  if s.plc.isLost h.val v then none
  else
    match s.plc.journal.find? (fun y => y.host = h.val && y.vpage = v) with
    | some y => some (contentBytes y.data)
    | none => (s.readCopy x).map fun l => s.devPage l.index (l.dpage + (v - x.vbase))

/-- Step 3 for the next page: durable on the TARGET, COPIED advances; a page that nothing yields whole is lost and written
erased. A write that waited for this page goes on. -/
def execRelocationPageCopied (h : Host24) (e : Nat) (s : State) :=
  done (match s.extentAt h e, s.relocOf h e with
    | some x, some r =>
      if !x.moving || x.pages ≤ x.copied || r.draining.isSome || !(s.selAt x.target.index).state.servesReads then s
      else
        let v := x.vbase + x.copied
        let i := x.target.index
        let d := x.target.dpage + x.copied
        let src := s.copySource h x v
        let s1 := if src.isNone && !s.plc.isLost h.val v then
          (s.modPlc fun p => { p with lost := p.lost ++ [(h.val, v, p.wseq.toNat)] }).appendRegistry else s
        let s2 := s1.modPlc fun p =>
          let p1 := p.storePage i d src
          if (s.selAt i).nand then p1 else p1.setSpare i d 1
        let s3 := s2.modExtent h e fun y => { y with copied := y.copied + 1 }
        s3.resumeWrite h
    | _, _ => s)

/-- TARGET takes its position (Table 5.4, step 5). -/
def Extent.place (x : Extent) : Extent :=
  if x.replaces = 0 then { x with copy0 := x.target }
  else if x.replaces = 1 then { x with copy1 := x.target }
  else if x.copy0.valid then { x with copy1 := x.target } else { x with copy0 := x.target }

/-- The location that the commit frees. -/
def Extent.replaced (x : Extent) : Loc := if x.replaces = 0 then x.copy0 else if x.replaces = 1 then x.copy1 else {}

/-- Steps 4 to 6: every page copied and no write pending, the mapping changes in one beat; held writes go on, and what a
Timetable waited for is judged again. -/
def execRelocationCommit (h : Host24) (e : Nat) (s : State) :=
  done (match s.extentAt h e, s.relocOf h e with
    | some x, some r =>
      let pend := (s.port h).pending.elim false fun w => !w.held && w.pages.any fun q => x.contains q.1
      if !x.moving || x.copied < x.pages || pend || r.draining.isSome then s
      else
        let nand := (s.selAt x.target.index).nand
        let mark := if nand then r.startWseq else s.plc.wseq.toNat
        let y0 := { x.place with target := {}, moving := false, copied := 0, gen := x.gen + 1, mark := mark }
        let whole := x.need ≤ y0.copies.length
        let y1 := { y0 with degraded := x.degraded && !whole, byFailure := x.byFailure && !whole }
        let y := { y1 with journal := s.wantsJournal y1 }
        let s1 := s.modExtent h e fun _ => y
        let s2 := s1.modPlc fun p => { p with
          journal := p.journal.filter fun j => !(j.host = h.val && j.extent = e && j.wseq ≤ mark) }
        let s3 := (s2.appendRegistry.bumpEpoch h).modReloc h e fun r => { r with draining := some x.replaced }
        let s4 := s3.raiseIf (x.degraded && whole) 0x0607 srcPLC (p8 h.val ++ p16 e)
        ((s4.resumeWrite h).settleTt h).checkSteady
    | _, _ => s)

/-- Step 7: nothing reads through the old entry any more (R152). -/
def execRelocationDrainDone (h : Host24) (e : Nat) (s : State) :=
  done (match s.relocOf h e with
    | some r =>
      if r.draining.isNone then s
      else (((s.modPlc fun p => { p with relocs := p.relocs.filter fun q => !(q.host = h.val && q.extent = e) }).modExtent h e
        fun x => { x with rrec := 0 }).checkSteady)
    | none => s)

/-- The deadline of a relocation that something waits on has passed (R153). -/
def execRelocationDeadline (h : Host24) (e : Nat) (s : State) :=
  let late := fun r : Reloc => if r.host = h.val && r.extent = e && r.waitedOn && r.draining.isNone then { r with overdue := true } else r
  done (s.modPlc fun p => { p with relocs := p.relocs.map late, queued := p.queued.map late }).checkSteady

/-! ## The registry and shadows -/

/-- Both copies of the unused checkpoint slot are durable, and the root block switches (R154). -/
def execCheckpointDone (s : State) :=
  done (s.modPlc fun p =>
    let r := p.registry
    if r.ckptRunning then { p with registry := { r with
      ckptSlot := !r.ckptSlot, rootSeq := r.rootSeq + 1, ckptRunning := false, logUsed := r.logUsed - r.ckptCover } }
    else p)

/-- PLC_DISCARD is write-1-to-set (Table 5.8). -/
def State.plcDiscardWrite (s : State) (v : Word) : State :=
  (s.modPlc fun p => { p with discard := p.discard ||| (v.setWidth 24 &&& s.maskBits) })
def execPlcDiscardWrite (v : Word) (s : State) := done (s.plcDiscardWrite v)

/-- SHADOW_DISCARD is recorded and the host's uncommitted shadows are free (R149). -/
def execShadowDiscardDone (h : Host24) (s : State) :=
  done (if s.plc.discard.getLsbD h.val then
    (s.modPlc fun p => { p with
      shadows := p.shadows.filter fun x => x.host ≠ h.val || x.committed
      discard := BitVec24.put p.discard h false }).appendRegistry.checkSteady
  else s)

/-- STG_WAIT_MS has passed: the write is unrecoverable, with EV 0x0609 (R150). -/
def execStgWaitTimeout (h : Host24) (s : State) :=
  done (match (s.port h).pending with
    | some w => if w.waitsStaging then
        ((s.unrecoverable h w 0x0608).dropWriteRequests h).raise 0x0609 srcPLC (p8 h.val ++ p32 (w.pages.headD (0, none)).1)
      else s
    | none => s)

/-- Folds have freed staging space (R150). -/
def execJournalSpaceAvailable (h : Host24) (s : State) := done (s.resumeWrite h)

/-! ## Power-up (R156 to R158) -/

/-- A torn NOR page: repaired from the other copy, or erased on its only copy (R157). -/
def State.repairTorn (s : State) (t : TornPage) : State :=
  match s.findExtent t.host t.vpage with
  | none => s
  | some e =>
    let (bad, other) := if t.copy1 then (e.copy1, e.copy0) else (e.copy0, e.copy1)
    let o := t.vpage - e.vbase
    if !e.writable || !bad.valid || (s.selAt bad.index).nand then s
    else if other.valid then
      let c := s.devPage other.index (other.dpage + o)
      (s.modPlc fun p => p.storePage bad.index (bad.dpage + o) (some c)).raise 0x060B srcPLC (p8 t.host.val ++ p32 t.vpage)
    else
      (s.modPlc fun p => (p.storePage bad.index (bad.dpage + o) none).setSpare bad.index (bad.dpage + o) 1).raise 0x060A srcPLC
        (p8 t.host.val ++ p32 t.vpage)

/-- The host's Syllabus stands in Trial and has not been reverted (R149). -/
def State.syllabusTrial (s : State) (h : Host24) : Bool :=
  (s.upd.inForce).elim false fun r => r.trial && r.trialHosts.getLsbD h.val

/-- Relocation records are discarded: old mappings stand. -/
def Extent.unmove (x : Extent) : Extent := { x with moving := false, target := {}, copied := 0, rrec := 0 }

/-- Every condition has been clear for 10 s (R161, R162). -/
def State.steadyExit (s : State) : State :=
  let s1 := s.updReasons
  (if s1.plc.steady && reasonBits s1.plc = 0 then
    let secs := (s.timeBase.toNat - s.plc.steadySince) / 1000000
    forEach all24 (fun h t => t.modHpw h (setCause causeSteady))
      ((s1.modPlc fun p => { p with steady := false }).raise 0x0602 srcPLC (p32 secs))
  else s1)
def execSteadyExit (s : State) := done (s.steadyExit)

/-! ## Commands of 0x2600.20 (R164) -/

def State.plcResult (s : State) (cmd res : Nat) : State := s.modPlc fun p => { p with lastCmd := cmd, lastResult := res }

/-- Everything that lies in an extent goes with it. -/
def Placement.forget (p : Placement) (h e : Nat) (has : Nat → Bool) : Placement :=
  { p with
    journal := p.journal.filter fun x => !(x.host = h && x.extent = e)
    shadows := p.shadows.filter fun x => !(x.host = h && x.extent = e)
    lost := p.lost.filter fun x => !(x.1 = h && has x.2.1)
    relocs := p.relocs.filter fun r => !(r.host = h && r.extent = e)
    queued := p.queued.filter fun r => !(r.host = h && r.extent = e) }

def State.releaseExtent (s : State) (h : Host24) (x : Extent) : State :=
  let s1 := s.modPlc fun p => p.forget h.val x.index x.contains
  ((s1.setExtents h ((s1.extents h).filter fun y => y.index ≠ x.index)).appendRegistry.bumpEpoch h).checkSteady

def State.placementRelease (s : State) (h : Host24) (e : Nat) : State :=
  (match s.extentAt h e with
    | some x => if x.dormant || x.staged then (s.releaseExtent h x).plcResult 1 0 else s.plcResult 1 2
    | none => s.plcResult 1 2)
def execPlacementRelease (h : Host24) (e : Nat) (s : State) := done (s.placementRelease h e)

/-- A lost extent returns with every page erased. -/
def State.placementRecreate (s : State) (h : Host24) (e : Nat) : State :=
  (match s.extentAt h e with
    | none => s.plcResult 2 2
    | some x =>
      if x.state ≠ .lost then s.plcResult 2 2
      else match s.choosePlaces (s.committedTt h) h x.pinned x.mirror x.writable x.pages with
        | some (a :: rest) =>
          let s1 := s.modPlc fun p => p.forget h.val x.index x.contains
          let y0 := { x with state := .live, copy0 := a, copy1 := rest.headD {}, target := {}, moving := false, copied := 0
                             degraded := false, byFailure := false, gen := x.gen + 1 }
          let wipe := fun (p : Placement) (l : Loc) => if l.valid then
            { p with flash := p.flash.eraseN (flashKey l.index l.dpage) (x.pages * pageSize) } else p
          let s2 := s1.modPlc fun p => wipe (wipe p y0.copy0) y0.copy1
          let s3 : State := { s2 with free := s2.free + 1 }
          (((s3.modExtent h e fun _ => { y0 with journal := s2.wantsJournal y0 }).appendRegistry.bumpEpoch h).checkSteady).plcResult 2 0
        | _ => s.plcResult 2 3)
def execPlacementRecreate (h : Host24) (e : Nat) (s : State) := done (s.placementRecreate h e)

end Sys2Proof.Machine
end

