-- ==== Sys2Proof/Machine/UpdateOps.lean ====
section
/-! DEFINITION. Updates (chapter 8): the checks of a bundle, building, activation, the roll-forward, confirmation and revert. -/
namespace Sys2Proof.Machine

def State.modUpd (s : State) (f : Update → Update) : State := { s with upd := f s.upd }

/-! ## Refusal causes (R241) and outcomes (Table 8.9) -/

/-- A tamper input is active: not disabled, and at its active level (R508, Table 19.9). -/
def Tmp.active (t : Tmp) (k : Nat) : Bool := !t.cfg.getLsbD (4 * k) && (t.level.getLsbD k != t.cfg.getLsbD (4 * k + 1))
def Tmp.activeBits (t : Tmp) : Nat := ((List.range 8).map fun k => if t.active k then 2 ^ k else 0).sum

/-- 0x2800.0A. -/
def State.refusals (s : State) : Nat :=
  b2n (s.tmp.active 6) + 2 * b2n (s.tmp.active 7) + 4 * b2n (s.pwr.vbakMv < s.upd.vbakMinMv) + 8 * b2n s.upd.lock

def ocOk : Nat := 1
def ocRefusedState : Nat := 2
def ocBadBundle : Nat := 3
def ocBadSyllabus : Nat := 4
def ocItemDigest : Nat := 5
def ocSourceMismatch : Nat := 6
def ocPatchError : Nat := 7
def ocImageRejected : Nat := 8
def ocTableRejected : Nat := 9
def ocNoSpace : Nat := 10
def ocTimeout : Nat := 11
def ocReverted : Nat := 12
def ocDiscarded : Nat := 13
def ocBusy : Nat := 14

def UpdState.code : UpdState → Nat
  | .idle => 0 | .receiving => 1 | .checking => 2 | .staged => 3 | .activating => 4 | .trial => 5 | .reverting => 6

/-! ## The first piece (R239) -/

/-- The Syllabus is sound but for its signature; `recovery` are the terms of R450. -/
def State.sylSound (s : State) (b : Bytes) (recovery : Bool) : Bool :=
  let is := itemsOf b
  let fwOnly := is.length = 1 && is.all Item.isFw
  let seqOk := s.upd.inForce.elim true fun r => newer32 (sylSeq b) r.sylSeq.toNat
  sylHeaderOk b && 0x40 + sylLen b ≤ b.length && 0x40 + sylLen b ≤ bundleLenOf b && (sylPart b = 0 || sylPart b = s.partCode) &&
    (allZero (sylUnit b) || sylUnit b = unitIdBytes) && seqOk && itemTableOk b (fun h => s.fused h) &&
    (!recovery || (is.length = 1 && is.all fun i => i.typ = tyFwFull)) && s.slotForSyllabus (sylKey b) fwOnly

/-- Its verification: reason and level. -/
def State.sylVerify (s : State) (b : Bytes) : Nat × Nat := s.verifySig true (sylKey b) (sylSig b) (some (sylSigned b))

/-- What rejects the first piece: an abort code, or 0; `area` is the room for the bundle. -/
def State.firstPieceFailed (s : State) (b : Bytes) (area : Nat) (recovery : Bool) : Nat :=
  if !bundleHeaderOk b then 0x08000003
  else if area < bundleLenOf b then 0x08000004
  else if s.sylSound b recovery && (s.sylVerify b).1 = Lms.rPass then 0 else 0x08000003

/-- The event of that verification, where it was made (R221). -/
def State.sylSigEvent (s : State) (b : Bytes) (area : Nat) (recovery : Bool) : State :=
  if bundleHeaderOk b && bundleLenOf b ≤ area && s.sylSound b recovery then s.sigEvent (sylKey b) (s.sylVerify b).1 (s.sylVerify b).2 else s

/-! ## STAGED extents (R126, step 6 of R242) -/

/-- Every STAGED extent is released (Table 8.8). -/
def State.releaseStaged (s : State) : State :=
  forEach all24 (fun h st => ((st.extents h).filter Extent.staged).foldl (fun t e => t.releaseExtent h e) st) s

/-- The extents of a slot's run are released. -/
def State.releaseRun (s : State) (h : Host24) (lo n : Nat) : State :=
  ((s.extents h).filter fun e => overlaps e.vbase e.pages lo n).foldl (fun t e => t.releaseExtent h e) s

/-- STAGED extents for the part of a run that a Timetable reaches. -/
def State.stageRun (s : State) (t : Timetable) (h : Host24) (lo n : Nat) : Option State :=
  let cut := (t.reaches.filter fun r => r.lo < lo + n && lo ≤ r.hi).map fun r => { r with lo := max r.lo lo, hi := min r.hi (lo + n - 1) }
  let rs := if cut.isEmpty then [{ lo := lo, hi := lo + n - 1, pinned := false, mirror := false, writable := false, exec := false }] else cut
  (newRuns rs (s.extents h) (max 1 (s.plc.extSplitMib * 256))).foldl
    (fun acc r => acc.bind fun st => st.createExtent t h r.1 r.2.1 r.2.2 true) (some s)

/-- A controller write of a page: the journal's or the in-place path, never a shadow (R141, R142, R233). -/
def State.controllerWrite (s : State) (h : Host24) (v : Nat) (content : Option Bytes) : State :=
  match s.findExtent h v with
  | none => s
  | some e =>
    if e.journal then
      let ds := (mkDests v [.journal0, .journal1] (s.pickSelects s.nandReady (e.need = 2))).map fun d => { d with state := .durable }
      ({ s with free := s.free + 1 }).landPage h
        { erase := false, stage := [], pages := [(v, content)], dests := ds, waitsStaging := false, held := false } v content
    else e.copies.foldl (fun st l =>
      let d := l.dpage + (v - e.vbase)
      st.modPlc fun p => (p.storePage l.index d content).setSpare l.index d (p.spareUsed l.index d + 1)) s

/-- An image, filled to whole blocks with 0xFF, in pages from virtual page `v` on. -/
def State.writeImage (s : State) (h : Host24) (v blocks : Nat) (image : Bytes) : State :=
  (List.range (16 * blocks)).foldl (fun st i =>
    let pg := (image.drop (i * pageSize)).take pageSize
    st.controllerWrite h (v + i) (some (pg ++ List.replicate (pageSize - pg.length) 0xFF))) s

/-- Every page of a run lies in an extent that is not lost. -/
def State.runPlaced (s : State) (h : Host24) (v n : Nat) : Bool :=
  (List.range n).all fun i => (s.findExtent h (v + i)).elim false fun e => e.state ≠ .lost

/-- Check 7 of Table 6.3: every block of the slot matches its list entry. -/
def State.blocksMatch (s : State) (h : Host24) (k : Fin 3) (e : Bytes) : Bool :=
  (List.range (envBlocks e)).all fun i =>
    (s.flashRead h false (s.slotFirst h k * pageSize + i * blockSize) blockSize).elim false fun b =>
      Hash.digest (envAlg e) (Hash.outSize (envAlg e)) b = envEntry e i

/-! ## Builds (R228, R233) -/

/-- The slot that an image item's target builds. -/
def State.targetSlot (s : State) (i : Item) (h : Host24) : Fin 3 := if i.typ = tyHostRecovery then 2 else otherSlot (s.prefSlot h).1

/-- The source of a host's delta: its preferred slot's image in committed view. -/
def State.hostSource (s : State) (h : Host24) (o n : Nat) : Option Bytes :=
  s.flashRead h false (s.slotFirst h (s.prefSlot h).1 * pageSize + o) n
def State.prefEnv (s : State) (h : Host24) : Bytes := (s.slotEnv h (s.prefSlot h).1).getD []
/-- The firmware that runs. -/
def State.runningFw (s : State) : FwSlot := s.upd.fwOf (b2n s.sys.slot)
def State.fwTarget (s : State) : Nat := 1 - s.fwPref.1

def State.buildHost (s : State) (i : Item) (p : Bytes) (h : Host24) : Built :=
  buildImage i.isDelta p (envLength (s.prefEnv h)) (s.hostSource h)
def State.buildFw (s : State) (i : Item) (p : Bytes) : Built :=
  let f := s.runningFw
  buildImage i.isDelta p (envLength f.envelope) fun o n =>
    if f.readable && o + n ≤ f.image.length then some (field f.image o n) else none

/-- The patch engine reports a build (Table 8.7); an error logs EV 0x080D. -/
def State.patReport (s : State) (host item : Nat) (b : Built) : State :=
  (s.modUpd fun u => { u with pat := { u.pat with
    busy := false, done := true, err := BitVec.ofNat 4 b.err, out := BitVec.ofNat 64 b.out.length, ops := BitVec.ofNat 32 b.ops
    errPos := if b.err = 0 then u.pat.errPos else BitVec.ofNat 32 b.pos, abort := false } }).raiseIf (b.err ≠ 0) 0x080D srcPAT
      (p8 host ++ p8 item ++ p8 b.err ++ p32 b.pos)

/-- The firmware writes both copies of a slot, and the boot record after each (R438). -/
def State.writeFwSlot (s : State) (k : Nat) (e image : Bytes) : State :=
  let f := s.upd.fwOf k
  let g := f.gen + 1
  { s with
    boot := { s.boot with recordWhole := true, seq := s.boot.seq + 2 }
    upd := s.upd.setFw k { slot := k, present := true, gen := g, readable := true, slotCrc := BitVec.ofNat 32 (crc32c (e ++ image)), envelope := e, image := image } }

/-! ## Checking (R242) -/

/-- An outcome other than success: step, item and outcome of EV 0x0804. -/
abbrev CheckFail := Nat × Nat × Nat

def firstSome {α β : Type} (xs : List α) (f : α → Option β) : Option β := xs.findSome? f

/-- The items of a bundle with their indices. -/
def indexed (b : Bytes) : List (Nat × Item) := (List.range (itemCount b)).zip (itemsOf b)

def State.ctrFor (s : State) (h : Host24) (k : Fin 3) : Nat :=
  let c := if k = 2 then (s.imgOf h).ctrR else (s.imgOf h).ctrAB
  if c = 0xFF then 0 else s.counter c.toNat

/-- Checks 1, 2, 4, 5 and 6 of Table 6.3 on an envelope: the first that fails, or 0. -/
def State.envFailed (s : State) (e : Bytes) (h : Host24) (k : Fin 3) : Nat :=
  let cls := (s.imgOf h).hostClass.toNat
  if !envCheck1 e then 1
  else if !envCheck2 e cls k then 2
  else if !s.slotForImage (envKey e) cls then 4
  else if envSec e < s.ctrFor h k then 5
  else if !s.envVerify true e then 6
  else 0

/-- Size and reach of check 3 of Table 6.3 for a slot under Timetable `t`. -/
def State.slotFits (s : State) (e : Bytes) (t : Timetable) (h : Host24) (k : Fin 3) : Bool :=
  s.slotExists h k && 16 * envBlocks e ≤ s.slotPages h k && !writesInto t (s.slotFirst h k) (s.slotPages h k) && s.ttStatic t h

/-- Step 4's check of one item. -/
def State.tableOk (s : State) (i : Item) (p : Bytes) : Bool :=
  match i.targetList with
  | [t] =>
    if i.typ = tyTimetable then ttFirstFailed p t.val s.partCode (s.fused t.val) = 0
    else if i.typ = tyBell then
      bellFirstFailed p t.val s.partCode (s.fused t.val) (fun h => s.fused h) = 0 &&
        (s.chan t).activeBell.elim true fun cur => bellCheck8 (s.chan t) cur (BellSchedule.parse p)
    else true
  | _ => if i.typ = tyGateSet then s.gateSetOk p else if i.typ = tyDictDefaults then (s.dictDefaults p).isSome else true

/-- Steps 1 to 5. -/
def State.checkItems (s : State) (b : Bytes) : Option CheckFail :=
  let is := indexed b
  let st1 := firstSome is fun x => if Hash.sha256 (x.2.payload b) = x.2.digest then none else some (1, x.1, ocItemDigest)
  let st2 := firstSome (imageTargets b) fun x =>
    if s.envFailed (payloadEnv (x.2.1.payload b)) x.2.2 (s.targetSlot x.2.1 x.2.2) = 0 then none else some (2, x.1, ocImageRejected)
  let st2f := firstSome is fun x => if !x.2.isFw || s.fwEnvFailed (payloadEnv (x.2.payload b)) = 0 then none else some (2, x.1, ocImageRejected)
  let srcOk := fun (i : Item) (e : Bytes) => i.source = (envDigest e).take 8 && deltaSourceLen (payloadImage (i.payload b)) = envLength e
  let st3 := firstSome (imageTargets b) fun x =>
    if !x.2.1.isDelta || srcOk x.2.1 (s.prefEnv x.2.2) then none else some (3, x.1, ocSourceMismatch)
  let st3f := firstSome is fun x => if x.2.typ ≠ tyFwDelta || srcOk x.2 s.runningFw.envelope then none else some (3, x.1, ocSourceMismatch)
  let st4 := firstSome is fun x => if s.tableOk x.2 (x.2.payload b) then none else some (4, x.1, ocTableRejected)
  let st5 := firstSome (imageTargets b) fun x =>
    let k := s.targetSlot x.2.1 x.2.2
    match ttItem b x.2.2 (k = 2) with
    | some t => if s.slotFits (payloadEnv (x.2.1.payload b)) (Timetable.parse t) x.2.2 k then none else some (5, x.1, ocImageRejected)
    | none => some (5, x.1, ocImageRejected)
  st1 <|> st2 <|> st2f <|> st3 <|> st3f <|> st4 <|> st5

/-- Step 6 for one host: store entry, extents, image. -/
def State.buildTarget (s : State) (b : Bytes) (idx : Nat) (i : Item) (h : Host24) (writeErr : Option Nat) : Except CheckFail State × State :=
  let k := s.targetSlot i h
  let p := i.payload b
  let e := payloadEnv p
  let t := (ttItem b h (k = 2)).map Timetable.parse
  let bells := (bellItems b).map fun x => BellSchedule.parse x.2
  let built := s.buildHost i p h
  let s1 := s.modImg h fun im => { im with slots := updV im.slots k fun sl =>
    { envelope := some (field e 0 (envBytes e)), timetable := t, bells := bells, gen := sl.gen + 1 } }
  let lo := s.slotFirst h k
  let s2 := s1.releaseRun h lo (s.slotPages h k)
  match s2.stageRun (t.getD (factoryTimetable h.val)) h lo (s.slotPages h k) with
  | none => (.error (6, idx, ocNoSpace), s2.patReport h.val idx { err := errNoSpace, pos := 0, out := [], ops := 0 })
  | some s3 =>
    if built.err ≠ 0 then (.error (6, idx, ocPatchError), s3.patReport h.val idx built)
    else if writeErr = some idx then
      (.error (6, idx, ocPatchError), s3.patReport h.val idx { built with err := errWrite })
    else
      let s4 := (s3.writeImage h lo (envBlocks e) built.out).patReport h.val idx built
      (.ok s4, s4)

/-- Step 6 for the firmware item. -/
def State.buildFirmware (s : State) (b : Bytes) (idx : Nat) (i : Item) (writeErr : Option Nat) : Except CheckFail State × State :=
  let p := i.payload b
  let built := s.buildFw i p
  if built.err ≠ 0 then (.error (6, idx, ocPatchError), s.patReport 31 idx built)
  else if writeErr = some idx then (.error (6, idx, ocPatchError), s.patReport 31 idx { built with err := errWrite })
  else
    let s1 := (s.writeFwSlot s.fwTarget (payloadEnv p) built.out).patReport 31 idx built
    (.ok s1, s1)

/-- Step 6 over every target, the firmware first where it is named. -/
def State.buildAll (s : State) (b : Bytes) (writeErr : Option Nat) : Option CheckFail × State :=
  let fw := ((indexed b).filter fun x => x.2.isFw).map fun x => (x.1, x.2, (none : Option Host24))
  let hs := (imageTargets b).map fun x => (x.1, x.2.1, some x.2.2)
  (fw ++ hs).foldl (fun acc x =>
    match acc.1 with
    | some _ => acc
    | none =>
      match (match x.2.2 with
        | some h => acc.2.buildTarget b x.1 x.2.1 h writeErr
        | none => acc.2.buildFirmware b x.1 x.2.1 writeErr) with
      | (.ok s1, _) => (none, s1)
      | (.error f, s1) => (some f, s1)) (none, s)

/-- Step 7: check 7 of every built image. -/
def State.checkBuilt (s : State) (b : Bytes) : Option CheckFail :=
  (firstSome (imageTargets b) fun x =>
    if s.blocksMatch x.2.2 (s.targetSlot x.2.1 x.2.2) (payloadEnv (x.2.1.payload b)) then none else some (7, x.1, ocImageRejected)) <|>
  (firstSome (indexed b) fun x =>
    if !x.2.isFw || imageMatches (payloadEnv (x.2.payload b)) (s.upd.fwOf s.fwTarget).image then none else some (7, x.1, ocImageRejected))

/-- Hosts that a Syllabus names in any way. -/
def namedHosts (b : Bytes) : List Host24 :=
  all24.filter fun h => (itemsOf b).any fun i => (i.isImage || i.typ = tyTimetable) && i.names h.val

/-- The event of the verification that rejects an item in step 2 (R221). -/
def State.itemSigEvent (s : State) (b : Bytes) (f : CheckFail) : State :=
  if f.1 ≠ 2 then s
  else
    match (indexed b).find? fun x => x.1 = f.2.1 with
    | none => s
    | some x =>
      let e := payloadEnv (x.2.payload b)
      let refused := if x.2.isFw then s.fwEnvFailed e = 7
        else ((imageTargets b).find? fun y => y.1 = f.2.1 && s.envFailed e y.2.2 (s.targetSlot x.2 y.2.2) ≠ 0).elim false fun y =>
          s.envFailed e y.2.2 (s.targetSlot x.2 y.2.2) = 6
      if refused then s.envSigEvent e else s

/-- CHECKING ends: STAGED, or rejected and the bundle area freed. -/
def State.endChecking (s : State) (writeErr : Option Nat) : State :=
  let b := s.upd.bundle
  let fail := fun (st : State) (f : CheckFail) =>
    (st.modUpd fun u => { u with state := .idle, outcome := f.2.2, bundle := [], bundleLen := 0, resume := 0 }).raise 0x0804 srcFW
      (p8 f.1 ++ p8 f.2.1 ++ p8 f.2.2)
  match s.checkItems b with
  | some f => fail (s.itemSigEvent b f) f
  | none =>
    match s.buildAll b writeErr with
    | (some f, s1) => fail s1 f
    | (none, s1) =>
      match s1.checkBuilt b with
      | some f => fail s1 f
      | none =>
        (((namedHosts b).foldl (fun st h => st.modHpw h (setCause causeUpdateStaged)) s1).modUpd fun u =>
          { u with state := .staged, outcome := ocOk }).raise 0x0806 srcFW (p32 (sylSeq b))

end Sys2Proof.Machine
end

