-- ==== Sys2Proof/Machine/Activation.lean ====
section
/-! DEFINITION. Activation, roll-forward, confirmation and revert of a Syllabus (R244 to R256), the load of the settings at a
start of the firmware (R350), and what firmware does after the ROM hands over. -/
namespace Sys2Proof.Machine

/-! ## Settings generations of a Syllabus (R245 step 1, R253) -/

/-- The blocks and values that the items of a bundle set: index of the entry, subindex, and how the generation changes. -/
def State.settingsItems (s : State) (b : Bytes) : List ((Nat × Nat) × (Generation → Generation)) :=
  let tts := (all24.filterMap fun h => (ttItem b h false).map fun p => (h, p)).map fun x =>
    ((0x2400 + x.1.val, 0), fun g : Generation => g.putBlob (0x0200 + x.1.val) x.2)
  let bells := (bellItems b).map fun x => ((0x2500 + x.1.val, 1), fun g : Generation => g.putBlob (0x0300 + x.1.val) x.2)
  let gs := (itemPayload b tyGateSet).elim [] fun p => [((0x2A00, 0), fun g : Generation => g.putBlob 0x0400 p)]
  let vs := ((itemPayload b tyDictDefaults).bind s.dictDefaults).elim [] fun l => l.map fun v =>
    (v.1, fun g : Generation => g.putVal v.1 v.2 ((s.valEntry v.1.1 v.1.2).elim 0 ValEntry.dflt))
  tts ++ bells ++ gs ++ vs

/-- Generation `new` is written from generation `old` with the Syllabus's settings items, each logged with EV 0x0303 and role
0 (R344, R349). -/
def State.writeGeneration (s : State) (old : Generation) (new : Word) (b : Bytes) : State :=
  let items := s.settingsItems b
  let g0 := items.foldl (fun g x => x.2 g) { old with gen := new, dirSeq := 1 }
  let blocks := sortNats (items.map fun x => blockOfIndex x.1.1)
  let g := blocks.foldl (fun g k => s.putInst g k) g0
  let s1 := { s with free := s.free + 1 }.modUpd fun u => { u with gens := u.gens.filter (fun (x : Generation) => x.gen ≠ new) ++ [g] }
  items.foldl (fun st x => st.raise 0x0303 srcFW (p16 x.1.1 ++ p8 x.1.2 ++ p8 0 ++ p32 new.toNat ++ p32 g.dirSeq.toNat)) s1

/-! ## Tables of a generation (R246 step 4, R256) -/

/-- The Timetable that a generation's block gives a host: its image, or the factory one (R350). -/
def Generation.timetable (g : Generation) (h : Host24) : Timetable :=
  ((g.blob (0x0200 + h.val)).map Timetable.parse).getD (factoryTimetable h.val)
def Generation.bell (g : Generation) (c : Chan) : BellSchedule := ((g.blob (0x0300 + c.val)).map BellSchedule.parse).getD (factoryBell c.val)
def Generation.gateSet (g : Generation) : Bytes := (g.blob 0x0400).getD factoryGateSet

/-- Hosts whose Timetable block differs in two generations, and that are not Trial hosts. -/
def tablesDiffer (a b : Generation) (trial : BitVec 24) : List Host24 :=
  all24.filter fun h => !trial.getLsbD h.val && (a.blob (0x0200 + h.val)) ≠ (b.blob (0x0200 + h.val))
def bellsDiffer (a b : Generation) : List Chan := all24.filter fun c => (a.blob (0x0300 + c.val)) ≠ (b.blob (0x0300 + c.val))

/-- Timetables committed with one TTB_COMMIT; while a PEND bit is set, each waits for its own (R84). -/
def State.commitTables (s : State) (hs : List Host24) (g : Generation) : State :=
  if hs.any fun h => (s.ttOf h).pend then hs.foldl (fun st h => st.awaitTt h (g.timetable h) none) s
  else
    let s1 := hs.foldl (fun st h => st.modTt h fun x => { x.stage (g.timetable h) with
      ready := true, waiting := none, waitImage := none, status := ttCommitted, failedCheck := 0 }) s
    s1.commitTts hs

/-- Bell schedules committed with one FCC_BELL_COMMIT. -/
def State.commitBells (s : State) (cs : List Chan) (g : Generation) : State :=
  (cs.foldl (fun st c => st.modChan c fun ch => { ch.stageBell (g.bell c) with ready := true }) s).bellCommit
    (cs.foldl (fun (v : BitVec 24) c => v ||| BitVec.ofNat 24 (2 ^ c.val)) 0)

/-! ## Conditions of activation (R244) -/

/-- The state in which the Syllabus's Bell schedules stand, for check 12; its Timetables, for check 7 (R120). -/
def State.withBells (s : State) (b : Bytes) : State :=
  (bellItems b).foldl (fun st x => st.modChan x.1 fun ch =>
    if ch.active then { ch with bankB := some (BellSchedule.parse x.2) } else { ch with bankA := some (BellSchedule.parse x.2) }) s
def State.withTables (s : State) (b : Bytes) : State :=
  all24.foldl (fun st h => match ttItem b h false with
    | some p => st.modTt h fun x => if x.active then { x with bankB := some (Timetable.parse p) } else { x with bankA := some (Timetable.parse p) }
    | none => st) s

/-- Timetables of the Syllabus with their hosts. -/
def syllabusTables (b : Bytes) : List (Host24 × Timetable) :=
  all24.flatMap fun h => ((ttItem b h false).toList ++ (ttItem b h true).toList).map fun p => (h, Timetable.parse p)

/-- The set refused by check 12 or check 7. -/
def State.setRefused (s : State) (b : Bytes) : Bool :=
  ((syllabusTables b).any fun x => !(s.withBells b).ttCheck12 x.2 x.1.val) ||
    ((bellItems b).any fun x => !(s.withTables b).bellCheck7 x.1.val (BellSchedule.parse x.2))

/-- Extents are created and relocations queued for every Timetable of the Syllabus; none where the pool cannot hold them. -/
def State.prepareTables (s : State) (b : Bytes) : Option State :=
  (syllabusTables b).foldl (fun acc x => acc.bind fun st =>
    (st.createExtents x.2 x.1).bind fun s1 =>
      if (s1.withBells b).ttPlaceable x.2 x.1 then some (s1.queueForCheck13 x.2 x.1) else none) (some s)

/-- No host named with an image is On Hall pass, PEND is clear where a Timetable changes, and check 13 passes. -/
def State.mayActivate (s : State) (b : Bytes) : Bool :=
  (namedHosts b).all (fun h => (s.imgOf h).state ≠ .hallPass && !(s.ttOf h).pend) &&
    (syllabusTables b).all fun x => (s.withBells b).ttCheck13 x.2 x.1

/-! ## The record (R245) -/

/-- Host n's entry in the new record. -/
def State.newHost (s : State) (b : Bytes) (old : ActHost) (h : Host24) : ActHost :=
  let sl := (s.imgOf h).slots
  let prim := (itemsOf b).find? fun i => i.isPrimary && i.names h.val
  let rec_ := (itemsOf b).any fun i => i.typ = tyHostRecovery && i.names h.val
  let a0 := { old with trial := false, genR := if rec_ then (sl.get 2).gen else old.genR }
  match prim with
  | none => a0
  | some i =>
    let k := otherSlot (s.prefSlot h).1
    let e := payloadEnv (i.payload b)
    let a1 := if k = 0 then { a0 with genA := (sl.get 0).gen } else { a0 with genB := (sl.get 1).gen }
    { a1 with pref := k.val, trial := true, token := BitVec.ofNat 32 i.token, sec := BitVec.ofNat 32 (envSec e) }

def State.newRecord (s : State) (b : Bytes) : ActRecord :=
  let old := (s.upd.inForce).getD {}
  let g := s.upd.genInForce
  let fw := fwItem b
  let t := s.fwTarget
  let f := s.upd.fwOf t
  { whole := true, trial := true, migrate := fw.isSome, fwNamed := fw.isSome
    actSeq := s.upd.recOf.actSeq + 1, sylSeq := BitVec.ofNat 32 (sylSeq b)
    settingsDir := g + 1, sourceDir := if fw.isSome then g else g + 1
    fwPref := if fw.isSome then t else old.fwPref
    budget := if sylBudget b = 0 then s.upd.budgetDefault else sylBudget b
    deadlineS := if sylDeadline b = 0 then s.upd.deadlineDefault else sylDeadline b
    fwGen0 := if fw.isSome && t = 0 then f.gen else old.fwGen0
    fwGen1 := if fw.isSome && t = 1 then f.gen else old.fwGen1
    fwSec := if fw.isSome then BitVec.ofNat 32 (envSec f.envelope) else old.fwSec
    trialHosts := (trialHosts b).foldl (fun (v : BitVec 24) h => v ||| BitVec.ofNat 24 (2 ^ h.val)) 0
    confirmWseq := 0, sylId := (sylDigest b).take 16
    hosts := Vector.ofFn fun h => s.newHost b (old.hosts.get h) h }

/-! ## Revert (R255, R256) -/

/-- Hosts of a mask. -/
def hostsIn (m : BitVec 24) : List Host24 := all24.filter fun h => m.getLsbD h.val

/-- The rest of the roll-back once the restored record stands: `r` is the record reverted from, `g1` its generation. -/
def State.rollBack (s : State) (r : ActRecord) (g1 : Generation) (reason : Nat) : State :=
  let g := s.genNow
  let s1 := (hostsIn r.trialHosts).foldl (fun st h =>
    let st1 := st.startDiscard h
    if (st1.imgOf h).state = .off then st1 else st1.toHeld h) s
  let s2 := ((s1.commitTables (tablesDiffer g g1 r.trialHosts) g).commitBells (bellsDiffer g g1) g).applyGateSet g.gateSet
  (s2.loadValues false).modUpd fun u => { u with
    state := .idle, outcome := ocReverted, lastRevert := reason, deadline := none, met := 0, selfTest := false, confirming := false
    bundle := [], bundleLen := 0, resume := 0, gens := u.gens.filter fun (x : Generation) => x.gen = g.gen || x.gen ≠ r.settingsDir }

/-- A Trial reverts: ACT_WORD selects the record from before the activation (step 1), and the roll-back follows; with a
firmware named, the processor restarts warm into the old firmware. -/
def State.revert (s : State) (reason : Nat) : State :=
  let r := s.upd.recOf
  let g1 := s.genNow
  let s1 := { s.modUpd (fun u => { u with actSel := !u.actSel }) with sys := { s.sys with cwdt := none } }
  let s2 := if r.fwNamed then s1.warmBoot kRequested false else s1
  (s2.rollBack r g1 reason).raise 0x080B srcFW (p8 reason)

/-- A Syllabus stands in Trial. -/
def Update.inTrial (u : Update) : Bool := u.inForce.elim false ActRecord.trial
/-- Revert if a Syllabus stands in Trial. -/
def State.revertTrial (s : State) (reason : Nat) : State := if s.upd.inTrial then s.revert reason else s

/-! ## The roll-forward (R246, R247) -/

/-- R251: counters found below what the record lists are advanced. -/
def State.advanceCounters (s : State) : State :=
  match s.upd.inForce with
  | none => s
  | some r =>
    if r.trial then s
    else
      let s1 := forEach all24 (fun h st =>
        let a := r.hosts.get h
        let c := (st.imgOf h).ctrAB
        if c = 0xFF then st else (st.ctrAdvance c.toNat a.sec.toNat srcConfirm).2) s
      (s1.ctrAdvance 63 r.fwSec.toNat srcConfirm).2

/-- Step 3: the new firmware migrates SOURCE_DIR (R253); a defaulted block of it ends the Trial (R254). -/
def State.migrate (s : State) (r : ActRecord) : State :=
  if !r.migrate || (s.upd.generation r.settingsDir).isSome then s
  else
    match s.upd.generation r.sourceDir with
    | none => (s.raise 0x080C srcFW (p16 0xFFFF)).revert rvMigration
    | some old =>
      match s.upd.defaulted.head? with
      | some k => (s.raise 0x080C srcFW (p16 k)).revert rvMigration
      | none => s.writeGeneration old r.settingsDir s.upd.bundle

/-- The dictionary defaults set values of the communication block, which take effect as an APPLY (R349). -/
def State.commDefaults (s : State) (b : Bytes) : Bool :=
  ((itemPayload b tyDictDefaults).bind s.dictDefaults).elim false fun l => l.any fun v => v.1.1 ≤ 0x1110

/-- Steps 4 to 6, and EV 0x0809. -/
def State.startTrial (s : State) (r : ActRecord) : State :=
  let g := s.genNow
  let g0 := (s.upd.generation s.upd.otherRec.settingsDir).getD g
  let hs := tablesDiffer g g0 r.trialHosts
  let now := hs.filter fun h => (s.ttOf h).activeTt ≠ some (g.timetable h)
  let bs := (bellsDiffer g g0).filter fun c => (s.chan c).activeBell ≠ some (g.bell c)
  let s1 := ((s.commitTables now g).commitBells bs g).applyGateSet g.gateSet
  let s2 := (hostsIn r.trialHosts).foldl (fun st h =>
    if (st.imgOf h).state = .off then st else st.toHeld h) (s1.loadValues false)
  let s3 := { s2 with net := { s2.net with applyDue := s2.net.applyDue || s.commDefaults s.upd.bundle } }
  (s3.modUpd fun u => { u with
    state := .trial, met := 0, confirming := false, selfTest := false, deadline := some (s.timeBase.toNat + r.deadlineS * second) }).raise
      0x0809 srcFW (p32 s.upd.trialCount ++ p32 r.budget)

/-- The items of Table 16.6 in order. -/
def State.selfTestItems (s : State) : List Bool :=
  [3 ≤ ((List.range 16).filter fun c => !s.dgc.excluded.getLsbD c).length, s.rng.drbg.isSome,
   s.boot.recordWhole && s.upd.rec0.whole && s.upd.rec1.whole, true, s.sys.kind ≠ 0 || !s.plc.scanning,
   (s.gateKept s.genNow.gateSet).isEmpty, (List.finRange 8).any fun k => (s.net.ports.get k).cfg.enabled && s.clk.netLock]

/-- The self-test (R448): each outcome is logged, and the first item that fails ends the Trial. -/
def State.selfTest (s : State) : State :=
  let is := s.selfTestItems
  let good := is.takeWhile id
  let s1 := (List.range good.length).foldl (fun st k => st.raise 0x0B08 srcFW (p8 (k + 1) ++ p8 1)) s
  if good.length = is.length then s1.modUpd fun u => { u with selfTest := true }
  else (s1.raise 0x0B08 srcFW (p8 (good.length + 1) ++ p8 0)).revert rvSelfTest

/-- A Trial's self-test is made once the power-up scan has ended, or at once after a warm start. -/
def State.selfTestDue (s : State) (r : ActRecord) : Bool := r.fwNamed && (s.sys.kind ≠ 0 || !s.plc.scanning)

/-- The roll-forward under a record in Trial; `fuel` bounds the restarts into the preferred firmware (step 2). -/
def State.rollForward : Nat → State → State
  | fuel, s =>
    match s.upd.inForce with
    | none => s
    | some r =>
      if !r.trial then s
      else
        let s1 := if s.sys.counted then s else s.modUpd Update.countTrial
        if s1.upd.exhausted then s1.revert rvBudget
        else if r.fwNamed && s1.sys.slot.toNat ≠ r.fwPref then
          match fuel with
          | 0 => s1
          | n + 1 => State.rollForward n (s1.warmBoot kRequested true)
        else
          let s2 := s1.migrate r
          if !s2.upd.recOf.trial then s2
          else
            let s3 := s2.startTrial r
            if s3.selfTestDue r then s3.selfTest else s3

/-- What the firmware does first after a warm hand-over: a revert that the ROM made is completed, and a Trial runs its
roll-forward (R445, R246). -/
def State.afterBoot (s : State) : State :=
  if s.sys.inRom then s
  else if s.sys.revert ≠ 0 then
    let g1 := (s.upd.generation s.upd.otherRec.settingsDir).getD s.genNow
    s.rollBack s.upd.otherRec g1 s.sys.revert.toNat
  else s.rollForward 1

/-- A warm restart of the management processor, through the ROM to the firmware's first work (R452, R453): Roll call, and
the Trial. -/
def State.warmRestart (s : State) (kind : BitVec 2) (roll : Bool) : State :=
  let s1 := s.warmBoot kind roll
  if s1.sys.inRom then s1 else s1.afterBoot.sendRollcalls

/-! ## Confirmation (R249 to R251) -/

/-- The conditions of R249. -/
def State.mayConfirm (s : State) (r : ActRecord) : Bool :=
  (!r.fwNamed || s.upd.selfTest) && (s.upd.generation r.settingsDir).isSome && !s.upd.dirDefault &&
    (hostsIn r.trialHosts).all fun h => (s.imgOf h).state = .trial && s.upd.met.getLsbD h.val

/-- The commit of a host's shadows with the mark reached (R149): NAND shadows become journal pages, NOR shadows overlay for
every reader until they are copied. -/
def State.commitShadows (s : State) (h : Host24) : State :=
  let mine := s.plc.shadows.filter fun x => x.host = h.val && !x.committed
  let nand := mine.filter fun x => !x.nor
  let nor := (mine.filter StagedPage.nor).map fun x => { x with committed := true }
  (s.modPlc fun p => { p with
    journal := nand.foldl putStaged p.journal
    shadows := nor.foldl putStaged (p.shadows.filter fun x => x.host ≠ h.val || x.committed) }).appendRegistry

/-- The key slot of the image that a host confirms (R191). -/
def State.confirmKey (s : State) (h : Host24) : State :=
  match s.selectedKey h with
  | some k => s.modImg h fun i => { i with confirmedKey := some k }
  | none => s

/-- R441: a Staged revocation of the other firmware key takes effect once firmware signed with a live key has confirmed. -/
def State.stagedFirmware (s : State) : State :=
  let k := envKey s.runningFw.envelope
  let j := 125 - k
  if (k = 62 || k = 63) && (s.slot j).revoked && !(s.slot j).immediate && !s.keys.stagedList.contains (j, 0xFFFF) then s.stagedEffect j 0xFFFF else s

/-- Steps 2 to 5 of R250. -/
def State.confirm (s : State) (r : ActRecord) : State :=
  let hs := hostsIn r.trialHosts
  let w := s.plc.wseq
  let seq := r.actSeq + 1
  let s1 := s.modUpd fun u => u.writeRecord { r with
    trial := false, migrate := false, sourceDir := r.settingsDir, actSeq := seq, confirmWseq := w
    hosts := r.hosts.map fun a => { a with trial := false } }
  let s2 := hs.foldl (fun st h =>
    let st1 := ((st.commitShadows h).modImg h fun i => { i with releasing := false }).setHost h .running
    (st1.confirmKey h).resumeWrite h) s1
  let s3 := s2.advanceCounters.stagedEval
  let s4 := if r.fwNamed then s3.stagedFirmware else s3
  ({ s4 with sys := { s4.sys with cwdt := none, trialFw := false } }.modUpd fun u => { u with
    state := .idle, outcome := ocOk, deadline := none, confirming := false, sylInForce := if u.bundle.isEmpty then u.sylInForce else sylSigned u.bundle
    bundle := [], bundleLen := 0, resume := 0, gens := u.gens.filter fun (x : Generation) => x.gen = r.settingsDir }).raise 0x080A srcFW
      (p32 r.sylSeq.toNat ++ p64 w.toNat)

/-! ## Loading the settings (R350) -/

/-- The generation that supplies the settings: the one in force, or the newest whole of the others. -/
def Update.loadGeneration (u : Update) (badDirs : List Word) : Option Generation × Bool :=
  let whole := u.gens.filter fun g => !badDirs.contains g.gen
  match whole.find? fun g => g.gen = u.genInForce with
  | some g => (some g, true)
  | none => (whole.foldl (fun (a : Option Generation) g => match a with
      | some b => if newer32 g.gen.toNat b.gen.toNat then some g else some b
      | none => some g) none, false)

/-- All BLOCK_IDs of Table 11.10 on this part. -/
def State.blockIds (s : State) : List Nat :=
  let n := if s.part = .kr9624 then 24 else 12
  [0x0100] ++ (List.range n).map (0x0200 + ·) ++ (List.range n).map (0x0300 + ·) ++ [0x0400, 0x0521, 0x0522, 0x0526, 0x0528, 0x0529]

def Generation.dropBlock (g : Generation) (k : Nat) : Generation :=
  { g with vals := g.vals.filter (fun v => blockOfIndex v.1.1 ≠ k), blobs := g.blobs.filter fun x => x.1 ≠ k }

/-- Blocks that cannot be loaded, `bad` with the cause of EV 0x0301, take their factory contents; `badDirs` are the
generations whose directory is not whole. -/
def State.loadSettings (s : State) (bad : List (Nat × Nat)) (badDirs : List Word) : State :=
  let g0 := s.upd.genInForce
  let (g, whole) := s.upd.loadGeneration badDirs
  let used : Generation := { g.getD { gen := g0, dirSeq := 0, vals := [], blobs := [] } with gen := g0 }
  let bads := if g.isNone then s.blockIds.map fun k => (k, 1) else bad.filter fun x => used.insts.any fun i => i.block = x.1
  let g1 := bads.foldl (fun g x => g.dropBlock x.1) used
  let s1 := s.modUpd fun u => { u with
    gens := u.gens.filter (fun (x : Generation) => x.gen ≠ g0 && !badDirs.contains x.gen) ++ [g1], dirDefault := !whole, defaulted := bads.map Prod.fst }
  let s2 := s1.raiseIf (!whole) 0x0302 srcFW (p32 g0.toNat ++ p32 (g.elim 0xFFFFFFFF fun x => x.gen.toNat))
  bads.foldl (fun st x => st.raise 0x0301 srcFW (p16 x.1 ++ p8 x.2)) s2

/-- The engine's state after a power-up (Table 8.13). -/
def Update.afterPowerUp (u : Update) : Update :=
  let trial := u.inTrial
  let st := match u.state with
    | .receiving => UpdState.receiving
    | .checking => .checking
    | .staged | .activating => .staged
    | _ => .idle
  { u with state := if trial then .trial else st, deadline := none, met := 0, selfTest := false, confirming := false, pat := {}
           outcome := 0, lastRevert := 0 }

end Sys2Proof.Machine
end

