-- ==== Sys2Proof/Machine/Images.lean ====
section
/-! DEFINITION. Which image a host runs (R172 to R176), its release, measured or On Hall pass (R177 to R187), and the host
commands of Table 6.6. -/
namespace Sys2Proof.Machine

/-! ## Selection -/

/-- Hosts may leave Held in the states of the life cycle in which images are verified (R177). -/
def State.lcReleases (s : State) : Bool :=
  match s.lcc.state with
  | .integrator | .fielded | .returned => true
  | .maker | .scrapped | .indeterminate => false

/-- What the checks 1 to 6 of Table 6.3 find. -/
inductive Verdict where
  | pass (t : Timetable)
  /-- the number of the check; whether checks 2 to 5 passed -/
  | fail (check : Nat) (acceptable : Bool)
  /-- copies must move before the slot's Timetable can be committed (R89) -/
  | wait

/-- Check 3 beyond size and reach: extents are created, and relocations queued, for a Timetable that could be committed. -/
def State.prepareSlot (s : State) (t : Timetable) (h : Host24) : Option (Bool × State) :=
  if t.detain then some (true, s)
  else if !s.ttCheck12 t h.val then none
  else
    match s.createExtents t h with
    | none => none
    | some s1 =>
      if !s1.ttPlaceable t h then none
      else
        let s2 := s1.queueForCheck13 t h
        some (s2.ttCheck13 t h, s2)

/-- Checks 1 to 6 on a candidate, in order. -/
def State.judgeSlot (s : State) (h : Host24) (k : Fin 3) : Verdict × State :=
  let e := (s.slotEnv h k).getD []
  let n := s.envFailed e h k
  if n = 1 ∨ n = 2 then (.fail n false, s)
  else
    match ((s.imgOf h).slots.get k).timetable with
    | none => (.fail 3 false, s)
    | some t =>
      if !s.slotFits e t h k then (.fail 3 false, s)
      else
        match s.prepareSlot t h with
        | none => (.fail 3 false, s)
        | some (true, s1) => (if n = 0 then .pass t else .fail n (n = 6), s1)
        | some (false, s1) => (.wait, s1)

/-- A Trial slot that fails ends the Trial; the host goes on to its next candidate (R176). -/
def State.endTrialOf (s : State) (h : Host24) (k : Fin 3) : State :=
  if s.slotTrial h k then
    let i := s.imgOf h
    (s.revertTrial rvVerify).modImg h fun x => { x with tried := i.tried, acceptable := i.acceptable }
  else s

/-- A candidate is passed over (R173): EV 0x0230 or EV 0x0231, and EV 0x0234. -/
def State.passOver (s : State) (h : Host24) (k : Fin 3) (check : Nat) : State :=
  let key := envKey ((s.slotEnv h k).getD [])
  let s0 := if check = 6 then s.envSigEvent ((s.slotEnv h k).getD []) else s
  let s1 := (s0.raiseIf (check = 1) 0x0230 srcFW (p8 h.val ++ p8 k.val)).raiseIf (check = 6) 0x0231 srcFW (p8 h.val ++ p8 k.val ++ p8 key)
  let s2 := (s1.raise 0x0234 srcFW (p8 h.val ++ p8 k.val ++ p8 check)).modImg h fun i => { i with
    tried := i.tried ++ [k], selected := none, passed := false, verified := [] }
  s2.endTrialOf h k

/-- A candidate that passed is selected and its Timetable committed (R167). -/
def State.selectSlot (s : State) (h : Host24) (k : Fin 3) (t : Timetable) : State :=
  let s1 := (s.modImg h fun i => { i with selected := some k, passed := true, verified := [], tap := none, tapDone := []
                                          sweepQueue := [], acceptable := true }).raiseIf (k = 2) 0x0235 srcFW (p8 h.val)
  s1.stageAndCommit h t

/-- No candidate remains: the reason of R182; NO_TIMETABLE under a Timetable with DETAIN. -/
def State.noCandidate (s : State) (h : Host24) : State :=
  s.detain h (if (s.committedTt h).detain then detNoTimetable else if (s.imgOf h).acceptable then detVerifyFailed else detNoAcceptable)

/-- The candidates that are left, in the order of R173; `fuel` bounds them. -/
def State.selectLoop (h : Host24) : Nat → State → State
  | 0, s => s
  | fuel + 1, s =>
    if !s.fwRuns || (s.imgOf h).state ≠ .held then s
    else
      match (s.candidateSlots h).find? fun k => !(s.imgOf h).tried.contains k with
      | none => s.noCandidate h
      | some k =>
        match s.judgeSlot h k with
        | (.pass t, s1) => s1.selectSlot h k t
        | (.wait, s1) => s1
        | (.fail n acc, s1) => State.selectLoop h fuel ((s1.modImg h fun i => { i with acceptable := i.acceptable || acc }).passOver h k n)

/-- EV 0x0233, where no record decides and neither envelope is newer (R174). -/
def State.tieEvent (s : State) (h : Host24) : State :=
  s.raiseIf ((s.prefSlot h).2 && (s.imgOf h).tried.isEmpty) 0x0233 srcFW
    (p8 h.val ++ p32 (envSeq ((s.slotEnv h 0).getD [])) ++ p32 (envSeq ((s.slotEnv h 1).getD [])))

/-- One selection of a Held host; a selection that waits for placement goes on where it stood. -/
def State.selectImage (s : State) (h : Host24) : State :=
  let i := s.imgOf h
  if i.state ≠ .held || i.selected.isSome || s.lcc.heldHosts.contains h || !s.lcReleases || !s.fwRuns || (s.ttOf h).pend || s.fused h.val then s
  else (s.tieEvent h).selectLoop h 4

/-! ## Release (R177 to R183) -/

def listAreaLen : Nat := 0x80000
/-- Bits of the verified bitmaps. -/
def bitmapBits : Nat := 0x800 * 8
def up32 (n : Nat) : Nat := (n + 31) / 32 * 32

/-- The first place in the list area that holds `n` bytes. -/
def State.listPlace (s : State) (n : Nat) : Option Nat :=
  (listArea :: s.lists.map fun x => x.2.1 + up32 x.2.2).find? fun a =>
    a + n ≤ listArea + listAreaLen && !s.lists.any fun x => overlaps a n x.2.1 (up32 x.2.2)

/-- Blocks whose bitmaps stand in the bitmap area. -/
def State.bitmapUsed (s : State) : Nat :=
  (s.lists.map fun x => if hh : x.1 < 24 then (s.selectedEnvelope ⟨x.1, hh⟩).elim 0 envBlocks else 0).sum

/-- R179 but for the fit of the list. -/
def State.mayHallPass (s : State) (h : Host24) (e : Bytes) : Bool :=
  let i := s.imgOf h
  i.releaseMode = 1 && cfgHallOk (s.committedTt h).cfg && envKind e = 0 &&
    i.selected.elim false (fun k => k ≠ 2 && !s.slotTrial h k) && !i.barred.contains (envDigest e)

/-- HCn_RST_N rises: the time of .07. -/
def State.released (s : State) (h : Host24) (st : HostState) : State :=
  (s.setHost h st).modImg h fun i => { i with releaseTime := s.timeBase }

/-- Every block is verified: Trial if the slot is in Trial, else Running; a recovery image that runs is confirmed (R191). -/
def State.releaseProven (s : State) (h : Host24) : State :=
  match (s.imgOf h).selected with
  | none => s
  | some k =>
    if s.slotTrial h k then s.released h .trial
    else
      let s1 := s.released h .running
      if k = 2 then (s1.confirmKey h).stagedEval else s1

/-- On Hall pass: the list is loaded (R183). -/
def State.releaseHall (s : State) (h : Host24) (e : Bytes) (a : Nat) : State :=
  let s1 := { s with
    lists := s.lists ++ [(h.val, a, envListLen e)]
    sram := s.sram.writeN 0 a (field e 0x80 (envListLen e)) }
  (s1.modImg h fun i => { i with listLoaded := true, deadlinePaused := false, hallRun := true }).released h .hallPass

/-- The row of Table 6.4 for a Held host whose candidate passed checks 1 to 6. -/
def State.hostRelease (s : State) (h : Host24) : State :=
  let i := s.imgOf h
  match s.selectedEnvelope h with
  | none => s
  | some e =>
    if i.state ≠ .held || !i.passed || !i.settled || s.plc.scanning || !s.lcReleases || !s.fwRuns || s.lcc.heldHosts.contains h then s
    else if envBlocks e ≤ i.verified.length then s.releaseProven h
    else if s.mayHallPass h e then
      match s.listPlace (envListLen e) with
      | some a => if s.bitmapUsed + envBlocks e ≤ bitmapBits then s.releaseHall h e a
          else (s.raise 0x023C srcFW (p8 h.val ++ p32 (envListLen e))).setHost h .measuring
      | none => (s.raise 0x023C srcFW (p8 h.val ++ p32 (envListLen e))).setHost h .measuring
    else s.setHost h .measuring

/-! ## Blocks (R171, R180, R184, R185) -/

/-- A block of the selected slot matches its list entry. -/
def State.blockGood (s : State) (h : Host24) (e : Bytes) (b : Nat) (readable : Bool) : Bool :=
  readable && (s.flashRead h false (s.slotBase h + b * blockSize) blockSize).elim false fun x =>
    Hash.digest (envAlg e) (Hash.outSize (envAlg e)) x = envEntry e b

/-- A good block: verified, and charged unless a tap hashed it; the last one releases a Measuring host, or begins R186 for one On Hall pass. -/
def State.blockPassed (s : State) (h : Host24) (e : Bytes) (b : Nat) : State :=
  let s1 := s.modImg h fun i => { i with
    verified := insertNat b i.verified, tapDone := i.tapDone.filter (· ≠ b), sweepQueue := i.sweepQueue.filter (· ≠ b) }
  let s2 := if b % 16 = 0 && !(s.imgOf h).tapDone.contains b then s1.exemptWork (s1.jobCost 0 (some h)) else s1
  let i := s2.imgOf h
  if i.verified.length < envBlocks e then s2
  else match i.state with
    | .measuring => s2.releaseProven h
    | .hallPass => (s2.modHpw h fun w => { w with sweepDone := true }).modImg h fun i => { i with releasing := true, tap := none }
    | _ => s2

/-- A bad block while Held or Measuring: R173 tries the next candidate. -/
def State.blockFailed (s : State) (h : Host24) (b : Nat) : State :=
  match (s.imgOf h).selected with
  | none => s
  | some k =>
    let tried := (s.imgOf h).tried
    let s1 := (s.raise 0x0232 srcFW (p8 h.val ++ p8 k.val ++ p32 b)).raise 0x0234 srcFW (p8 h.val ++ p8 k.val ++ p8 7)
    let s2 := if (s1.imgOf h).state = .held then s1.dropVerify h else s1.toHeld h
    (s2.modImg h fun i => { i with tried := tried ++ [k], acceptable := true }).endTrialOf h k

/-- A bad block On Hall pass: hardware holds reset and discards shadows; Hall pass is barred for the image (R179). -/
def State.hallMismatch (s : State) (h : Host24) (e : Bytes) (b : Nat) : State :=
  let byTap := (s.imgOf h).tapDone.contains b
  let s1 := { s.startDiscard h with hcs := { s.hcs with hold := BitVec24.put s.hcs.hold h true } }
  let s2 := (s1.modImg h fun i => { i with barred := i.barred ++ [envDigest e] }).raise 0x0237 srcFW
    (p8 h.val ++ p32 b ++ p8 (b2n (!byTap)))
  s2.detain h detHallMismatch

/-- A block's digest job completes and is compared. -/
def State.blockVerified (s : State) (h : Host24) (b : Nat) (readable : Bool) : State :=
  let i := s.imgOf h
  match s.selectedEnvelope h with
  | none => s
  | some e =>
    if !i.passed || envBlocks e ≤ b || i.verified.contains b || i.releasing then s
    else
      match i.state with
      | .held | .measuring =>
        if !s.fwRuns then s else if s.blockGood h e b readable then s.blockPassed h e b else s.blockFailed h b
      | .hallPass => if s.blockGood h e b readable then s.blockPassed h e b else s.hallMismatch h e b
      | _ => s

/-- Steps 3 to 5 of R186, once the write that was pending is durable. -/
def State.hallRelease (s : State) (h : Host24) : State :=
  let i := s.imgOf h
  if i.state = .hallPass && i.releasing && (s.port h).pending.elim true (fun w => w.held) then
    let s1 := ((s.commitShadows h).setHost h .running).modImg h fun i => { i with releasing := false, listLoaded := false }
    { s1 with lists := s1.lists.filter fun x => x.1 ≠ h.val }.resumeWrite h
  else s

/-- The sweep deadline passes. -/
def State.sweepDeadline (s : State) (h : Host24) : State :=
  let i := s.imgOf h
  if i.state = .hallPass && !i.deadlinePaused && !i.releasing then
    let left := (s.selectedEnvelope h).elim 0 envBlocks - i.verified.length
    let s1 := (s.raise 0x0238 srcFW (p8 h.val ++ p32 left)).startDiscard h
    let s2 := { s1 with lists := s1.lists.filter fun x => x.1 ≠ h.val }
    (s2.modImg h fun i => { i with tap := none, tapDone := [], sweepQueue := [], listLoaded := false }).setHost h .measuring
  else s

/-! ## Host commands (R178) -/

/-- 0x2300 + n, .11. -/
def State.hostResult (s : State) (h : Host24) (cmd res : Nat) : State := s.modImg h fun i => { i with lastCmd := cmd, lastResult := res }

/-- HOLD or POWER_OFF of a host of TRIAL_HOSTS reverts the Trial (Table 8.12). -/
def State.heldTrial (s : State) (h : Host24) : State :=
  if s.upd.inTrial && s.upd.recOf.trialHosts.getLsbD h.val then s.revertTrial rvHeld else s

/-- Off to Held: HCn_PWREN high, and SETTLE_MS starts. -/
def State.powerUpHost (s : State) (h : Host24) : State :=
  (((s.modImg h fun i => { i with settled := false }).setHost h .held)).afterCommit h

def State.powerOffHost (s : State) (h : Host24) : State :=
  ((((s.startDiscard h).dropVerify h).modImg h fun i => { i with settled := false }).setHost h .off).heldTrial h

/-- Detention ends by RETRY. -/
def State.retryHost (s : State) (h : Host24) : State :=
  (s.modImg h HostImg.dropVerify).setHost h .held

/-- The command `code` of 0x2300 + n, .10. -/
def State.hostCommand (s : State) (h : Host24) (code : Nat) : State :=
  let i := s.imgOf h
  match code with
  | 1 => if i.state = .off then (s.powerUpHost h).hostResult h 1 0 else s.hostResult h 1 2
  | 2 => if i.state ≠ .off then (s.powerOffHost h).hostResult h 2 0 else s.hostResult h 2 2
  | 3 => if i.state = .measuring || i.state = .hallPass || i.state = .trial || i.state = .running then
      ((s.toHeld h).heldTrial h).hostResult h 3 0 else s.hostResult h 3 2
  | 4 => if i.state = .detention && i.reason ≠ detNoTimetable && i.reason ≠ detNoAcceptable then (s.retryHost h).hostResult h 4 0
      else s.hostResult h 4 2
  | n => s.hostResult h n 2

end Sys2Proof.Machine
end

