-- ==== Sys2Proof/Machine/Archive.lean ====
section
/-! DEFINITION. The billing archive (chapter 9): records, pages, the tail, appends, Terms and retention. -/
namespace Sys2Proof.Machine

def State.modArc (s : State) (f : Arc → Arc) : State := { s with arc := f s.arc }

/-- UTC in a record: all ones when no partner has set it (R262). -/
def State.utcField (s : State) : Nat := s.utc.elim (2 ^ 64 - 1) BitVec.toNat

/-! ## Space (R269, R276) -/

def Arc.areaBytes (a : Arc) : Nat := a.areaGib * 2 ^ 30
def Arc.reserve (a : Arc) : Nat := max (a.areaBytes / 100) (256 * 2 ^ 20)
/-- ARC_USED. -/
def Arc.usedPm (a : Arc) : Nat := min 10000 (a.usedBytes * 10000 / max 1 a.areaBytes)
/-- Only the reserve remains. -/
def Arc.onlyReserve (a : Arc) : Bool := a.areaBytes ≤ a.usedBytes + a.reserve
/-- Tail buffers occupied (R265). -/
def Arc.tail (a : Arc) : Nat := (a.pages.filter fun p => !p.flushed).length
def Arc.openPage (a : Arc) : Option ArcPage := a.pages.getLast?.filter fun p => p.tbClose.isNone
/-- Pages that `n` further records open. -/
def Arc.newPages (a : Arc) (n : Nat) : Nat := (n - a.openPage.elim 0 (fun p => 62 - p.records.length) + 61) / 62

/-- LCS of Tables 9.8 and 15.1. -/
def LcState.code : LcState → Nat
  | .maker => 1 | .integrator => 2 | .fielded => 3 | .returned => 4 | .scrapped => 5 | .indeterminate => 0xFF

/-- Life-cycle states in which hosts and partners append, and in which the controller appends and seals (R270). -/
def State.lcAppends (s : State) : Bool := s.lcc.state = .integrator || s.lcc.state = .fielded
def State.lcSeals (s : State) : Bool := s.lcAppends || s.lcc.state = .returned

/-! ## Records (R260 to R264) -/

/-- A record (Table 9.1). -/
structure ArcRec where
  src : Nat
  kind : Nat
  cont : Bool
  payload : Bytes
  /-- it begins a Term, or ends one -/
  first : Bool := false
  last : Bool := false

def ArcRec.bytes (r : ArcRec) (seq timeS : Nat) : Bytes :=
  p64 seq ++ p32 timeS ++ p8 r.src ++ p8 r.kind ++ p8 r.payload.length ++ p8 (b2n r.cont) ++ padTo 48 (r.payload.take 48)

/-- One record joins the open page, or a new one; a page closes at its 62nd record and at the end of its Term. -/
def Arc.add (a : Arc) (now : Nat) (r : ArcRec) : Arc :=
  let seq := a.next.toNat
  let b := r.bytes seq (now / 1000000)
  let h := Hash.sha256 (a.chain ++ b)
  let fresh : ArcPage :=
    { pageNo := a.nextPage, term := a.term.toNat, termFirst := r.first, termLast := false, firstSeq := seq, tbOpen := now, chainIn := a.chain
      records := [], chainOut := a.chain, tbClose := none, flushed := false, copies := [], lost := false }
  let (front, pg, np) := match a.openPage with
    | some p => (a.pages.dropLast, p, a.nextPage)
    | none => (a.pages, fresh, a.nextPage + 1)
  let pg1 := { pg with records := pg.records ++ [b], chainOut := h, termLast := r.last }
  let pg2 := if 62 ≤ pg1.records.length || r.last then { pg1 with tbClose := some now } else pg1
  { a with next := a.next + 1, chain := h, pages := front ++ [pg2], nextPage := np }

/-- Use above the warning is logged at its upward crossing (R276). -/
def State.arcWarn (s : State) : State :=
  let above := s.arc.warnPm < s.arc.usedPm
  (s.modArc fun a => { a with warned := above }).raiseIf (above && !s.arc.warned) 0x0907 srcARC (p32 s.arc.usedPm)

/-- The records of one append, which become durable together. -/
def State.arcPut (s : State) (rs : List ArcRec) : State :=
  (s.modArc fun a => rs.foldl (fun a r => a.add s.timeBase.toNat r) a).arcWarn

/-- An append would need the SEQ that no record carries: SEQ_STUCK and EV 0x0903 (R261). -/
def State.seqStuck (s : State) (n : Nat) : Bool := 2 ^ 64 - 1 ≤ s.arc.next.toNat + (n - 1)
def State.stick (s : State) (src : Nat) : State :=
  (s.modArc fun a => { a with seqStuck := true }).raise 0x0903 srcARC (p8 (Config.eventCode 0x0903 0).toNat ++ p8 src)

/-- A controller record, dropped and counted when there is no room for it (R269). -/
def State.ctrlAppend (s : State) (kind : Nat) (payload : Bytes) : Bool × State :=
  if !s.arc.created || !s.lcSeals then (false, s)
  else
    let n := s.arc.newPages 1
    let drop := s.modArc fun a => { a with refcnt := a.refcnt.inc }
    if s.seqStuck 1 then (false, drop.stick 0x80)
    else if s.arc.areaBytes < s.arc.usedBytes + n * 4096 || 32 < s.arc.tail + n then (false, drop)
    else (true, s.arcPut [{ src := 0x80, kind, cont := false, payload }])

/-! ## Retention (R276) -/

/-- What a seal signs (R274). -/
def sealSigned (b : Bytes) : Bytes := b.take 0x980
def Arc.sealOf (a : Arc) (t : Nat) : Option Bytes := a.seals[t]?

/-- The oldest Term that is not retired goes, if it is acknowledged. -/
def State.retireOne (s : State) : Option State :=
  let t := s.arc.oldest.toNat
  if !(1 ≤ t && t ≤ s.arc.acked.toNat) then none
  else
    let ack := (s.arc.sealOf t).elim (List.replicate 16 0) fun b => (Hash.sha256 (sealSigned b)).take 16
    match s.ctrlAppend 0xF5 (p32 t ++ ack) with
    | (false, _) => none
    | (true, s1) =>
      let mine := s1.arc.pages.filter fun p => p.term = t
      let gone := match mine.head?, mine.getLast? with
        | some a, some b => [(a.firstSeq, b.firstSeq + b.records.length - 1, a.pageNo, b.pageNo)]
        | _, _ => []
      some ((s1.modArc fun a => { a with
        pages := a.pages.filter fun p => p.term ≠ t, retired := a.retired ++ gone, oldest := a.oldest + 1 }).raise 0x0906 srcARC (p32 t))

/-- In Retire mode Terms go until more than the reserve is free. -/
def State.retireFor : Nat → State → State
  | 0, s => s
  | n + 1, s => if s.arc.retire && s.arc.onlyReserve then (match s.retireOne with | some s1 => State.retireFor n s1 | none => s) else s

/-! ## Host and partner appends (R267, R268) -/

/-- The outcomes of Table 9.5 past the checks of the request. -/
inductive AppendResult where
  | ok (rsp : Bytes)
  | full
  | busy

/-- The records of a payload, 48 bytes each, all but the last with CONT. -/
def splitAppend (src kind : Nat) (data : Bytes) : List ArcRec :=
  let n := (data.length + 47) / 48
  (List.range n).map fun i => { src, kind, cont := i + 1 ≠ n, payload := (data.drop (48 * i)).take 48 }

/-- The request of Table 9.4 is well formed. -/
def appendOk (b : Bytes) : Bool :=
  let n := u16 b 2
  4 ≤ b.length && u8 b 0 ≤ 0xEF && u8 b 1 = 0 && 1 ≤ n && n ≤ 480 && b.length = 4 + n

def State.append (s : State) (src : Nat) (b : Bytes) : AppendResult × State :=
  let rs := splitAppend src (u8 b 0) (b.drop 4)
  let refuse := fun (st : State) => st.modArc fun a => { a with refcnt := a.refcnt.inc }
  if s.seqStuck rs.length then (.full, (refuse s).stick src)
  else
    let s0 := s.retireFor (s.arc.acked.toNat + 1 - s.arc.oldest.toNat)
    if s0.arc.onlyReserve then (.full, refuse s0)
    else if 32 ≤ s0.arc.tail || 32 < s0.arc.tail + s0.arc.newPages rs.length then (.busy, s0)
    else
      let s1 := s0.arcPut rs
      (.ok (p64 s0.arc.next.toNat ++ p64 (s1.arc.next.toNat - 1) ++ s1.arc.chain), s1)

/-! ## Terms (R259, R271 to R273) -/

/-- The record of a Term's opening. -/
def State.termOpen (s : State) (t : Nat) : ArcRec :=
  { src := 0x80, kind := 0xF1, cont := false, first := true, payload := p32 t ++ p32 0 ++ p64 s.timeBase.toNat ++ p64 s.utcField }

/-- Term `t` opens with the next record. -/
def State.startTerm (s : State) (t : Nat) : State :=
  let s1 := s.modArc fun a => { a with
    term := BitVec.ofNat 32 t, termTb := s.timeBase.toNat, termUtc := s.utc, termLen := a.termLenS, termChainIn := a.chain
    termFirst := a.next.toNat, termPage := a.nextPage, oldest := if t = 1 then 1 else a.oldest }
  s1.modArc fun a => a.add s.timeBase.toNat (s.termOpen t)

def causeBoundary : Nat := 0
def causeLimit : Nat := 1
def causeStep : Nat := 2
def causeSealNow : Nat := 3
def causeLifeCycle : Nat := 4

/-- CREATE: GENESIS, Term 0 closed at once, and Term 1 opened (R259). -/
def State.archiveCreate (s : State) : State :=
  let genesis : ArcRec :=
    { src := 0x80, kind := 0xF0, cont := false, first := true, last := true
      payload := unitIdBytes ++ p64 s.plc.poolId.toNat ++ p64 s.timeBase.toNat ++ p64 s.utcField }
  let s1 := s.modArc fun a => ({ a with created := true } : Arc).add s.timeBase.toNat genesis
  let t0 : ArcTerm := { term := 0, records := 1, firstSeq := 0, lastSeq := 0, chainIn := List.replicate 32 0, chainOut := s1.arc.chain
                        firstPage := 0, pages := 1, cause := 0 }
  ((s1.modArc fun a => { a with awaiting := a.awaiting ++ [t0] }).startTerm 1).raise 0x0901 srcARC (unitIdBytes.take 8 ++ p64 s.timeBase.toNat)

/-- Room for the two records of a Term's end in the tail. -/
def Arc.mayClose (a : Arc) : Bool := a.tail + a.newPages 1 + 1 ≤ 32

/-- The open Term ends and the next begins, in one append (R272). -/
def State.closeTerm (s : State) (cause : Nat) : State :=
  if !s.arc.created || !s.lcSeals || !s.arc.mayClose || s.arc.seqStuck || s.seqStuck 2 then s
  else
    let a := s.arc
    let seq := a.next.toNat
    let n := seq + 1 - a.termFirst
    let rec_ : ArcRec :=
      { src := 0x80, kind := 0xF2, cont := false, last := true
        payload := p32 a.term.toNat ++ p32 n ++ p64 s.timeBase.toNat ++ p64 s.utcField ++ p8 cause }
    let s1 := s.modArc fun a => a.add s.timeBase.toNat rec_
    let t : ArcTerm := { term := a.term.toNat, records := n, firstSeq := a.termFirst, lastSeq := seq, chainIn := a.termChainIn
                         chainOut := s1.arc.chain, firstPage := a.termPage, pages := s1.arc.nextPage - a.termPage, cause }
    ((s1.modArc fun a => { a with awaiting := a.awaiting ++ [t] }).startTerm (a.term.toNat + 1)).arcWarn

/-- The next UTC boundary of the open Term: the next multiple of its length from its opening UTC. -/
def Arc.utcBoundary (a : Arc) : Option Nat := a.termUtc.map fun u => (u.toNat / max 1 a.termLen + 1) * max 1 a.termLen

/-- The cause for which the open Term ends now (R271). -/
def State.termDue (s : State) : Option Nat :=
  let a := s.arc
  let tb := s.timeBase.toNat
  let byUtc := match s.utc, a.utcBoundary with
    | some u, some b => decide (b ≤ u.toNat)
    | none, _ => decide (a.termTb + a.termLen * second ≤ tb)
    | _, none => false
  if !a.created then none
  else if byUtc then some causeBoundary
  else if a.termTb + 2 * a.termLen * second ≤ tb then some causeLimit
  else none

def State.termBoundary (s : State) : State :=
  match s.termDue with
  | some c => s.closeTerm c
  | none => s

/-- A partner sets UTC (R273): TIME_STEP first, then the new value, EV 0x0905, and the Term closes when its boundary is passed. -/
def State.setUtc (s : State) (v : DWord) (setter : Nat) : State :=
  let old := s.utcField
  let (_, s1) := s.ctrlAppend 0xF3 (p64 old ++ p64 v.toNat ++ p64 s.timeBase.toNat ++ p8 setter)
  let passed := s1.arc.utcBoundary.elim false fun b => decide (b ≤ v.toNat)
  let s2 := { s1 with utc := some v, arc := { s1.arc with termUtc := if s1.arc.termUtc.isNone then some v else s1.arc.termUtc } }
  let s3 := s2.raise 0x0905 srcFW (p64 old ++ p64 v.toNat)
  if passed then s3.closeTerm causeStep else s3

/-! ## Flushing (R266) -/

/-- The oldest closed page that is still in the tail is durable on both copies, and its buffer is free. -/
def State.flushPage (s : State) : State :=
  match s.arc.pages.find? fun p => !p.flushed && p.tbClose.isSome with
  | none => s
  | some p =>
    let nand := s.nandReady
    let cs := if nand.isEmpty then s.shadowSelects else nand
    let sel := s.pickSelects cs true
    if sel.isEmpty then s
    else { s with free := s.free + 1 }.modArc fun a => { a with
      pages := a.pages.map fun (x : ArcPage) => if x.pageNo = p.pageNo then { x with flushed := true, copies := sel } else x }

/-! ## Reading (R278, R279) -/

/-- A record by its SEQ. -/
def Arc.recordAt (a : Arc) (q : Nat) : Option (ArcPage × Bytes) :=
  (a.pages.find? fun p => p.firstSeq ≤ q && q < p.firstSeq + p.records.length).bind fun p => (p.records[q - p.firstSeq]?).map fun b => (p, b)

def Arc.records (a : Arc) : Nat → Nat → List Bytes
  | _, 0 => []
  | q, n + 1 => match a.recordAt q with
    | some (p, b) => if p.lost then [] else b :: a.records (q + 1) n
    | none => []

/-- A page as 0x2908 returns it (Table 9.3). -/
def ArcPage.image (p : ArcPage) : Bytes :=
  let hd := p32 0x5041524B ++ p16 1 ++ p16 (b2n p.termFirst) ++ p32 p.term ++ p32 p.pageNo ++ p64 p.firstSeq ++ p64 p.tbOpen ++ p.chainIn
  let body := hd ++ padTo (62 * 64) p.records.flatten
  match p.tbClose with
  | none => padTo 4096 body
  | some t =>
    let n := p.records.length
    let b := body ++ p.chainOut ++ p64 (p.firstSeq + n - 1) ++ p64 t ++ p16 n ++ p16 (b2n (p.termLast || p.pageNo = 0)) ++ p64 0
    b ++ p32 (crc32c b)

/-- Last sealed Term; all ones when none is. -/
def Arc.sealed (a : Arc) : Nat := if a.seals.isEmpty then 0xFFFFFFFF else a.seals.length - 1

end Sys2Proof.Machine
end

