-- ==== Sys2Proof/Machine/Cards.lean ====
section
/-! DEFINITION. Identity signing (R280 to R283), Report cards (R285 to R289), Term seals (R274, R275) and the offers of the
budget manager that wait for them. -/
namespace Sys2Proof.Machine

/-! ## The identity key (R280 to R283) -/

def signMax : Nat := 2 ^ 30
def signTop : Nat := 20
def signBottom : Nat := 10

/-- Signing is available. -/
def State.signOk (s : State) : Bool := s.keysOpen && s.signer.next.toNat < signMax && (s.slot 0).live && (s.slot 0).typ = typSign
def State.signKey (s : State) : Bytes × Bytes := let k := (s.slot 0).key; (k.take 32, k.drop 32)
/-- The public key of 0x2910; zeros before GENERATE. -/
def State.identityPub (s : State) : Bytes :=
  if (s.slot 0).typ = typSign then beBytes 4 2 ++ Lms.lmsPub s.signKey.2 s.signKey.1 signTop 8 else List.replicate 60 0

/-- SEED and I of the bottom tree of top leaf `k` (R380). -/
def bottomSeed (seed : Bytes) (k : Nat) : Bytes := (Hash.sha256 (seed ++ p32 k ++ [0xFF])).take 32
def bottomI (i : Bytes) (k : Nat) : Bytes := (Hash.sha256 (i ++ p32 k ++ [0xFE])).take 16

def State.modSigner (s : State) (f : Signer → Signer) : State := { s with signer := f s.signer }

/-- The next index is reserved in the ring (R281); the last one sets SIGN_OFF with EV 0x0904. -/
def State.reserveIndex (s : State) : Nat × State :=
  let i := s.signer.next.toNat
  let v := BitVec.ofNat 32 (i + 1)
  let s1 := s.modSigner fun g => { g with
    next := v, reserved := i, ring := g.ring.filter (fun x => x.1 ≠ (i + 1) % 64) ++ [((i + 1) % 64, v)], bad := g.bad.filter (· ≠ (i + 1) % 64) }
  let off := i + 1 = signMax && !s.signer.offLogged
  (i, (s1.modSigner fun g => { g with offLogged := g.offLogged || off }).raiseIf off 0x0904 srcSIG [])

/-- The signature of `msg` with index `i` (R282); the top-level signature is made anew for each bottom tree. -/
def State.hssSign (s : State) (i : Nat) (msg : Bytes) : Bytes × State :=
  let (seed, id) := s.signKey
  let q1 := i / 1024
  let bs := bottomSeed seed q1
  let bi := bottomI id q1
  let pub := Lms.lmsPub bi bs signBottom 6
  let c := fun n => leBytes 32 (Config.randomizer n).toNat
  let top := match s.signer.bottom.filter fun x => x.1 = q1 && i % 1024 ≠ 0 with
    | some x => x.2
    | none => Lms.lmsSign id seed signTop 8 q1 (c s.free) pub
  (beBytes 4 1 ++ top ++ pub ++ Lms.lmsSign bi bs signBottom 6 (i % 1024) (c (s.free + 1)) msg,
    { s with free := s.free + 2, signer := { s.signer with bottom := some (q1, top) } })

/-! ## Report card bodies (R285, Tables 9.8 and 9.10) -/

/-- The envelope of a host's selected slot. -/
def State.hostEntryBytes (s : State) (h : Host24) : Bytes :=
  if s.fused h.val then List.replicate 80 0
  else
    let i := s.imgOf h
    let tt := s.ttOf h
    let head := p8 i.state.code ++ p8 (i.selected.elim 0xFF fun k => k.val) ++ p8 i.reason ++
      p8 (b2n (i.selected.elim false fun k => s.slotTrial h k) + 2 * b2n i.hallRun + 4 * b2n (s.port h).hpw.sweepDone) ++
      p16 i.hostClass.toNat ++ p16 tt.epoch.toNat ++ p32 (tt.activeTt.elim 0 Timetable.crc)
    match i.selected, s.selectedEnvelope h with
    | some k, some e =>
      let c := if k = 2 then i.ctrR else i.ctrAB
      head ++ p32 (envSeq e) ++ p32 (envSec e) ++ p32 (if c = 0xFF then 0xFFFFFFFF else s.counter c.toNat) ++
        p64 i.releaseTime.toNat ++ envDigest e ++ envBuild e
    | _, _ => padTo 80 head

/-- 0x2702.01. -/
def State.revokedBits (s : State) : Nat := ((List.range 64).map fun k => if (s.slot k).revoked then 2 ^ k else 0).sum
def sat16 (n : Nat) : Nat := min 0xFFFF n
def State.degradedCount (s : State) : Nat := (s.allExtents.filter fun x => x.2.degraded).length
def State.lostCount (s : State) : Nat := (s.allExtents.filter fun x => x.2.state = .lost).length

def State.cardBody (s : State) (kind requester : Nat) (nonce : Bytes) (index macSlot : Nat) : Bytes :=
  let r := (s.upd.inForce).getD {}
  let fw := s.runningFw.envelope
  let steady := s.plc.steady
  let b := p32 0x4352524B ++ p16 1 ++ p16 0x8C0 ++ p8 kind ++ p8 s.partCode ++ p8 s.lcc.state.code ++
    p8 (b2n s.utc.isSome + 2 * b2n steady + 4 * b2n (s.upd.state = .trial) + 8 * b2n (!s.signOk)) ++ p8 requester ++
    p8 (if s.part = .kr9624 then 24 else 12) ++ p8 s.tmp.activeBits ++ p8 0 ++ unitIdBytes ++ padTo 32 (nonce.take 32) ++
    p64 s.timeBase.toNat ++ p64 s.utcField ++ p32 index ++ p8 macSlot ++ [0, 0, 0] ++ p32 r.actSeq.toNat ++ p32 r.sylSeq.toNat ++ r.sylId ++
    p32 (envSeq fw) ++ p32 (envSec fw) ++ envDigest fw ++ envBuild fw ++ p64 s.arc.next.toNat ++ s.arc.chain ++ p32 s.arc.sealed ++
    p32 s.upd.genInForce.toNat ++ p64 s.revokedBits ++ Hash.sha256 s.genNow.image ++
    Hash.sha256 (all24.flatMap fun c => p32 (if s.fused c.val then 0 else (s.chan c).activeBell.elim 0 BellSchedule.crc)) ++
    p64 ((s.evl.nextSeq + (2 ^ 64 - 1)) % 2 ^ 64) ++ p16 (sat16 s.degradedCount) ++ p16 (sat16 s.lostCount)
  padTo 0x140 b ++ all24.flatMap s.hostEntryBytes

/-! ## The budget over waiting work (R367, Table 12.5) -/

/-- Costs of the next waiting jobs of the ranks above `rank`, of the work that State itself holds. -/
def State.reservedAbove (s : State) (rank : Nat) : Nat :=
  let q := s.plc.queued
  let r1 := if s.rng.dueSince.isSome then s.jobCost 7 none else 0
  let r2 := if q.any (fun r => r.cls = 3) then s.jobCost 3 none
    else if q.any Reloc.fold && s.plc.stagingLow then s.jobCost 2 none else 0
  let r3 := if s.arc.awaiting.isEmpty then 0 else s.jobCost 4 none
  (if 1 < rank then r1 else 0) + (if 2 < rank then r2 else 0) + (if 3 < rank then r3 else 0)

/-- A job of a class and rank fits now; no job is admitted while a restart is under way (R16). -/
def State.admits (s : State) (cls rank : Nat) (host : Option Host24) : Bool :=
  s.fwRuns && s.lcc.phase = .none && s.pwr.fits (s.jobCost cls host) (s.reservedAbove rank)

/-! ## Seals (R274, R275) -/

/-- SEAL_MAC_SLOT can key a seal: a live HMAC slot for partner MACs with EXPOSE (R377). -/
def State.macSlotOk (s : State) (k use : Nat) (host : Option Host24) : Bool :=
  s.keysOpen && k < 64 && (s.slot k).live && (s.slot k).typ = typHmac && (s.slot k).pol use && (s.slot k).pol polExpose &&
    host.elim true fun h => (s.slot k).admits (s.imgOf h).hostClass.toNat

def prevSealDigest (seals : List Bytes) : Bytes := (seals.getLast?).elim (List.replicate 32 0) fun b => Hash.sha256 (sealSigned b)

/-- The signed part of a Term's seal (Table 9.7). -/
def State.sealPart (s : State) (t : ArcTerm) (kind macSlot index : Nat) : Bytes :=
  padTo 0xC0 (p32 0x5354524B ++ p16 1 ++ p8 kind ++ p8 macSlot ++ p32 t.term ++ p32 t.records ++ p64 t.firstSeq ++ p64 t.lastSeq ++
    t.chainIn ++ t.chainOut ++ prevSealDigest s.arc.seals ++ p32 t.firstPage ++ p32 t.pages ++ p32 index ++ p8 t.cause ++ [0, 0, 0] ++
    p64 s.timeBase.toNat ++ p64 s.utcField) ++ s.cardBody 3 0xFF t.chainOut index 0xFF

def State.storeSeal (s : State) (b : Bytes) (t kind index : Nat) : State :=
  ((s.modArc fun a => { a with seals := a.seals ++ [b], awaiting := a.awaiting.tail }).raise 0x0902 srcARC
    (p32 t ++ p8 kind ++ p32 index)).arcWarn

/-- The seal of the oldest closed Term is made, where either kind is available; no charge is made here. -/
def State.makeSeal (s : State) : Option State :=
  match s.arc.awaiting with
  | [] => none
  | t :: _ =>
    if !s.lcSeals then none
    else if s.signOk then
      let (i, s1) := s.reserveIndex
      let part := s1.sealPart t 1 0xFF i
      let (sig, s2) := s1.hssSign i part
      some (s2.storeSeal (part ++ p32 sig.length ++ sig) t.term 1 i)
    else
      let k := s.arc.sealMacSlot.toNat
      if s.macSlotOk k polPartnerMac none then
        let part := s.sealPart t 2 k 0xFFFFFFFF
        some (s.storeSeal (part ++ p32 32 ++ Hash.hmac 1 (s.slot k).key part) t.term 2 0xFFFFFFFF)
      else none

/-- Sealing as class 4 work at rank 3, as soon as the budget admits it. -/
def State.sealCompute (s : State) : State :=
  if s.admits 4 3 none then (s.makeSeal).elim s fun s1 => s1.charge 4 3 (s.jobCost 4 none) else s

/-! ## Card requests (R284, R287, R288) -/

/-- A request's KIND, MAC_SLOT and NONCE. -/
structure CardReq where
  kind : Nat
  macSlot : Nat
  nonce : Bytes

/-- OP 0 of service 0x02, and the layout of 0x2920. -/
def hostCardReq (b : Bytes) : CardReq := { kind := u8 b 1, macSlot := u8 b 2, nonce := field b 8 32 }
def partnerCardReq (b : Bytes) : CardReq := { kind := u8 b 0, macSlot := u8 b 1, nonce := field b 4 32 }

/-- The time in µs until the next pace token (R284). -/
def State.paceWait (s : State) : Nat := s.arc.paceAt + 3600 * second / max 1 s.arc.paceH - s.timeBase.toNat

/-- A card with its authentication (R285); none where signing or the slot has become unavailable. -/
def State.makeCard (s : State) (r : CardReq) (requester : Nat) (host : Option Host24) : Option (Bytes × State) :=
  if r.kind = 1 then
    if s.signOk then
      let (i, s1) := s.reserveIndex
      let body := s1.cardBody 1 requester r.nonce i 0xFF
      let (sig, s2) := s1.hssSign i body
      some (body ++ p32 sig.length ++ sig, s2)
    else none
  else if s.macSlotOk r.macSlot (if host.isSome then polHostCard else polPartnerMac) host then
    let body := s.cardBody 2 requester r.nonce 0xFFFFFFFF r.macSlot
    some (body ++ p32 32 ++ Hash.hmac 1 (s.slot r.macSlot).key body, s)
  else none

/-- The first waiting card is made and delivered: to a host's kept card and mailbox result, or to the session that asked. -/
def State.finishCard (s : State) : State :=
  match s.arc.cardWait with
  | [] => s
  | w :: rest =>
    let s0 := s.modArc fun a => { a with cardWait := rest }
    if hw : w < 24 then
      let h : Host24 := ⟨w, hw⟩
      match (s.port h).hpw.request with
      | none => s0
      | some q =>
        match s0.makeCard (hostCardReq q.payload) h.val (some h) with
        | some (c, s1) =>
          (s1.modArc fun a => { a with cards := a.cards.set h.val (some c) h.isLt }).modHpw h fun x => { x with
            result := some { code := mbOk, retry := 0, rsp := p32 c.length } }
        | none => s0.modHpw h fun x => { x with result := some { code := mbGone, retry := 0, rsp := [] } }
    else
      let k := w - 32
      match (s.session k).bind Session.cardReq with
      | none => s0
      | some b =>
        match s0.makeCard (partnerCardReq b) 0xFE none with
        | some (c, s1) => s1.modSession k fun x => { x with card := c, cardReq := none }
        | none => s0.modSession k fun x => { x with cardReq := none }

def waiterHost (w : Nat) : Option Host24 := if h : w < 24 then some ⟨w, h⟩ else none

/-- The first waiting card, as class 5 work at rank 7 (R367). -/
def State.cardAdmit (s : State) : State :=
  match s.arc.cardWait with
  | [] => s
  | w :: _ =>
    let host := waiterHost w
    if s.admits 5 7 host then (s.charge 5 7 (s.jobCost 5 host)).finishCard else s

/-- A request that may wait takes its place, a pace token with it where it is signed. -/
def State.cardJoin (s : State) (who kind : Nat) : State :=
  (s.modArc fun a => { a with cardWait := a.cardWait ++ [who], tokens := if kind = 1 then a.tokens - 1 else a.tokens }).cardAdmit

/-! ## SIG_SCMD (R282, R291) -/

def srExhausted : Nat := 1
def srKey : Nat := 2
def srReadErr : Nat := 4

def State.signEnd (s : State) (r : Nat) : State :=
  { s with free := s.free + 1 }.modSigner fun g => { g with
    busy := false, building := false, done := true, reason := BitVec.ofNat 4 r, time := (Config.freeWord s.free).setWidth 32 }

def State.signStart (s : State) : State :=
  if s.signer.busy then s
  else
    let s0 := s.modSigner fun g => { g with done := false, reason := 0 }
    if signMax ≤ s.signer.next.toNat then s0.signEnd srExhausted
    else if !s.signOk then s0.signEnd srKey
    else
      let (i, s1) := s0.reserveIndex
      s1.modSigner fun g => { g with
        busy := true, building := i % 1024 = 0 || g.bottom.elim true fun x => x.1 ≠ i / 1024 }

/-- The signature completes: message read with SIG's own ID, output written with the management processor's. -/
def State.signDone (s : State) : State :=
  if !s.signer.busy then s
  else
    let n := s.signer.msgLen.toNat
    if n < 1 || 16384 < n then s.signEnd srReadErr
    else
      match s.memRead (.hw 1) (s.signer.msgAddr.toNat / 4 * 4) n with
      | (none, s1) => s1.signEnd srReadErr
      | (some m, s1) =>
        let (sig, s2) := s1.hssSign s.signer.reserved m
        let (ok, s3) := s2.memWrite .mgpPriv (s.signer.outAddr.toNat / 4 * 4) sig
        if ok then (s3.modSigner fun g => { g with idx := BitVec.ofNat 32 s.signer.reserved }).signEnd 0 else s3.signEnd srReadErr

end Sys2Proof.Machine
end

