-- ==== Sys2Proof/Machine/ArchiveCommands.lean ====
section
/-! DEFINITION. The commands of the archive engine and of identity signing that no partner writes (chapter 9). -/
namespace Sys2Proof.Machine

/-- The open Term reaches a boundary or its limit (R271). -/
def execTermBoundary (s : State) := done s.termBoundary
def execSealCompute (s : State) := done s.sealCompute
def execPageFlushDone (s : State) := done s.flushPage
def execSigScmdStart (s : State) := done s.signStart
def execSignatureDone (s : State) := done s.signDone

/-- One token more, up to SIGN_PACE_H (R284). -/
def execPaceTokenRefill (s : State) :=
  done (s.modArc fun a => { a with tokens := min a.paceH (a.tokens + 1), paceAt := s.timeBase.toNat })

end Sys2Proof.Machine
end

