-- ==== Sys2Proof/Machine/UpdateFlow.lean ====
section
/-! DEFINITION. The download, the commands of 0x2802.01 and the steps of an update that time and conditions bring (R235 to R256), and
the patch engine on its own (R233, R234). -/
namespace Sys2Proof.Machine

/-! ## Bundle pieces (R237 to R240) -/

def pieceLen : Nat := 1048576

/-- A piece's data may end at `stop` of a bundle of `total` bytes: 0, or the abort code. -/
def pieceFit (n stop total : Nat) : Nat :=
  if total < stop then 0x08000006 else if n ≠ pieceLen && stop ≠ total then 0x08000001 else 0

/-- The engine takes the piece's data: the last one begins CHECKING. -/
def Update.takePiece (u : Update) (data : Bytes) : Update :=
  let b := u.bundle ++ data
  { u with bundle := b, resume := b.length, state := if b.length = u.bundleLen then .checking else .receiving }

def Update.busyNow (u : Update) : Bool := u.state = .activating || u.state = .trial || u.state = .reverting

/-- A piece at offset 0 (R238, R239). -/
def State.firstPiece (s : State) (data : Bytes) : Nat × State :=
  if s.upd.busyNow then (0x08000005, s)
  else if s.refusals ≠ 0 then (0x08000002, s.raise 0x0802 srcFW (p8 s.refusals))
  else
    let n := s.firstPieceFailed data (s.upd.bundleAreaMib * 2 ^ 20) false
    let code := if n ≠ 0 then n else pieceFit data.length data.length (bundleLenOf data)
    if code ≠ 0 then (code, (s.sylSigEvent data (s.upd.bundleAreaMib * 2 ^ 20) false).raise 0x0803 srcFW (p32 code))
    else
      let s1 := s.releaseStaged.modUpd fun u => ({ u with bundle := [], bundleLen := bundleLenOf data, resume := 0 } : Update).takePiece data
      (0, s1.raise 0x0801 srcFW (bundleId data ++ p32 (bundleLenOf data)))

/-- A piece written to 0x2801: a U32 offset and data; the abort code, or 0. -/
def State.bundlePiece (s : State) (b : Bytes) : Nat × State :=
  let o := u32 b 0
  let data := b.drop 4
  if b.length < 4 then (0x08000001, s)
  else if o = 0 then s.firstPiece data
  else if s.upd.busyNow then (0x08000005, s)
  else if s.upd.state ≠ .receiving || o ≠ s.upd.resume then (0x08000001, s)
  else
    let code := pieceFit data.length (o + data.length) s.upd.bundleLen
    if code ≠ 0 then (code, s) else (0, s.modUpd fun u => u.takePiece data)

/-! ## The commands of 0x2802.01 (Table 8.8) -/

def State.outcome (s : State) (o : Nat) : State := s.modUpd fun u => { u with outcome := o }

/-- STAGED again after a wait that ended without activation: outcome and EV 0x0807. -/
def State.backToStaged (s : State) (o : Nat) : State :=
  (s.modUpd fun u => { u with state := .staged, outcome := o, deadline := none }).raise 0x0807 srcFW (p8 o ++ p8 s.refusals)

def State.activate (s : State) : State :=
  if s.upd.state ≠ .staged then s.outcome ocBusy
  else if s.refusals ≠ 0 then s.backToStaged ocRefusedState
  else if s.setRefused s.upd.bundle then s.backToStaged ocTableRejected
  else
    match s.prepareTables s.upd.bundle with
    | none => s.backToStaged ocTableRejected
    | some s1 => s1.modUpd fun u => { u with state := .activating, deadline := some (s.timeBase.toNat + u.actWaitS * second) }

def State.discardBundle (s : State) : State :=
  if s.upd.state = .receiving || s.upd.state = .checking || s.upd.state = .staged then
    s.releaseStaged.modUpd fun u => { u with state := .idle, outcome := ocDiscarded, bundle := [], bundleLen := 0, resume := 0 }
  else s.outcome ocBusy

def State.abandonTrial (s : State) : State := if s.upd.state = .trial then s.revert rvAbandoned else s.outcome ocBusy

/-! ## Activation (R244, R245) -/

/-- The slots that the Syllabus built are candidates from the commit on (R229). -/
def State.unstage (s : State) (b : Bytes) : State :=
  (imageTargets b).foldl (fun st x =>
    let k := s.targetSlot x.2.1 x.2.2
    st.setExtents x.2.2 ((st.extents x.2.2).map fun e =>
      if overlaps e.vbase e.pages (s.slotFirst x.2.2 k) (s.slotPages x.2.2 k) then { e with staged := false } else e)) s

/-- Steps 1 to 5 of R245. -/
def State.activateNow (s : State) (b : Bytes) : State :=
  let r := s.newRecord b
  let s1 := if r.fwNamed then s else s.writeGeneration s.genNow r.settingsDir b
  let s2 := (s1.unstage b).modUpd fun u => ({ u with trialCount := 0, trialCountSeq := r.actSeq.toNat % 2 ^ 24, outcome := ocOk } : Update).writeRecord r
  (s2.raise 0x0808 srcFW (p32 (sylSeq b) ++ p32 r.actSeq.toNat)).rollForward 1

/-- The wait of R244: activation once every condition holds, TABLE_REJECTED where a check refuses. -/
def State.tryActivate (s : State) : State :=
  let b := s.upd.bundle
  if s.upd.state ≠ .activating || !s.fwRuns then s
  else if s.setRefused b || (syllabusTables b).any fun x => !(s.withBells b).ttPlaceable x.2 x.1 then s.backToStaged ocTableRejected
  else if s.mayActivate b then s.activateNow b
  else s

def State.actTimeout (s : State) : State :=
  if s.upd.state = .activating && s.upd.deadline.elim false fun d => d ≤ s.timeBase.toNat then s.backToStaged ocTimeout else s

/-- The Trial deadline passes (R247). -/
def State.trialDeadline (s : State) : State :=
  if s.upd.state = .trial && s.upd.deadline.elim false fun d => d ≤ s.timeBase.toNat then s.revert rvDeadline else s

/-! ## Confirmation (R249, R250) -/

/-- Step 1: new writes of the Trial hosts are held; the record is committed once their pending writes are durable. -/
def State.tryConfirm (s : State) : State :=
  match s.upd.inForce with
  | none => s
  | some r =>
    if s.upd.state ≠ .trial || !s.fwRuns || !s.mayConfirm r then s
    else
      let s1 := (hostsIn r.trialHosts).foldl (fun st h => st.modImg h fun i => { i with releasing := true }) s
      if (hostsIn r.trialHosts).all fun h => (s.port h).pending.elim true fun w => w.held then s1.confirm r
      else s1.modUpd fun u => { u with confirming := true }

/-! ## The patch engine (R233, R234) -/

def State.patStart (s : State) : State :=
  if s.upd.pat.busy then s
  else s.modUpd fun u => { u with pat := { u.pat with busy := true, done := false, err := 0, out := 0, ops := 0, abort := false } }

def State.patAbort (s : State) : State :=
  if s.upd.pat.busy then s.modUpd fun u => { u with pat := { u.pat with abort := true } } else s

/-- What a build had done when ABORT stopped it after `pages` output pages. -/
def cutBuild (b : Built) (part : Nat → Built) (pages : Nat) : Built :=
  let n := pages * pageSize
  let ops := ((List.range (b.ops + 1)).filter fun k => (part k).out.length ≤ n).length - 1
  { err := errAborted, pos := (part ops).pos, out := b.out.take n, ops }

/-- A payload's first `k` operations. -/
def partBuild (delta : Bool) (p : Bytes) (src : Nat → Nat → Option Bytes) (k : Nat) : Built :=
  if delta then runDelta src (payloadImage p) (deltaSourceLen (payloadImage p)) (envLength (payloadEnv p)) k 32 [] 0
  else if k = 0 then { err := errShort, pos := 0, out := [], ops := 0 } else buildImage false p 0 src

/-- The build of PAT_JOB's host target ends: the pages built are written to the slot's STAGED extents. -/
def State.patHost (s : State) (i : Item) (k : Fin 3) (h : Host24) (pages : Nat) (writeErr : Bool) : Built × State :=
  let p := i.payload s.upd.bundle
  let whole := s.buildHost i p h
  let b := if s.upd.pat.abort then cutBuild whole (partBuild i.isDelta p (s.hostSource h)) pages else whole
  let lo := s.slotFirst h k
  let blocks := envBlocks (payloadEnv p)
  if !(s.runPlaced h lo (16 * blocks) && (s.extents h).all fun e => !overlaps e.vbase e.pages lo (16 * blocks) || e.staged) then
    ({ b with err := errNoSpace, out := [] }, s)
  else if b.err ≠ 0 && b.err ≠ errAborted then (b, s)
  else
    let s1 := if b.err = 0 then s.writeImage h lo blocks b.out
      else (List.range (b.out.length / pageSize)).foldl (fun st j => st.controllerWrite h (lo + j) (some (field b.out (j * pageSize) pageSize))) s
    (if writeErr then { b with err := errWrite } else b, s1)

/-- The build of the firmware slot that is not preferred. -/
def State.patFw (s : State) (i : Item) (writeErr : Bool) : Built × State :=
  let p := i.payload s.upd.bundle
  let b := s.buildFw i p
  if b.err ≠ 0 then (b, s)
  else if s.upd.pat.abort then ({ b with err := errAborted }, s)
  else if writeErr then ({ b with err := errWrite }, s)
  else (b, s.writeFwSlot s.fwTarget (payloadEnv p) b.out)

/-- The build that PAT_JOB describes ends; an item that the bundle does not hold for the target gives BAD_HEADER. -/
def State.patDone (s : State) (pages : Nat) (writeErr : Bool) : State :=
  let j := s.upd.pat
  if !j.busy then s
  else
    let bad : Built := { err := errHeader, pos := 0, out := [], ops := 0 }
    let (b, s1) := match (itemsOf s.upd.bundle)[j.item.toNat]? with
      | none => (bad, s)
      | some i =>
        if j.host = 31 then (if i.isFw && j.slot = 3 then s.patFw i writeErr else (bad, s))
        else if hh : j.host.toNat < 24 ∧ j.slot.toNat < 3 then
          (if i.isImage && i.names j.host.toNat then s.patHost i ⟨j.slot.toNat, hh.2⟩ ⟨j.host.toNat, hh.1⟩ pages writeErr else (bad, s))
        else (bad, s)
    s1.patReport j.host.toNat j.item.toNat b

end Sys2Proof.Machine
end

