-- ==== Sys2Proof/Machine/LifeCycle.lean ====
section
/-! DEFINITION. Life-cycle transitions and their fuses (R416 to R427), and the debug master: provisioning, unlocking and locking
(R429 to R432). -/
namespace Sys2Proof.Machine

/-! ## Fuses (R424, R425) -/

/-- Table 15.5: the full words of the groups G1 to G4. -/
def fuseWords : List Nat :=
  [0x5A5AA5A5, 0x3C3CC3C3, 0x0FF0F00F, 0x69699696, 0xA5A55A5A, 0xC3C33C3C, 0xF00F0FF0, 0x96966969,
   0x33CCCC33, 0x55AAAA55, 0x0F0FF0F0, 0x66999966, 0xCC3333CC, 0xAA5555AA, 0xF0F00F0F, 0x99666699]
def fuseFull (i : Nat) : Word := BitVec.ofNat 32 (fuseWords.getD i 0)

inductive GroupState where
  | blank | full | partly
  deriving DecidableEq, Repr

def groupState (f : Vector Word 16) (g : Nat) : GroupState :=
  let ws := (List.range 4).map fun j => (f.toList.getD (4 * g + j) 0, fuseFull (4 * g + j))
  if ws.all fun x => x.1 = 0 then .blank else if ws.all fun x => x.1 = x.2 then .full else .partly

/-- Table 15.6. -/
def decodeFuses (f : Vector Word 16) : LcState :=
  let low := match groupState f 0, groupState f 1, groupState f 2 with
    | .blank, .blank, .blank => LcState.maker
    | .full, .blank, .blank => .integrator
    | .full, .full, .blank => .fielded
    | .full, .full, .full => .returned
    | _, _, _ => .indeterminate
  match groupState f 3 with
  | .blank => low
  | .full => if low = .indeterminate then .indeterminate else .scrapped
  | .partly => .indeterminate

/-- The condition of a group in EV 0x0F04, whose code the spec does not print. -/
def GroupState.code : GroupState → Nat
  | .blank => (Config.eventCode 0x0F04 0).toNat
  | .full => (Config.eventCode 0x0F04 1).toNat
  | .partly => (Config.eventCode 0x0F04 2).toNat

/-- LCC decodes the fuses; EV 0x0F04 where no row fits. -/
def State.lccDecode (s : State) : State :=
  let d := decodeFuses s.lcc.fuses
  { s with lcc := { s.lcc with state := d } }.raiseIf (d = LcState.indeterminate) 0x0F04 srcSYS
    ((List.range 4).flatMap fun g => p8 (groupState s.lcc.fuses g).code)

/-! ## Hold-up (R427) -/

/-- E in µJ from the ball's voltage in mV. -/
def holdupEnergy (capUf div vmin ball : Nat) : Nat :=
  let vc := ball * 2 ^ div
  let vm := vmin * 100
  if vc ≤ vm then 0 else capUf * (vc * vc - vm * vm) / 2000000

def transitionUj : Nat := 2400

/-! ## The debug master (R429 to R432) -/

def State.modDbg (s : State) (f : Dbg → Dbg) : State := { s with dbg := f s.dbg }

/-- A provisioning session closes: the key load buffer clears. -/
def State.provClose (s : State) : State :=
  if !s.dbg.prov then s
  else ({ s.modDbg fun d => { d with prov := false } with keys := { s.keys with loadData := [] } }).raise 0x0F08 srcFW (p8 0)

def State.provOpen (s : State) : State :=
  if s.dbg.open_ && !s.dbg.prov && (s.lcc.state = .maker || s.lcc.state = .integrator) then
    (s.modDbg fun d => { d with prov := true }).raise 0x0F08 srcFW (p8 1)
  else s

/-- Causes of EV 0x0F06 and paths of EV 0x0F05 and EV 0x0F07, whose codes the spec does not print. -/
def lockDuration : Nat := (Config.eventCode 0x0F06 0).toNat
def lockCtrl : Nat := (Config.eventCode 0x0F06 1).toNat
def lockTransition : Nat := (Config.eventCode 0x0F06 2).toNat
def lockColdStart : Nat := (Config.eventCode 0x0F06 3).toNat
def pathDict : Nat := (Config.eventCode 0x0F05 0).toNat
def pathJtag : Nat := (Config.eventCode 0x0F05 1).toNat

/-- The open debug master locks. -/
def State.lockDebug (s : State) (cause : Nat) : State :=
  if !s.dbg.open_ then s
  else (s.provClose.modDbg fun d => { d with open_ := false, until_ := none }).raise 0x0F06 srcFW (p8 cause)

def challengeLife : Nat := 300 * second
def suspendTime : Nat := 600 * second

def State.chalSuspended (s : State) : Bool := s.dbg.suspended.isSome

/-- A challenge for the JTAG path. -/
def State.jtagChallenge (s : State) : State :=
  if s.chalSuspended then s.modDbg fun d => { d with result := 3 }
  else
    match s.draw 32 false conChallenge with
    | (none, s1) => s1
    | (some b, s1) => s1.modDbg fun d => { d with chal := some { bytes := b, issued := s.timeBase.toNat }, chalBytes := b }

/-- The MAC of Table 15.8. -/
def State.unlockMac (s : State) (chal resp : Bytes) : Bytes :=
  Hash.hmac 1 (s.slot 1).key (ascii "KRDU" ++ chal ++ unitIdBytes ++ field resp 0 1 ++ field resp 4 4)

/-- Three mismatches within 600 s suspend challenges. -/
def Dbg.mismatch (d : Dbg) (now : Nat) : Dbg :=
  let l := now :: d.mismatches.filter fun t => now < t + suspendTime
  if 3 ≤ l.length then { d with mismatches := [], suspended := some now, chal := none } else { d with mismatches := l }

/-- An unlock response on a path that holds challenge `chal`: RESULT 0 to 3; the challenge is spent by the caller. -/
def State.unlock (s : State) (chal : Option (Bytes × Nat)) (resp : Bytes) (path : Nat) : Nat × State :=
  let now := s.timeBase.toNat
  if s.chalSuspended then (3, s)
  else
    match chal with
    | none => (1, s)
    | some (c, t) =>
      let dur := u32 resp 4
      if t + challengeLife ≤ now || resp.length ≠ 40 || u8 resp 0 ≠ 1 || !allZero (field resp 1 3) || !between 60 86400 dur ||
          !(s.lcc.state = .fielded || s.lcc.state = .returned) then (1, s)
      else if s.keysOpen && (s.slot 1).live && s.unlockMac c resp = field resp 8 32 then
        (0, (s.modDbg fun d => { d with open_ := true, until_ := some (now + dur * second) }).raise 0x0F05 srcFW (p8 path ++ p32 dur))
      else (2, (s.modDbg fun d => d.mismatch now).raise 0x0F07 srcFW (p8 path))

/-- A write of DBG_RESP9 submits the response of the JTAG path. -/
def State.jtagSubmit (s : State) : State :=
  let (r, s1) := s.unlock (s.dbg.chal.map fun c => (c.bytes, c.issued)) (s.dbg.resp.toList.flatMap fun w => p32 w.toNat) pathJtag
  s1.modDbg fun d => { d with result := BitVec.ofNat 2 r, chal := none }

def State.debugExpire (s : State) : State :=
  match s.dbg.until_ with
  | some t => if t ≤ s.timeBase.toNat then s.lockDebug lockDuration else s
  | none => s

/-! ## The DBG registers (R434) -/

/-- DBG_CTRL: each bit set acts, the lowest first. -/
def State.dbgCtrl (s : State) (v : Word) : State :=
  let s1 := if v.getLsbD 0 then s.lockDebug lockCtrl else s
  let s2 := if v.getLsbD 1 then s1.modDbg fun d => { d with sticky := false } else s1
  let s3 := if v.getLsbD 2 then s2.jtagChallenge else s2
  let s4 := if v.getLsbD 3 then s3.provOpen else s3
  if v.getLsbD 4 then s4.provClose else s4

def State.dbgRegWrite (s : State) (off : Nat) (v : Word) : State :=
  if off = 4 then s.dbgCtrl v
  else if h : 0x20 ≤ off / 2 ∧ off % 4 = 0 ∧ (off - 0x40) / 4 < 10 then
    let s1 := s.modDbg fun d => { d with resp := d.resp.set ((off - 0x40) / 4) v h.2.2 }
    if off = 0x64 then s1.jtagSubmit else s1
  else s

def State.chalValid (s : State) : Bool := s.dbg.chal.elim false fun c => decide (s.timeBase.toNat < c.issued + challengeLife)

def State.dbgRegRead (s : State) (off : Nat) : Nat :=
  let d := s.dbg
  if off = 0 then b2n d.open_ + 2 * b2n d.prov + 4 * b2n d.sticky + 8 * b2n s.chalValid + 16 * d.result.toNat
  else if off = 8 then d.until_.elim 0 fun t => (t - s.timeBase.toNat + (second - 1)) / second
  else if 0x20 ≤ off ∧ off < 0x40 then u32 d.chalBytes (off - 0x20)
  else 0

/-! ## Requests (R420 to R422) -/

/-- Who asks for a transition. -/
inductive LcPath where
  | jtag
  | role (r : Nat)
  | other
  deriving DecidableEq, Repr

/-- A row of Table 15.2 and its authorisation. -/
def lcRow (src : LcState) (target : Nat) (p : LcPath) : Bool :=
  let own := p = .role 1
  let any := own || p = .role 2 || p = .jtag
  match src with
  | .maker => (target = 2 || target = 5) && p = .jtag
  | .integrator => (target = 3 || target = 5) && any
  | .fielded => (target = 4 || target = 5) && own
  | .returned => target = 5 && own
  | .scrapped | .indeterminate => false

/-- The row's preconditions. -/
def State.lcPre (s : State) (target : Nat) : Bool :=
  match target with
  | 2 => (s.slot 62).live && (s.slot 63).live
  | 3 => (s.slot 0).live && (s.slot 1).live && (s.slot 2).live && s.lcc.capUf ≠ 0
  | _ => true

/-- Table 15.4: the first check that fails, or 0. -/
def State.lcFailed (s : State) (layout : Bool) (target : Nat) (p : LcPath) : Nat :=
  if !layout then 1
  else if !lcRow s.lcc.state target p then 2
  else if !s.lcPre target then 3
  else if s.lcc.hue.toNat < transitionUj then 4
  else if s.lcc.phase ≠ .none || s.upd.busyNow then 5
  else 0

/-- A transition request of Table 15.3 has its layout and this unit's UNIT_ID. -/
def lcRequestOk (b : Bytes) : Bool :=
  b.length = 24 && u32 b 0 = 0x544C524B && u16 b 4 = 1 && u8 b 7 = 0 && field b 8 16 = unitIdBytes

/-- The group that a target completes. -/
def lcGroup (target : Nat) : Nat := target - 2

/-- Step 4: hosts that are Measuring, On Hall pass or Running are held. -/
def State.lcHold (s : State) : State :=
  let hs := all24.filter fun h => match (s.imgOf h).state with
    | .measuring | .hallPass | .running => true
    | _ => false
  let s1 := { s with lcc := { s.lcc with heldHosts := hs } }
  hs.foldl (fun st h => st.toHeld h) s1

/-- Step 5: the open Term closes and is sealed, exempt from the budget. -/
def State.lcSeal (s : State) : State :=
  let s1 := s.closeTerm causeLifeCycle
  if s.arc.created && s.lcSeals then (s1.makeSeal).getD s1 else s1

/-- Steps 2 to 5 of R422. -/
def State.lcBegin (s : State) (target : Nat) : State :=
  let s1 := { s with lcc := { s.lcc with
    phase := .sample, target := target, rec2002 := target * 256 + 1, xStatus := 1, xCause := 0, xTarget := target } }
  let s2 := ((s1.raise 0x0F01 srcFW (p8 s.lcc.state.code ++ p8 target ++ p32 s.lcc.hue.toNat)).wake wkInternal 0)
  let s3 := sessionNos.foldl (fun st k => st.closeSession k 7 true) s2
  (s3.provClose.lockDebug lockTransition).lcHold.lcSeal

/-- A request through 0x2001: its abort code, or 0. -/
def State.lcRequest (s : State) (b : Bytes) (role : Nat) : Nat × State :=
  let target := u8 b 6
  let n := s.lcFailed (lcRequestOk b) target (.role role)
  if n = 0 then (0, s.lcBegin target) else (n, s.raise 0x0F03 srcFW (p8 target ++ p8 n))

/-- A write of LCC_CMD. -/
def State.lccCmd (s : State) (m : Master) (v : Word) : State :=
  if bits v.toNat 16 16 ≠ 0x4C43 then s
  else
    let target := bits v.toNat 0 8
    let n := s.lcFailed true target (if m = .debug && s.dbg.prov then .jtag else .other)
    if n = 0 then s.lcBegin target
    else
      { s with lcc := { s.lcc with xStatus := 3, xCause := n, xTarget := target, rec2002 := target * 256 + 2 } }.raise 0x0F03 srcFW (p8 target ++ p8 n)

/-- Step 6, from a HOLDUP_SENSE sample. -/
def State.lcSample (s : State) : State :=
  if s.lcc.phase ≠ .sample then s
  else if s.lcc.hue.toNat < transitionUj then
    { s with lcc := { s.lcc with phase := .none, rec2002 := s.lcc.target * 256 + 2, xStatus := 3, xCause := 6, heldHosts := [] } }.raise 0x0F03 srcFW
      (p8 s.lcc.target ++ p8 6)
  else { s with lcc := { s.lcc with phase := .writing } }

/-- Fuse bits that were set by writing a group: `got` is what each word reads back; writing stops at a word that is not full. -/
def burnGroup (f : Vector Word 16) (g : Nat) (got : List Word) : Nat → Vector Word 16
  | 0 => f
  | n + 1 =>
    let f1 := burnGroup f g got n
    let i := 4 * g + n
    if (List.range n).all fun j => f1.toList.getD (4 * g + j) 0 = fuseFull (4 * g + j) then
      (if h : i < 16 then f1.set i ((f1.get ⟨i, h⟩) ||| (got.getD n 0 &&& fuseFull i)) else f1)
    else f1

/-- Steps 7 to 9. -/
def State.lcWritten (s : State) (got : List Word) : State :=
  if s.lcc.phase ≠ .writing then s
  else
    let f := burnGroup s.lcc.fuses (lcGroup s.lcc.target) got 4
    let s1 := ({ s with lcc := { s.lcc with fuses := f } }).lccDecode
    ({ s1 with lcc := { s1.lcc with
      phase := .none, rec2002 := s.lcc.target * 256, xStatus := 2, xCause := 0, heldHosts := [] } }).raise 0x0F02 srcSYS (p8 s1.lcc.state.code)

end Sys2Proof.Machine
end

