-- ==== Sys2Proof/Machine/DigestCommands.lean ====
section
/-! DEFINITION. The commands of the digest cluster and of signature verification (chapter 7). -/
namespace Sys2Proof.Machine

def dgcBase : Nat := 0x40090000
def resBase (k : Nat) : Nat := 0x40091000 + k * 0x80

/-- DGC_SUBMIT (R197). -/
def execDgcSubmit (m : Master) (a : Word) (s : State) :=
  done (s.busWrite m (dgcBase + 0xC) fun t => t.submitJob m a.toNat)

/-- DGC_RES_REL (R214). -/
def execDgcResRel (m : Master) (k : Fin 64) (s : State) :=
  done (s.busWrite m (dgcBase + 0x14) fun t => t.releaseSet k.val m)

/-- DGC_ABORT (R214). -/
def execDgcAbort (m : Master) (k : Fin 64) (s : State) :=
  done (s.busWrite m (dgcBase + 0x18) fun t => t.abortJob k.val m)

/-- DGC_RES_DIN (R206). -/
def execDgcResDin (m : Master) (k : Fin 64) (v : Word) (s : State) :=
  done (s.busWrite m (resBase k.val + 0x50) fun t => t.feedWord k.val m v)

/-- DGC_LASTW (R208). -/
def execDgcLastw (m : Master) (k : Fin 64) (v : Word) (s : State) :=
  done (s.busWrite m (resBase k.val + 0x54) fun t => t.lastWord k.val m (v.toNat % 4))

/-- A waiting job starts; `kat` lists the cores that fail their test now, each with the algorithm (R195, R198). -/
def execJobStart (kat : List (Nat × Nat)) (s : State) := done (s.failCores kat).startJob

/-- A job that has all its data ends (R213). -/
def execJobComplete (k : Fin 64) (s : State) :=
  done (match s.dgc.running.find? fun x => x.2.set = k.val with
    | some (_, j) => if j.complete then s.finishJob j else s
    | none => s)

/-- A PUSH job on its core has waited STALL_MS for data (R207). -/
def execJobStall (k : Fin 64) (s : State) :=
  done (match s.dgc.running.find? fun x => x.2.set = k.val with
    | some (_, j) => if j.complete then s
        else (s.endJob k.val fun r => { r with lengthShort := true, count := BitVec.ofNat 64 j.fed.length }).shortEvent j
    | none => s)

/-- SIG_VCMD.START (R220); a length outside 1 to 16,384 ends it at once (R218). -/
def State.sigStart (s : State) : State :=
  if s.sig.busy then s
  else
    let n := s.sig.sigLen.toNat
    let s1 := { s with sig := { s.sig with busy := true, done := false, pass := false, reason := 0, level := 0, start := s.timeBase.toNat } }
    if n < 1 ∨ 16384 < n then s1.sigEnd Lms.rMalformed 0 else s1

def execSigVerifyStart (s : State) := done s.sigStart

/-- SIG_VCMD.ABORT (R221). -/
def State.sigAbort (s : State) : State := if s.sig.busy then s.sigEnd Lms.rAborted 0 else s

def execSigVerifyAbort (s : State) := done s.sigAbort

/-- The message of SIG_VMSG: SRAM, or a host's committed data. -/
def State.sigMessage (s : State) : Option Bytes × State :=
  let v := s.sig
  if v.src = 2 then
    (if hh : v.host.toNat < 24 then s.flashRead ⟨v.host.toNat, hh⟩ false v.msgAddr.toNat v.msgLen.toNat else none, s)
  else if v.src = 0 then s.memRead (.hw 1) v.msgAddr.toNat v.msgLen.toNat
  else (none, s)

/-- The outcome of R220. -/
def State.sigOutcome (s : State) : State :=
  if !s.sig.busy then s
  else if !s.slotVerifies s.sig.slot.toNat s.sig.cls.toNat then s.sigEnd Lms.rKeySlot 0
  else
    match s.memRead (.hw 1) s.sig.sigAddr.toNat s.sig.sigLen.toNat with
    | (none, s1) => s1.sigEnd Lms.rReadErr 0
    | (some sg, s1) =>
      let (msg, s2) := s1.sigMessage
      let r := s2.verifySig true s2.sig.slot.toNat sg msg
      s2.sigEnd r.1 r.2

def execSigVerifyDone (s : State) := done s.sigOutcome

end Sys2Proof.Machine
end

