-- ==== Sys2Proof/Machine/EventLog.lean ====
section
/-! DEFINITION. Event records and their ring (R483 to R489), firmware events and the SRAM patrol (R480, R481, R491). -/
namespace Sys2Proof.Machine

/-- Table 18.7. -/
def securityCodes : List Nat :=
  [0x0002, 0x0011, 0x1001, 0x1002, 0x0230, 0x0231, 0x0232, 0x0233, 0x0236, 0x0237, 0x0238, 0x023A, 0x023B,
   0x0301, 0x0302, 0x0303, 0x0304, 0x0311, 0x041A, 0x0501, 0x0506, 0x0601, 0x0602, 0x0606, 0x0608, 0x060A,
   0x0701, 0x0702, 0x0703, 0x0704, 0x0711, 0x0712, 0x0713, 0x0722,
   0x0801, 0x0803, 0x0804, 0x0805, 0x0807, 0x0808, 0x080A, 0x080B, 0x080C, 0x0904, 0x090A, 0x0A03, 0x0A0D, 0x0A0E, 0x0A0F,
   0x0B02, 0x0B04, 0x0B05, 0x0B06, 0x0B07, 0x0C01, 0x0C03, 0x0C05, 0x0D04, 0x0D05, 0x0E01, 0x0E03,
   0x0F01, 0x0F02, 0x0F03, 0x0F04, 0x0F05, 0x0F06, 0x0F07, 0x0F08]
def isSecurity (code : Nat) : Bool := securityCodes.contains code

/-- Table 18.5. -/
def EventRec.bytes (r : EventRec) : Bytes :=
  let e := r.ev
  let b := p64 r.seq ++ p64 e.tb.toNat ++ p16 e.code ++ p8 1 ++ p8 (b2n (isSecurity e.code)) ++ p32 e.boot.toNat ++
    p8 e.params.length ++ p8 e.source ++ p16 0 ++ padTo 16 (e.params.take 16)
  b ++ p32 (crc32c b)

/-- SEQ of the newest and the oldest record held. -/
def Evl.newest (e : Evl) : Nat := e.ring.getLast?.elim Config.emptyNewest.toNat EventRec.seq
def Evl.oldest (e : Evl) : Nat := e.ring.head?.elim Config.emptyOldest.toNat EventRec.seq

/-- EVENT records of the open Term (R488). -/
def Arc.eventCount (a : Arc) : Nat :=
  (a.pages.filter fun p => p.term = a.term.toNat).foldl (fun n p => n + (p.records.filter fun b => u8 b 13 = 0xF4).length) 0

/-- A security record goes to the archive, or is counted when it does not. -/
def State.appendSecurity (s : State) (r : EventRec) : State :=
  if !isSecurity r.ev.code || !s.arc.created || !s.lcSeals then s
  else if 64 ≤ s.arc.eventCount then s.modArc fun a => { a with refcnt := a.refcnt.inc }
  else (s.ctrlAppend 0xF4 r.bytes).2

/-- The first queued event is written to the ring (R485 to R488); no word write starts below VDD_WARN. -/
def State.eventWritten (s : State) : State :=
  match s.evl.queue with
  | [] => s
  | ev :: rest =>
    if s.evl.scanning || s.vddWarn then s
    else
      let r : EventRec := { seq := s.evl.nextSeq, ev := ev }
      let full := evlRingLen ≤ s.evl.ring.length
      (s.modEvl fun e => { e with
        queue := rest, ring := (if full then e.ring.tail else e.ring) ++ [r], nextSeq := e.nextSeq + 1
        overwr := if full then e.overwr.inc else e.overwr }).appendSecurity r

/-- Records from SEQ `a` on, at most `n`. -/
def Evl.recordsFrom (e : Evl) (a n : Nat) : List EventRec := (e.ring.filter fun r => a ≤ r.seq).take n

/-- EVL_RAISE: PLEN in [20:16], a larger value than 16 ignores the write. -/
def State.evlRaise (s : State) (v : Word) : State :=
  let n := bits v.toNat 16 5
  if 16 < n then s
  else s.raise (bits v.toNat 0 16) srcFW ((s.evl.raiseP.toList.flatMap fun w => p32 w.toNat).take n)

/-! ## The SRAM patrol (R480, R481) -/

/-- The host whose verified bitmap holds bit `b` of the bitmap area; bitmaps stand in the order of the lists. -/
def State.bitmapHost (s : State) (b : Nat) : Option Host24 :=
  (s.lists.foldl (fun (a : Nat × Option Host24) x =>
    if hh : x.1 < 24 then
      let n := (s.selectedEnvelope ⟨x.1, hh⟩).elim 0 envBlocks
      if a.2.isNone && a.1 ≤ b && b < a.1 + n then (a.1 + n, some ⟨x.1, hh⟩) else (a.1 + n, a.2)
    else a) (0, none)).2

/-- The Timetable of a host is staged again and committed. -/
def State.restage (s : State) (n : Nat) : State :=
  if h : n < 24 then
    match (s.ttOf ⟨n, h⟩).activeTt with
    | some t => if s.fwRuns then s.awaitTt ⟨n, h⟩ t none else s
    | none => s
  else s

/-- The transfer whose buffer holds the word, which the spec does not place: any one of them, or none. -/
def State.transferLost (s : State) : State :=
  match s.net.transfers[Config.choice s.free % (s.net.transfers.length + 1)]? with
  | none => { s with free := s.free + 1 }
  | some t =>
    let s1 := { s with free := s.free + 1, net := { s.net with transfers := s.net.transfers.filter (· ≠ t) } }
    let body := abortBody ([0] ++ p8 t.sub ++ p16 t.index) 0x06080000
    (if t.session = 0 then s1.sendPlain t.port t.addr tyAbort 0 0 t.xid body else s1.sendIn t.session tyAbort 0 t.xid body).transferEvent t 0x06080000

/-- Table 18.3 for a word that the patrol met. -/
def State.sramConsequence (s : State) (w : Nat) : State :=
  if w < 0x10400000 then (if s.fwRuns then s.warmRestart kRequested false else s)
  else if w < 0x10700000 then (if h : (w - 0x10400000) / 0x20000 < 24 then s.bumpEpoch ⟨(w - 0x10400000) / 0x20000, h⟩ else s)
  else if w < 0x10800000 then (s.plc.relocs.filter fun r => r.draining.isNone).foldl (fun st r => st.abandonReloc r) s
  else if 0x10A80000 ≤ w && w < 0x10B00000 then
    (match s.lists.find? fun x => x.2.1 ≤ w && w < x.2.1 + up32 x.2.2 with
     | some x => if h : x.1 < 24 then s.sweepDeadline ⟨x.1, h⟩ else s
     | none => s)
  else if 0x10B00000 ≤ w && w < 0x10B00800 then (match s.bitmapHost ((w - 0x10B00000) * 8) with
     | some h => s.sweepDeadline h
     | none => s)
  else if 0x10B80000 ≤ w && w < 0x10C00000 then s.transferLost
  else if 0x10C00000 ≤ w && w < 0x10D80000 then s.restage ((w - 0x10C00000) / 0x10000)
  else if 0x10D80000 ≤ w && w < 0x10F00000 then s.restage ((w - 0x10D80000) / 0x10000)
  else if 0x10F00000 ≤ w && w < 0x10FC0000 then s.restage ((w - 0x10F00000) / 0x4000 % 24)
  else s

/-- The patrol reads a beat: words corrected in it, and a word that is uncorrectable. -/
def State.sramPatrol (s : State) (corrected : Nat) (unc : Option Nat) : State :=
  if s.power = .p3 || s.power = .p4 then s
  else
    let s1 := (List.range corrected).foldl (fun st _ => st.modEvl fun e => { e with sramCorr := e.sramCorr.inc }) s
    match unc with
    | none => s1
    | some o =>
      let w := sramBase + o % 0x1000000 / 8 * 8
      ((s1.modEvl fun e => { e with sramBad := e.sramBad.filter (· ≠ w) ++ [w] }).sramError 0x3F w).sramConsequence w

end Sys2Proof.Machine
end

