-- ==== Sys2Proof/Machine/ImageCommands.lean ====
section
/-! DEFINITION. The commands of host selection and release (chapter 6). -/
namespace Sys2Proof.Machine

/-- SETTLE_MS has passed since HCn_PWREN rose. -/
def execSettleMsElapsed (h : Host24) (s : State) :=
  done (if (s.imgOf h).state = .off then s else s.modImg h fun i => { i with settled := true })
def execImageSelection (h : Host24) (s : State) := done (s.selectImage h)
def execHostRelease (h : Host24) (s : State) := done (s.hostRelease h)
def execBlockVerified (h : Host24) (b : Nat) (readable : Bool) (s : State) := done (s.blockVerified h b readable)
def execHallRelease (h : Host24) (s : State) := done (s.hallRelease h)
def execSweepDeadline (h : Host24) (s : State) := done (s.sweepDeadline h)

end Sys2Proof.Machine
end

