-- ==== Sys2Proof/Machine/KeyCommands.lean ====
section
/-! DEFINITION. The commands of the key store, the counter unit and the random bit generator (chapter 13). -/
namespace Sys2Proof.Machine

def keyBase : Nat := 0x40060000
def ctrBase : Nat := 0x40070000
def rngBase : Nat := 0x40080000

/-! ## KEY_CMD (R379 to R385) -/

/-- Results of KEY_STAT. -/
def krOk : Nat := 0
def krState : Nat := 1
def krType : Nat := 2
def krLength : Nat := 3
def krPolicy : Nat := 4
def krRng : Nat := 5

def State.modKeys (s : State) (f : KeyStore → KeyStore) : State := { s with keys := f s.keys }

/-- A command ends; the load buffer was cleared at KEY_CMD. -/
def State.keyDone (s : State) (r : Nat) : State :=
  s.modKeys fun k => { k with busy := false, done := true, result := BitVec.ofNat 4 r, loadData := [] }

/-- Life cycle and slot state admit a LOAD (R379). -/
def State.loadState (s : State) (m : Master) (k : Nat) : Bool :=
  m = .debug && s.dbg.prov && k ≠ 0 && !(s.slot k).revoked &&
    (s.lcc.state = .maker || (s.lcc.state = .integrator && k ≤ 61)) && (k < 5 || 62 ≤ k || (s.slot k).typ = 0)

/-- Table 13.1. -/
def typeFits (k : Nat) (t : BitVec 3) : Bool :=
  if k ≤ 4 then t = typRole else if k ≤ 61 then t = typHmac || t = typVerify else t = typVerify

/-- R376. -/
def lenFits (t : BitVec 3) (n : Nat) : Bool :=
  if t = typRole then n = 32 else if t = typHmac then 16 ≤ n && n ≤ 64 else n = 52 || n = 60

/-- Table 13.2: bits of the slot's type alone, bits [15:8] zero; FIRMWARE on slots 62 and 63 only, and there always. -/
def policyFits (k : Nat) (t : BitVec 3) (p : Word) : Bool :=
  t = typRole ||
    (bits p.toNat 8 8 = 0 &&
      (if t = typVerify then bits p.toNat 3 5 = 0 && (p.getLsbD polFirmware == decide (62 ≤ k)) else bits p.toNat 0 3 = 0))

/-- OP = LOAD. -/
def State.keyLoad (s : State) (m : Master) (k : Nat) : State :=
  let h := s.keys
  let t := h.hdrType
  let n := h.hdrLen.toNat
  if h.busy then s
  else if !s.loadState m k then s.keyDone krState
  else if !typeFits k t then s.keyDone krType
  else if !lenFits t n || h.loadData.length < n then s.keyDone krLength
  else if !policyFits k t h.loadPolicy then s.keyDone krPolicy
  else
    let key := h.loadData.take n
    let role := t = typRole
    let s1 := s.modSlot k fun sl => { sl with
      typ := t, immediate := h.hdrMode || role, policy := if role then rolePolicy else h.loadPolicy, key := key, keyId := keyIdOf t key }
    (s1.keyDone krOk).raise 0x0701 srcKEY (p8 k ++ p8 t.toNat ++ keyIdOf t key)

/-- OP = GENERATE, steps 1 and 2 of R380. -/
def State.keyGenerate (s : State) (m : Master) (k : Nat) : State :=
  if s.keys.busy then s
  else if !(m = .debug && s.dbg.prov && (s.lcc.state = .maker || s.lcc.state = .integrator) && (s.slot 0).state = 0) then s.keyDone krState
  else if k ≠ 0 then s.keyDone krType
  else
    match s.draw 48 true conKeygen with
    | (none, s1) => s1.keyDone krRng
    | (some b, s1) => s1.modKeys fun x => { x with
        busy := true, done := false, result := 0, loadData := [], generating := some (b.take 32, b.drop 32) }

/-- Steps 3 to 5 of R380. -/
def State.generateDone (s : State) : State :=
  match s.keys.generating with
  | none => s
  | some (seed, i) =>
    let key := seed ++ i
    let id := keyIdOf typSign key
    let s1 := (s.modSlot 0 fun sl => { sl with typ := typSign, immediate := false, policy := 0, key := key, keyId := id }).keyDone krOk
    ({ s1 with
      keys := { s1.keys with generating := none }
      signer := { s1.signer with next := 0, ring := [], bad := [], bottom := none } }).raise 0x0702 srcKEY id

/-- OP = REVOKE from the management processor (R382, R385). -/
def State.keyRevokeCmd (s : State) (k : Nat) : State :=
  if s.keys.busy then s
  else if (s.slot k).revoked then s.keyDone krOk
  else if !s.keysOpen || s.revokeRefused k then s.keyDone krState
  else (s.revokeSlot k).keyDone krOk

/-- A write of KEY_CMD: the gates judge it, REVOKE from the debug master by a fixed rule (Table 14.3). -/
def State.keyCmdWrite (s : State) (m : Master) (revoke : Bool) (k : State → State) : State :=
  if s.debugStopped m then s.stickyIf m
  else match s.judge m (keyBase + 0x10) true s.lists revoke with
    | some r => s.refuseAccess m (keyBase + 0x10) accWrite r
    | none => k s

def execKeyLoad (m : Master) (k : Fin 64) (s : State) := done (s.keyCmdWrite m false fun t => t.keyLoad m k.val)
def execKeyGenerate (m : Master) (k : Fin 64) (s : State) := done (s.keyCmdWrite m false fun t => t.keyGenerate m k.val)
def execGenerateDone (s : State) := done s.generateDone

/-- CONFIRM other than 0x4B59 makes the command ignored. -/
def execKeyCmdRevoke (m : Master) (k : Fin 64) (confirm : Half) (s : State) :=
  done (s.keyCmdWrite m true fun t => if confirm = 0x4B59 then t.keyRevokeCmd k.val else t)

/-! ## CTR_CMD (R386 to R390) -/

def crOk : Nat := 0
def crAtMax : Nat := 1
def crNotAbove : Nat := 2

def State.ctrDone (s : State) (k r : Nat) : State :=
  { s with ctr := { s.ctr with busy := false, done := true, result := BitVec.ofNat 2 r, value := BitVec.ofNat 32 (s.counter k) } }

def State.ctrCommand (s : State) (k : Nat) (advance : Bool) : State :=
  if s.ctrFused k then s.ctrDone k crNotAbove
  else if advance then
    let (ok, s1) := s.ctrAdvance k s.ctr.arg.toNat srcCtrCmd
    s1.ctrDone k (if ok then crOk else crNotAbove)
  else
    let (ok, s1) := s.ctrInc k srcCtrCmd
    s1.ctrDone k (if ok then crOk else crAtMax)

def execCtrIncrement (k : Fin 64) (s : State) := done (s.ctrCommand k.val false)
def execCtrAdvance (k : Fin 64) (s : State) := done (s.ctrCommand k.val true)

/-! ## The entropy source (R391 to R393) -/

def rctCutoff : Nat := 41
def aptCutoff : Nat := 793

/-- The samples of a block, the first in bit 0 of byte 0. -/
def sampleBits (raw : Bytes) : List Bool := raw.flatMap fun b => (List.range 8).map fun i => b.getLsbD i

/-- The repetition count test from a running value: last sample, run, and the run that reached the cutoff. -/
def rctScan (last : Bool) (run : Nat) : List Bool → Bool × Nat × Bool
  | [] => (last, run, false)
  | b :: bs =>
    let r := if b = last then run + 1 else 1
    if rctCutoff ≤ r then (b, r, true) else rctScan b r bs

/-- Occurrences of the window's first sample. -/
def aptCount (bs : List Bool) : Nat := (bs.filter fun b => b == bs.headD false).length

/-- A failed test: the block is discarded, the source starts over, and the third failure is for good (R393). -/
def State.sourceFailed (s : State) (rct : Bool) (n : Nat) : State :=
  let f := s.rng.fails.toNat + 1
  let s1 := { s with rng := { s.rng with
    rct := s.rng.rct || rct, apt := s.rng.apt || !rct, fails := BitVec.ofNat 2 f, lastBit := false, run := 0
    src := if 3 ≤ f then .failed else .startup } }
  (s1.raise (if rct then 0x0720 else 0x0721) srcRNG (p32 n)).raiseIf (3 ≤ f) 0x0722 srcRNG (p8 f)

/-- 1,024 samples: the start-up test discards them, a healthy source conditions them (R392). -/
def State.entropyBlock (s : State) (raw : Bytes) : State :=
  if 3 ≤ s.power.code || s.rng.src = .failed || raw.length ≠ 128 then s
  else
    let bs := sampleBits raw
    let (last, run, bad) := rctScan s.rng.lastBit s.rng.run bs
    if bad then s.sourceFailed true run
    else if aptCutoff ≤ aptCount bs then s.sourceFailed false (aptCount bs)
    else if s.rng.src = .healthy then
      { s with rng := { s.rng with
        lastBit := last, run := run, fails := 0, pool := if s.rng.pool.length < 2 then s.rng.pool ++ [Hash.sha256 raw] else s.rng.pool } }
    else { s with rng := { s.rng with src := .healthy, lastBit := last, run := run } }

def execEntropyBlock (raw : Bytes) (s : State) := done (s.entropyBlock raw)

/-! ## RNG_GEN (R225, R396, R397) -/

/-- A request is accepted; one whose length is out of range is refused at once. -/
def State.rngStart (s : State) : State :=
  let n := s.rng.len.toNat
  if s.rng.request.isSome then s
  else if n < 1 || 65536 < n then { s with rng := { s.rng with done := false, refused := true } }
  else { s with rng := { s.rng with done := false, refused := false, request := some { addr := s.rng.addr.toNat / 4 * 4, len := n } } }

def execRngGenStart (s : State) := done s.rngStart

/-- RESEED runs at once, exempt from the budget; without entropy the request is refused. -/
def State.rngReseed (s : State) (start : Bool) : State :=
  if s.rng.request.isSome then s
  else match s.reseed with
    | some s1 => if start then s1.rngStart else { s1 with rng := { s1.rng with done := false, refused := false } }
    | none => ({ s with rng := { s.rng with done := false, refused := true } }).raise 0x0507 srcRNG (p8 conRng ++ p8 (causeOf s))

def execRngGenReseed (start : Bool) (s : State) := done (s.rngReseed start)

/-- The request completes: output to SRAM with the management processor's ID, or no bytes at all. -/
def State.rngDone (s : State) : State :=
  match s.rng.request with
  | none => s
  | some r =>
    if s.coresOn.isEmpty then s
    else
      let s0 := { s with rng := { s.rng with request := none } }
      match s0.draw r.len false conRng with
      | (none, s1) => { s1 with rng := { s1.rng with refused := true } }
      | (some b, s1) =>
        let (ok, s2) := s1.memWrite .mgpPriv r.addr b
        { s2 with rng := { s2.rng with done := ok, refused := !ok } }

def execDrbgRequestDone (s : State) := done s.rngDone

/-- A reseed is due (R396). -/
def State.reseedDue (s : State) : Bool :=
  s.rng.drbg.isSome && (s.rng.lastReseed + day ≤ s.timeBase.toNat || 2 ^ 20 ≤ s.rng.sinceReseed)

def execDrbgReseedDue (s : State) :=
  done (if s.reseedDue && s.rng.dueSince.isNone then { s with rng := { s.rng with dueSince := some s.timeBase.toNat } } else s)

/-- A reseed 24 h overdue, or with 2^23 requests since the last, runs at once. -/
def State.reseedForced (s : State) : State :=
  if s.rng.dueSince.elim false (fun d => d + day ≤ s.timeBase.toNat) || 2 ^ 23 ≤ s.rng.sinceReseed then (s.reseed).getD s else s

def execDrbgReseedForced (s : State) := done s.reseedForced

end Sys2Proof.Machine
end

