-- ==== Sys2Proof/Machine/LifeCycleCommands.lean ====
section
/-! DEFINITION. The commands of the life-cycle controller, the debug port and the JTAG port (chapter 15) and of the gates' registers
(R407, R409). -/
namespace Sys2Proof.Machine

/-! ## LCC -/

def lccBase : Nat := 0x40030000

def execLccCmd (m : Master) (v : Word) (s : State) := done (s.busWrite m (lccBase + 4) fun t => t.lccCmd m v)

/-! ## The JTAG port (R429) -/

/-- The instruction is admitted in every state but Scrapped and Indeterminate. -/
def State.jtagDebug (s : State) : Bool := s.keysOpen

/-- An instruction selects a register and what holds the pins; one that the state does not admit selects the bypass register. -/
def State.jtagSelect (s : State) (ok : Bool) (r : JtagReg) (p : PinDrive) : State :=
  s.modDbg fun d => if ok then { d with ir := r, pins := p } else { d with ir := .bypass, pins := .functional }

def execExtest (s : State) := done (s.jtagSelect (s.lcc.state = .maker) .boundary .extest)
def execSamplePreload (s : State) := done (s.jtagSelect true .boundary .functional)
def execClamp (s : State) := done (s.jtagSelect (s.lcc.state = .maker) .bypass .clamp)
def execHighz (s : State) := done (s.jtagSelect (s.lcc.state = .maker) .bypass .highz)
def execBypass (s : State) := done (s.jtagSelect true .bypass .functional)

/-- IDCODE (Table 15.7). -/
def State.idcode (s : State) : Nat := 0x1 * 2 ^ 28 + (if s.part = .kr9624 then 0x9624 else 0x9612) * 2 ^ 12 + 0x4E5 * 2 + 1
def execIdcode (s : State) := done ((s.jtagSelect true .idcode .functional).modDbg fun d => { d with data := BitVec.ofNat 32 s.idcode })

/-- DBGREG: a write of a DBG register, or a read of one. -/
def State.dbgReg (s : State) (off : Byte) (wr : Option Word) : State :=
  let s1 := s.jtagSelect s.jtagDebug .dbgreg .functional
  if !s.jtagDebug then s1
  else match wr with
    | some v => s1.dbgRegWrite off.toNat v
    | none => s1.modDbg fun d => { d with data := BitVec.ofNat 32 (s.dbgRegRead off.toNat) }
def execDbgreg (off : Byte) (wr : Option Word) (s : State) := done (s.dbgReg off wr)

/-- The rows of DBG_CTRL and DBG_RESP9, each a write through DBGREG. -/
def execDbgLock (s : State) := done (s.dbgReg 4 (some 1))
def execDbgClrSticky (s : State) := done (s.dbgReg 4 (some 2))
def execDbgChal (s : State) := done (s.dbgReg 4 (some 4))
def execDbgProvOpen (s : State) := done (s.dbgReg 4 (some 8))
def execDbgProvClose (s : State) := done (s.dbgReg 4 (some 16))
def execDbgResponseSubmit (v : Word) (s : State) := done (s.dbgReg 0x64 (some v))

/-- TRST_N low, or five TCK rises with TMS high (Table 17.4). -/
def execTapReset (s : State) := done ((s.jtagSelect true .idcode .functional).provClose)

/-! ## Times (R431, R432) -/

def execDebugDurationExpiry (s : State) := done s.debugExpire

/-- A challenge is 300 s old: of the JTAG path, or of a session. -/
def State.challengeExpire (s : State) (k : Nat) : State :=
  let old := fun (t : Nat) => decide (t + challengeLife ≤ s.timeBase.toNat)
  if k = 0 then s.modDbg fun d => if d.chal.elim false fun c => old c.issued then { d with chal := none } else d
  else s.modSession k fun x => if x.chal2003.elim false fun c => old c.2 then { x with chal2003 := none } else x
def execChallengeExpiry (session : Nat) (s : State) := done (s.challengeExpire session)

def execChallengeSuspendEnd (s : State) :=
  done (if s.dbg.suspended.elim false fun t => t + suspendTime ≤ s.timeBase.toNat then s.modDbg fun d => { d with suspended := none } else s)

/-! ## Gate registers -/

def gateBase (g : Nat) : Nat := 0x40040000 + g * 0x400

def State.clearGate (s : State) (g : Fin 22) : State := { s with gates := updV s.gates g Gate.clear }
def execGateClr (m : Master) (g : Fin 22) (s : State) := done (s.busWrite m (gateBase g.val + 0x18) fun t => t.clearGate g)

def regionReg (r : Nat) : RegionReg := if r = 0 then .base else if r = 1 then .attr else .perm

/-- A write that the gates let through reaches an unlocked region only (Table 14.3). -/
def State.writeRegion (s : State) (g : Fin 22) (k : Fin 8) (r : RegionReg) (v : Word) : State :=
  { s with gates := updV s.gates g fun x => { x with regions := updV x.regions k fun y => if y.lock then y else y.write r v } }
def execGateRegionWrite (m : Master) (g : Fin 21) (k : Fin 8) (r : Fin 3) (v : Word) (s : State) :=
  done (s.busWrite m (gateBase g.val + 0x100 + 0x10 * k.val + 4 * r.val) fun t => t.writeRegion ⟨g.val, by omega⟩ k (regionReg r.val) v)

end Sys2Proof.Machine
end

