-- ==== Sys2Proof/Machine/TtbCommands.lean ====
section
/-! DEFINITION. The commands of the TTB control block (R83 to R88). -/
namespace Sys2Proof.Machine

/-- Bits of a host mask that this part has, as hosts in order. -/
def State.hostsOf (s : State) (v : Nat) : List Host24 := all24.filter fun h => bit v h.val && s.maskBits.getLsbD h.val

/-- The first check of Table 3.10 that the staged bank fails, or 0; an inactive bank that was never staged fails check 1.
Checks 1, 3 and 5 concern the image's encoding and were made when the image was read into the bank. -/
def State.stagedFailed (s : State) (h : Host24) : Nat :=
  match (s.ttOf h).inactiveTt with
  | none => 1
  | some t =>
    if !ttCheck2 t h.val s.partCode (s.fused h.val) then 2
    else if !ttCheck4 t then 4
    else if !ttCheck6 t then 6
    else if !ttCheck7 t then 7
    else if !ttCheck8 t then 8
    else if !ttCheck9 t then 9
    else if !ttCheck10 t then 10
    else if !ttCheck11 t then 11
    else if !s.ttCheck12 t h.val then 12
    else if !s.ttCheck13 t h then 13
    else 0

/-- TTB_READY: a 1 is ignored while PEND, and set only for a bank that passes its checks (R83, R88); a 0 clears. -/
def State.ttbReadyWrite (s : State) (v : Word) : State :=
  (forEach all24 (fun h st =>
    if !st.maskBits.getLsbD h.val then st
    else if !v.getLsbD h.val then st.modTt h fun t => { t with ready := false }
    else if (st.ttOf h).pend || (st.ttOf h).ready then st
    else
      let n := st.stagedFailed h
      if n = 0 then st.modTt h fun t => { t with ready := true }
      else st.raise 0x0311 srcTTB (p8 h.val ++ p8 n)) s)
def execTtbReadyWrite (v : Word) (s : State) := done (s.ttbReadyWrite v)

/-- TTB_COMMIT: every named host in one cycle, or none and REFUSED (R83). -/
def State.ttbCommit (s : State) (v : Word) : State :=
  let hs := s.hostsOf v.toNat
  (if hs.all fun h => (s.ttOf h).ready then s.commitTts hs else { s with ttb := { s.ttb with refused := true } })
def execTtbCommit (v : Word) (s : State) := done (s.ttbCommit v)

/-- The select release that ends the frame in flight; the committed Timetable takes effect at the port (R85), and one
that waited for PEND goes on (R84). -/
def execTtSwitchPoint (h : Host24) (s : State) := done (((s.endFrame h)).settleTt h)

/-- PEND has stayed set for TTB_PEND_TMO: PEND_LONG, PEND_HOST and EV 0x0127, once per commit (R86). -/
def execPendLong (h : Host24) (s : State) :=
  let t := s.ttOf h
  done (if t.pend && !t.pendLogged then
    ({ s.modTt h fun t => { t with pendLogged := true } with ttb := { s.ttb with pendLong := true, pendHost := BitVec.ofNat 5 h.val } }).raise
      0x0127 srcTTB (p8 h.val ++ p16 t.epoch.toNat)
  else s)

end Sys2Proof.Machine
end

