-- ==== Sys2Proof/Machine/RegRead.lean ====
section
/-! DEFINITION. What a read of each register returns (R8, R9, R469, Table 1.5), block by block: each function takes an offset in its
block and gives the register's current value. -/
namespace Sys2Proof.Machine

/-- Low and high words of a 64-bit value. -/
def lo32 (v : Nat) : Nat := v % 2 ^ 32
def hi32 (v : Nat) : Nat := v / 2 ^ 32 % 2 ^ 32
/-- A mask of the indices for which `p` holds. -/
def maskOf (n : Nat) (p : Nat → Bool) : Nat := ((List.range n).map fun k => if p k then 2 ^ k else 0).sum
/-- Seconds left until time base `t`, rounded up. -/
def State.secondsLeft (s : State) (t : Nat) : Nat := (t - s.timeBase.toNat + (second - 1)) / second

/-! ## HPC and HPW (Tables 2.11 and 2.13) -/

/-- HCn_PWREN is high. -/
def Hcs.padPwren (c : Hcs) (h : Host24) : Bool := c.pwren.getLsbD h.val || c.pend.getLsbD h.val

/-- HPn_RDY is not driven high (R37, R498). -/
def State.rdyLow (s : State) (h : Host24) : Bool :=
  !s.hcs.padPwren h || s.power = .p3 || ((s.port h).cfg.getLsbD 1 && (s.port h).frame.elim false fun f => f.waiting = .rdy)

def State.hpcStat (s : State) (h : Host24) : Nat :=
  let p := s.port h
  let m := match p.cmd with | .s1 => 0 | .s4 => 1 | .d8 => 2
  p.stat.toNat + 512 * m + 2048 * b2n p.addr4 + 4096 * b2n p.armed.isSome + 8192 * b2n p.wip + 16384 * b2n p.wel +
    32768 * b2n (s.rdyLow h) + 65536 * b2n p.stale

def State.hpcWord (s : State) (h : Host24) (o : Nat) : Nat :=
  let p := s.port h
  match o with
  | 0x00 => p.cfg.toNat
  | 0x04 => s.hpcStat h
  | 0x08 => p.rdyTmo.toNat
  | 0x0C => p.torn.word.toNat
  | 0x10 => p.fillAddr.toNat
  | 0x14 => p.ign.word.toNat
  | 0x18 => p.crc.word.toNat
  | 0x20 => lo32 (s.plc.xepoch.get h).toNat
  | _ => 0

/-- TRIAL_LEFT (R247). -/
def State.trialLeft (s : State) (h : Host24) : Nat :=
  if s.upd.inTrial && s.upd.recOf.trialHosts.getLsbD h.val then s.upd.recOf.budget - s.upd.trialCount else 0

/-- A word of the HPW window; offsets of Table 2.12. -/
def State.hpwWord (s : State) (h : Host24) (o : Nat) : Nat :=
  let w := (s.port h).hpw
  if 0x100 ≤ o ∧ o < 0x500 then leNat (w.mbReq.readN 0 (o - 0x100) 4)
  else if 0x800 ≤ o ∧ o < 0x1000 then leNat (w.mbRsp.readN 0 (o - 0x800) 4)
  else match o with
  | 0x00 => h.val + 256 * s.partCode + 0x01010000
  | 0x04 => (s.imgOf h).state.code + 8 * b2n s.plc.steady + 16 * b2n w.sweepDone + 32 * b2n s.restarting + 256 * (s.trialLeft h % 256)
  | 0x08 => w.ltv.toNat
  | 0x0C => w.health.toNat
  | 0x10 => w.attnCause.toNat + 256 * w.attnEn.toNat
  | 0x14 => w.epochTt.toNat + 65536 * ((s.plc.xepoch.get h).toNat % 65536)
  | 0x18 => lo32 s.timeBase.toNat
  | 0x1C => w.timeHi.toNat
  | 0x20 => (s.port h).torn.word.toNat
  | 0x24 => (s.port h).fillAddr.toNat
  | 0x28 => s.hpcStat h
  | 0x40 => w.mbCmd.toNat
  | 0x48 => w.mbCode.toNat + 8 * b2n w.mbDone + 16 * b2n w.mbPending + 256 * w.mbTag.toNat + 65536 * w.mbRlen.toNat
  | 0x4C => w.mbRetry.toNat
  | _ => 0

/-! ## TTB (Table 3.9), FCC (Table 4.10) and PLC (Table 5.8) -/

def State.hostMask (s : State) (p : Host24 → Bool) : Nat := maskOf 24 fun n => if h : n < 24 then p ⟨n, h⟩ && !s.fused n else false

def State.ttbWord (s : State) (o : Nat) : Nat :=
  if h : 0x40 ≤ o ∧ o % 4 = 0 ∧ (o - 0x40) / 4 < 24 then
    (if s.fused ((o - 0x40) / 4) then 0 else (s.ttOf ⟨(o - 0x40) / 4, h.2.2⟩).epoch.toNat)
  else match o with
  | 0x00 => s.hostMask fun h => (s.ttOf h).active
  | 0x04 => s.hostMask fun h => (s.ttOf h).ready
  | 0x0C => s.hostMask fun h => (s.ttOf h).pend
  | 0x10 => b2n s.ttb.refused + 2 * b2n s.ttb.pendLong + 256 * s.ttb.pendHost.toNat
  | 0x14 => s.ttb.pendTmo.toNat
  | _ => 0

/-- FCC_STAT; a select is low while a transfer runs. -/
def State.fccStat (s : State) (c : Chan) : Nat :=
  let ch := s.chan c
  ch.stat.toNat + 128 * b2n ch.rdyLevel + 256 * b2n ch.stale + 512 * ch.running.elim 0 fun r => 4 + r.sel % 4

def Select.statWord (sl : Select) : Nat := sl.state.code + 16 * b2n sl.busy.isSome + 65536 * sl.badBlocks.length

def Select.word (sl : Select) (o : Nat) : Nat :=
  match o with
  | 0x00 => sl.cls.toNat + 4 * sl.mode.toNat + 32 * b2n sl.addr4 + 64 * sl.div.toNat + 1024 * sl.dummy.toNat +
      65536 * atomOf sl.cls.toNat sl.mode.toNat
  | 0x04 => sl.lead.toNat + 256 * sl.trail.toNat + 65536 * sl.idle.toNat
  | 0x08 => sl.statWord
  | 0x0C => sl.crcCnt.word.toNat
  | 0x10 => sl.eccCnt.word.toNat
  | 0x14 => sl.tmoCnt.word.toNat
  | _ => 0

def State.fccWord (s : State) (c : Chan) (o : Nat) : Nat :=
  let ch := s.chan c
  if h : 0x20 ≤ o ∧ (o - 0x20) / 0x20 < 4 then (ch.sels.get ⟨(o - 0x20) / 0x20, h.2⟩).word ((o - 0x20) % 0x20)
  else match o with
  | 0x00 => b2n ch.en + 2 * b2n ch.rdyEn + 4 * b2n ch.parked
  | 0x04 => s.fccStat c
  | 0x08 => ch.rdyTmo.toNat
  | 0x0C => ch.poll.toNat
  | 0x10 => b2n ch.active + 2 * b2n ch.ready + 256 * (ch.slot % 64) + 65536 * ch.epoch.toNat
  | _ => 0

def State.plcStat (s : State) : Nat :=
  b2n s.plc.steady + 2 * reasonBits s.plc + 16 * b2n s.plc.scanning + 32 * b2n (!s.plc.relocs.isEmpty)

def State.plcWord (s : State) (o : Nat) : Nat :=
  match o with
  | 0x00 => s.plcStat
  | 0x04 => s.freePm
  | 0x08 => min 255 s.plc.relocs.length + 256 * min 255 s.plc.queued.length + 65536 * min 255 s.overdueCount
  | 0x0C => sat16 s.degradedCount + 65536 * sat16 s.lostCount
  | 0x10 => lo32 s.plc.wseq.toNat
  | 0x18 => (s.plc.discard &&& s.maskBits).toNat
  | _ => 0

/-! ## DGC and SIG (Tables 7.7, 7.14 and 9.12) -/

def ResSet.valid (r : ResSet) : Bool := r.done && !(r.lengthShort || r.aborted || r.readErr || r.keyRefused)

def ResSet.statWord (r : ResSet) : Nat :=
  maskOf 13 (fun k => [r.alloc, r.queued, r.running, r.done, r.valid, r.truncated, r.lengthShort, r.aborted, r.cmpFail, r.readErr, r.keyRefused,
    r.lastwIgn, r.dinFull].getD k false) + 2 ^ 14 * r.alg.toNat + 2 ^ 17 * r.outLen.toNat + 2 ^ 24 * r.dinWords.toNat

def ResSet.word (r : ResSet) (o : Nat) : Nat :=
  if 0x10 ≤ o ∧ o < 0x50 then u32 r.out (o - 0x10)
  else match o with
  | 0x00 => r.statWord
  | 0x04 => r.tag.toNat
  | 0x08 => lo32 r.count.toNat
  | _ => 0

def State.doneBits (s : State) : Nat := maskOf 64 fun k => (s.resSet k).done

def State.dgcWord (s : State) (m : Master) (o : Nat) : Nat :=
  if 0x1000 ≤ o ∧ o < 0x3000 then (s.resSet ((o - 0x1000) / 0x80)).word (o % 0x80)
  else match o with
  | 0x00 => s.dgc.reserve.toNat + 65536 * s.dgc.stallMs.toNat
  | 0x04 => s.dgc.queue.length + 256 * (64 - ((List.range 64).filter fun k => (s.resSet k).alloc).length) +
      65536 * maskOf 16 fun c => s.dgc.running.any fun x => x.1 = c
  | 0x08 => s.dgc.ok.toNat + 65536 * s.dgc.on.toNat
  | 0x10 => let l := (s.dgc.lastSubs.find? fun x => x.1 = masterId m).elim ({} : LastSub) Prod.snd
            l.code.toNat + 16 * l.set.toNat + 65536 * l.retry.toNat
  | 0x20 => lo32 s.doneBits
  | 0x28 => s.dgc.busyCnt.word.toNat
  | 0x2C => s.dgc.shortCnt.word.toNat
  | _ => 0

def State.sigWord (s : State) (o : Nat) : Nat :=
  let v := s.sig
  let g := s.signer
  match o with
  | 0x000 => v.maxCores.toNat
  | 0x008 => v.slot.toNat + 65536 * v.cls.toNat
  | 0x00C => v.src.toNat + 16 * v.host.toNat
  | 0x010 => v.msgAddr.toNat
  | 0x014 => v.msgLen.toNat
  | 0x018 => v.sigAddr.toNat
  | 0x01C => v.sigLen.toNat
  | 0x020 => b2n v.busy + 2 * b2n v.done + 4 * b2n v.pass + 16 * v.reason.toNat + 256 * v.level.toNat
  | 0x024 => v.time.toNat
  | 0x104 => g.msgAddr.toNat
  | 0x108 => g.msgLen.toNat
  | 0x10C => g.outAddr.toNat
  | 0x110 => b2n g.busy + 2 * b2n g.done + 4 * b2n (g.done && g.reason = 0) + 8 * b2n g.building + 16 * g.reason.toNat
  | 0x114 => g.idx.toNat
  | 0x118 => g.next.toNat
  | 0x11C => g.time.toNat
  | _ => 0

/-! ## PAT (Table 8.7), ARC (Table 9.12) and NET (Table 10.14) -/

def State.patWord (s : State) (o : Nat) : Nat :=
  let p := s.upd.pat
  match o with
  | 0x04 => b2n p.busy + 2 * b2n p.done + 4 * b2n (p.done && p.err = 0) + 16 * p.err.toNat
  | 0x08 => p.host.toNat + 64 * p.item.toNat + 4096 * p.slot.toNat
  | 0x0C => lo32 p.out.toNat
  | 0x14 => p.ops.toNat
  | 0x18 => p.errPos.toNat
  | _ => 0

/-- ARC_STAT (Table 9.12). -/
def State.arcStat (s : State) : Nat :=
  let a := s.arc
  b2n a.created + 2 * b2n (a.created && (a.onlyReserve || a.seqStuck)) + 4 * b2n a.retire + 8 * b2n (!a.awaiting.isEmpty) + 16 * b2n a.seqStuck +
    32 * b2n (!s.signOk) + 64 * b2n (!s.lcAppends) + 256 * min 32 a.tail

def State.arcWord (s : State) (o : Nat) : Nat :=
  match o with
  | 0x00 => s.arcStat
  | 0x04 => lo32 s.arc.next.toNat
  | 0x0C => s.arc.term.toNat
  | 0x10 => s.arc.sealed
  | 0x14 => s.arc.nextPage % 2 ^ 32
  | 0x18 => s.arc.usedPm
  | 0x1C => s.arc.refcnt.word.toNat
  | _ => 0

/-- The port runs: enabled, and PLL_NET locked (R459). -/
def State.netRuns (s : State) (k : NetPort) : Bool := (s.net.ports.get k).cfg.enabled && s.clk.netLock

def NetPortState.canStat (p : NetPortState) : Nat :=
  (if p.cfg.enabled then p.canState.toNat else 3) + 4 * b2n (p.cfg.enabled && p.cfg.dataRate ≠ 0) + 8 * b2n p.stale + 16 * b2n p.wake

def NetPortState.t1sStat (p : NetPortState) : Nat :=
  let on := p.cfg.enabled && p.cfg.node ≠ 255
  b2n on + 2 * b2n (on && p.cfg.node = 0) + 4 * b2n p.beaconOk + 8 * b2n p.stale + 16 * b2n p.dupCoord + 32 * b2n p.wake +
    256 * p.cfg.node

def State.openSessions (s : State) : List Nat := sessionNos.filter fun k => (s.session k).elim false Session.open_
def State.halfOpen (s : State) : List Nat := sessionNos.filter fun k => (s.session k).elim false fun x => !x.open_

def State.netPort (s : State) (k : Nat) : NetPortState := if h : k < 8 then s.net.ports.get ⟨k, h⟩ else s.net.ports.get 0

def State.netWord (s : State) (o : Nat) : Nat :=
  if 0x100 ≤ o ∧ o < 0x200 then
    let p := s.netPort ((o - 0x100) / 0x40)
    match o % 0x40 with
    | 0 => p.canStat
    | 4 => p.tec.toNat + 256 * p.rec_.toNat
    | 8 => p.rxdrop.word.toNat
    | _ => 0
  else if 0x200 ≤ o ∧ o < 0x300 then
    let p := s.netPort (4 + (o - 0x200) / 0x40)
    match o % 0x40 with
    | 0 => p.t1sStat
    | 4 => p.fcserr.word.toNat
    | 8 => p.rxdrop.word.toNat
    | _ => 0
  else match o with
  | 0x00 => s.netBoot.toNat
  | 0x04 => (s.openSessions.map fun k => 2 ^ (k - 1)).sum + 65536 * min 7 s.halfOpen.length
  | _ => 0

/-! ## NVC (Table 11.15), PWR (Table 12.7), KEY, CTR and RNG (Tables 13.5, 13.8 and 13.11) -/

def State.nvcWord (s : State) (o : Nat) : Nat :=
  match o with
  | 0x00 => b2n s.nvc.write.isSome + 2 * b2n s.nvc.reject + 4 * b2n s.nvc.vfail
  | 0x04 => s.nvc.addr.toNat / 4 * 4
  | 0x08 => s.nvc.wdata.toNat
  | 0x10 => s.nvc.corr.word.toNat
  | 0x14 => s.nvc.unc.word.toNat
  | 0x18 => s.nvc.uncAddr.toNat
  | _ => 0

/-- Two's complement in `n` bits. -/
def twos (n : Nat) (v : Int) : Nat := (v % (2 ^ n : Int)).toNat

/-- PWR_RES_Pk with the time in the present state. -/
def State.residency (s : State) (k : Fin 5) : SatCount :=
  if s.power.code = k.val then satAdd (s.pwr.res.get k) ((s.timeBase.toNat - s.pwr.since) / 1000) else s.pwr.res.get k

/-- PWR_THERM. -/
def Pwr.thermWord (p : Pwr) : Nat :=
  p.ceil % 256 + 256 * b2n p.atCeil + 512 * b2n p.crit + 1024 * p.sfail.toNat + 65536 * twos 16 p.tmax

def State.pwrWord (s : State) (o : Nat) (hold : Nat) : Nat :=
  let p := s.pwr
  if h : 0x40 ≤ o ∧ o % 4 = 0 ∧ (o - 0x40) / 4 < 5 then (s.residency ⟨(o - 0x40) / 4, h.2.2⟩).word.toNat
  else match o with
  | 0x00 => s.power.code + 16 * s.permit.code + 256 * hold
  | 0x04 => s.tMin + 65536 * s.tSrc
  | 0x08 => p.level
  | 0x0C => p.cap
  | 0x10 => p.rate + 65536 * p.eff
  | 0x14 => p.thermWord
  | 0x18 => p.waiting.toNat + 256 * p.blocked.toNat + 65536 * p.lastClass.toNat + 2 ^ 20 * p.lastRank.toNat
  | 0x20 => lo32 p.spent.toNat
  | 0x28 => lo32 p.exempt.toNat
  | 0x30 => lo32 p.hbytes.toNat
  | 0x38 => p.wakeWord
  | _ => 0

def State.liveBits (s : State) : Nat := maskOf 64 fun k => (s.slot k).live

def State.keyWord (s : State) (o : Nat) : Nat :=
  let k := s.keys
  match o with
  | 0x00 => lo32 s.liveBits
  | 0x08 => lo32 s.revokedBits
  | 0x14 => k.hdrType.toNat + 8 * b2n k.hdrMode + 256 * k.hdrLen.toNat
  | 0x18 => k.loadPolicy.toNat
  | 0x20 => b2n k.busy + 2 * b2n k.done + 4 * k.result.toNat
  | _ => 0

def State.ctrWord (s : State) (o : Nat) : Nat :=
  if 0x100 ≤ o ∧ o < 0x200 then s.counter ((o - 0x100) / 4)
  else match o with
  | 0x04 => s.ctr.arg.toNat
  | 0x08 => b2n s.ctr.busy + 2 * b2n s.ctr.done + 4 * s.ctr.result.toNat
  | 0x0C => s.ctr.value.toNat
  | _ => 0

def SrcState.code : SrcState → Nat
  | .off => 0 | .startup => 1 | .healthy => 2 | .failed => 3

def State.drbgCode (s : State) : Nat :=
  if s.rng.drbg.isNone then 0 else if s.drbgRefuses then 3 else if s.rng.dueSince.isSome then 2 else 1

/-- RNG_RAW reads 0 here; its fresh samples in the Maker state (R394) are added by the read itself. -/
def State.rngWord (s : State) (o : Nat) : Nat :=
  let r := s.rng
  match o with
  | 0x00 => r.src.code + 4 * s.drbgCode + 16 * b2n r.rct + 32 * b2n r.apt + 64 * r.fails.toNat + 256 * b2n r.request.isSome + 512 * b2n r.done +
      1024 * b2n r.refused
  | 0x08 => r.addr.toNat
  | 0x0C => r.len.toNat
  | 0x10 => r.reqs.word.toNat
  | 0x14 => r.reseeds.word.toNat
  | _ => 0

/-! ## GATE (Table 14.7), LCC (Table 15.10), SYS, CLK and EVL (Tables 16.9, 17.7 and 18.11), HCS and TMP (Tables 19.7 and 19.11) -/

def Gate.infoWord (g : Gate) : Nat :=
  g.master.toNat + 256 * g.access.toNat + 4096 * g.rule.toNat + 2 ^ 31 * b2n g.valid

def State.gateWord (s : State) (o : Nat) : Nat :=
  if hg : o / 0x400 < 22 then
    let g := s.gates.get ⟨o / 0x400, hg⟩
    let r := o % 0x400
    if h : 0x100 ≤ r ∧ (r - 0x100) / 0x10 < 8 then
      (if o / 0x400 = 21 then 0
       else
         let x := g.regions.get ⟨(r - 0x100) / 0x10, h.2⟩
         match r % 0x10 with
         | 0 => x.base.toNat
         | 4 => x.attrWord
         | 8 => x.perm.toNat
         | _ => 0)
    else match r with
    | 0x00 => o / 0x400 + 32 * b2n s.openDebugRule
    | 0x04 => g.firstAddr.toNat
    | 0x08 => g.infoWord
    | 0x0C => lo32 g.firstTime.toNat
    | 0x14 => g.vcount.word.toNat
    | _ => 0
  else 0

def Lcc.hucfg (l : Lcc) : Nat := l.capUf.toNat + 65536 * l.div.toNat + 2 ^ 20 * l.vmin.toNat

def State.lccWord (s : State) (o : Nat) : Nat :=
  let l := s.lcc
  if 0x40 ≤ o ∧ o < 0x80 then (l.fuses.toList.getD ((o - 0x40) / 4) 0).toNat
  else match o with
  | 0x00 => l.state.code + 256 * b2n (l.phase ≠ .none) + 512 * b2n s.dbg.prov + 1024 * b2n s.dbg.open_
  | 0x08 => l.xStatus + 16 * l.xCause + 256 * l.xTarget
  | 0x0C => l.hucfg
  | 0x10 => l.huv.toNat
  | 0x14 => l.hue.toNat
  | _ => 0

def Sys.bootInfo (y : Sys) : Nat :=
  y.kind.toNat + 4 * b2n y.inRom + 8 * b2n y.slot + 16 * b2n y.trialFw + 32 * b2n y.recovery + 64 * b2n y.counted + 128 * b2n y.recordBad +
    256 * y.slot0Result.toNat + 4096 * y.slot1Result.toNat + 65536 * y.revert.toNat

def State.sysWord (s : State) (o : Nat) : Nat :=
  let y := s.sys
  match o with
  | 0x00 => y.bootInfo
  | 0x08 => y.wdtMs.toNat + 65536 * b2n y.wdtEn
  | 0x0C => y.cwdt.elim 0 (fun t => min 0xFFFF (s.secondsLeft t)) + 65536 * b2n y.cwdt.isSome
  | 0x10 => s.upd.cfgFlags
  | 0x1C => y.rstatOutcome.toNat + 16 * b2n y.rstatBusy
  | 0x20 => s.evl.sramCorr.word.toNat
  | 0x24 => s.evl.sramUnc.word.toNat
  | 0x28 => s.evl.sramUncAddr.toNat
  | _ => 0

def State.clkWord (s : State) (o : Nat) : Nat :=
  let c := s.clk
  match o with
  | 0x00 => b2n c.coreLock + 2 * b2n c.chLock + 4 * b2n c.netLock + 8 * b2n c.refOk + 16 * b2n c.x32Ok + 32 * b2n c.x32Fail + 64 * b2n (s.power = .p1)
  | 0x04 => c.rstCause.toNat
  | 0x08 => lo32 s.timeBase.toNat
  | 0x10 => lo32 s.utcField
  | 0x18 => c.utcSetLo.toNat
  | 0x24 => c.netLoss.word.toNat
  | _ => 0

def State.evlWord (s : State) (o : Nat) : Nat :=
  let e := s.evl
  match o with
  | 0x00 => e.queue.length + 512 * b2n (!e.queue.isEmpty && !e.scanning && !s.vddWarn) + 1024 * b2n e.scanning
  | 0x04 => lo32 e.newest
  | 0x0C => lo32 e.oldest
  | 0x14 => e.overwr.word.toNat
  | 0x18 => e.drop.word.toNat
  | 0x20 => (e.raiseP.get 0).toNat
  | 0x24 => (e.raiseP.get 1).toNat
  | 0x28 => (e.raiseP.get 2).toNat
  | 0x2C => (e.raiseP.get 3).toNat
  | _ => 0

/-- The firmware's cause of Table 19.8: a host in Detention for a reason other than NO_TIMETABLE, or a FAILED select. -/
def State.alertFirmware (s : State) : Bool :=
  all24.any (fun h => (s.imgOf h).state = .detention && (s.imgOf h).reason ≠ detNoTimetable) ||
    all24.any fun c => (s.chan c).sels.toList.any fun sl => sl.state = .failed

/-- HCS_ALERT (Tables 19.7 and 19.8). -/
def State.alertWord (s : State) : Nat :=
  let c := s.hcs
  b2n (c.alertFw || (!s.sys.inRom && s.alertFirmware)) + 2 * b2n c.alertBoot + 4 * b2n (s.sys.listen ≠ 0) + 8 * b2n s.pwr.crit +
    16 * b2n (s.lcc.state = .scrapped || s.lcc.state = .indeterminate) +
    32 * b2n ((List.range 8).any fun k => s.tmp.active k && s.tmp.cfg.getLsbD (4 * k + 3))

/-- ALERT_N is driven low (R504). -/
def State.alertLow (s : State) : Bool := s.alertWord ≠ 0

def State.hcsWord (s : State) (o : Nat) : Nat :=
  let c := s.hcs
  let m := fun (v : BitVec 24) => (v &&& s.maskBits).toNat
  match o with
  | 0x00 => m c.pwren
  | 0x04 => m c.run
  | 0x08 => m c.egr
  | 0x0C => m c.hold
  | 0x10 => m c.pend
  | 0x14 => s.alertWord
  | _ => 0

def State.tmpWord (s : State) (o : Nat) : Nat :=
  match o with
  | 0x00 => s.tmp.cfg.toNat
  | 0x04 => s.tmp.level.toNat
  | 0x08 => s.tmp.activeBits
  | 0x0C => s.tmp.latch.toNat
  | _ => 0

end Sys2Proof.Machine
end

