-- ==== Sys2Proof/Machine/NetFlow.lean ====
section
/-! DEFINITION. APPLY and its validation (R331), the reception of DDP messages with the checks of a session (R304, R306, R312,
R313), and the opening of sessions (R310, R314, R315). -/
namespace Sys2Proof.Machine

/-! ## The communication block (R330, R331) -/

/-- The parameters in force, and those that the stored block gives. -/
def State.commNow (s : State) : CommSet :=
  { cfgs := (List.finRange 8).map fun k => (s.net.ports.get k).cfg, rollcallS := s.net.rollcallS, idleS := s.net.idleS, provPort := s.net.provPort }
def State.commStored (s : State) : CommSet :=
  { cfgs := (List.finRange 8).map s.storedNet, rollcallS := s.storedVal 0x1110 1, idleS := s.storedVal 0x1110 2, provPort := s.storedVal 0x1110 3 }

/-- The entries of the block and their values. -/
def CommSet.vals (c : CommSet) : List ((Nat × Nat) × Nat) :=
  ((List.range 8).flatMap fun k =>
    let p := c.cfgs.getD k (factoryNet 0)
    let e := b2n p.enabled
    if k < 4 then
      let i := 0x1100 + k
      [((i, 1), e), ((i, 2), p.node), ((i, 3), p.nominal), ((i, 4), p.dataRate), ((i, 5), p.sp1), ((i, 6), p.sp2)]
    else
      let i := 0x1108 + (k - 4)
      [((i, 1), e), ((i, 2), p.node), ((i, 3), p.plcaCount), ((i, 4), p.toTimer), ((i, 5), p.burst), ((i, 6), p.burstTimer), ((i, 7), leNat p.mac)]) ++
    [((0x1110, 1), c.rollcallS), ((0x1110, 2), c.idleS), ((0x1110, 3), c.provPort)]

def CommSet.port (c : CommSet) (k : Nat) : NetCfg := c.cfgs.getD k (factoryNet 0)
/-- Ports whose parameters differ. -/
def portsChanged (a b : CommSet) : List Nat := (List.range 8).filter fun k => a.port k ≠ b.port k

def State.putComm (s : State) (c : CommSet) : State :=
  s.modNet fun n => { n with
    ports := Vector.ofFn fun (k : Fin 8) => (n.ports.get k).reconfigure (c.port k.val)
    rollcallS := c.rollcallS, idleS := c.idleS, provPort := c.provPort }

/-- Sessions on ports that change close with cause 6 under the old parameters; sessionless transfers there end. -/
def State.leavePorts (s : State) (ps : List Nat) : State :=
  (s.closeWhere (fun x => ps.contains x.port) 6 true).modNet fun n => { n with
    transfers := n.transfers.filter fun t => !(t.session = 0 && ps.contains t.port) }

def applyValidate : Nat := 120 * second

/-- Ports changed and outcome of EV 0x0A0E, the outcome as 0x1110.11 codes it. -/
def State.applyEvent (s : State) (ps : List Nat) (outcome : Nat) : State :=
  s.raise 0x0A0E srcFW (p8 (ps.map (2 ^ ·)).sum ++ p8 outcome)

/-- APPLY takes effect. -/
def State.applyNow (s : State) : State :=
  let old := s.commNow
  let new := s.commStored
  let ps := portsChanged old new
  let wait := ps.filter fun k => (new.port k).enabled
  let st := if wait.isEmpty then 2 else 1
  (((s.leavePorts ps).putComm new).modNet fun n => { n with
    applyDue := false, applyAt := s.timeBase.toNat + applyValidate, applyOld := if wait.isEmpty then none else some (n.applyOld.getD old)
    applyWait := wait, applyStatus := st }).applyEvent ps st

/-- The old values are stored again; none but those that differ are written. -/
def State.storeComm (s : State) (c : CommSet) : State :=
  c.vals.foldl (fun st v => if st.storedVal v.1.1 v.1.2 = v.2 then st else st.persistVal v.1.1 v.1.2 v.2 0) s

/-- The validation fails: every changed parameter returns to its previous value. -/
def State.applyRevert (s : State) : State :=
  match s.net.applyOld with
  | none => s
  | some old =>
    let ps := portsChanged s.commNow old
    ((((s.leavePorts ps).storeComm old).putComm old).modNet fun n => { n with applyOld := none, applyWait := [], applyStatus := 3 }).applyEvent ps 3

/-- A session opened on a port validates its parameters. -/
def State.applySeen (s : State) (port : Nat) : State :=
  let w := s.net.applyWait.filter (· ≠ port)
  if s.net.applyOld.isSome && s.net.applyWait.contains port then
    s.modNet fun n => { n with applyWait := w, applyOld := if w.isEmpty then none else n.applyOld, applyStatus := if w.isEmpty then 2 else 1 }
  else s

/-! ## Reception -/

/-- The controller answers on a port: its firmware runs, or the ROM listens (R16, R449). -/
def State.serves (s : State) (k : NetPort) : Bool := (s.fwRuns || s.sys.listen ≠ 0) && s.netRuns k && s.power ≠ .p4

/-- The message has the sender that the session is bound to (R313). -/
def Session.boundTo (x : Session) (m : DdpIn) : Bool := x.port = m.port.val && x.addr = m.addr

/-- R312: the record of accepted numbers after `q`, or none where the message is dropped. -/
def acceptSeq (high : Word) (seen : BitVec 63) (q : Nat) : Option (Word × BitVec 63) :=
  if newer32 q high.toNat then
    let d := (q + 2 ^ 32 - high.toNat) % 2 ^ 32
    some (BitVec.ofNat 32 q, BitVec.ofNat 63 (seen.toNat * 2 ^ min d 64 + (if d ≤ 63 then 2 ^ (d - 1) else 0)))
  else
    let b := (high.toNat + 2 ^ 32 - q % 2 ^ 32) % 2 ^ 32
    if 1 ≤ b && b ≤ 63 && !seen.getLsbD (b - 1) then some (high, seen ||| BitVec.ofNat 63 (2 ^ (b - 1))) else none

/-- A MAC that fails: counted, and logged once per partner and second. -/
def State.macFailed (s : State) (m : DdpIn) (k : Nat) : State :=
  let sec := s.sec
  let due := (s.partner m.port.val m.addr).elim true fun p => p.macLogged ≠ some sec
  ((s.modNet fun n => { n with macFails := satInc n.macFails }).modPartner m.port.val m.addr fun p => { p with macLogged := some sec }).raiseIf
    due 0x0A04 srcNET (p8 k ++ p8 (s.partnerIndex m.port.val m.addr))

/-- A replayed or stale number: counted, and logged once per session and second. -/
def State.replayed (s : State) (k q : Nat) (x : Session) : State :=
  ((s.modNet fun n => { n with replays := satInc n.replays }).modSession k fun y => { y with replayLogged := some s.sec }).raiseIf
    (x.replayLogged ≠ some s.sec) 0x0A05 srcNET (p8 k ++ p32 q)

/-- The 16 bytes in the place of a MAC that no key makes (R304, R315): the spec states no value. -/
def freeMac (n : Nat) : Bytes := leBytes 16 (Config.entropy n).toNat

/-- The sessionless ABORT 0x0503_0002 carries the SESSION and XID of the message, and for its SESSION a MAC field (R304, R315). -/
def State.unknownSession (s : State) (m : DdpIn) (session xid : Nat) : State :=
  (({ s with free := s.free + 1 } : State).sendTo m.port.val m.addr
    (msgBytes tyAbort 0 session xid 0 (abortBody [] 0x05030002) true ++ freeMac s.free)).modNet fun n =>
      { n with abortsSent := satInc n.abortsSent }

/-- The session of a message that is accepted in it; the session closes with cause 5 where its numbers run out. -/
def State.inSession (s : State) (m : DdpIn) (x : Msg) (f : Session → State → State) : State :=
  match s.session x.session with
  | none => s.unknownSession m x.session x.xid
  | some y =>
    if !(y.boundTo m && y.open_) then s.unknownSession m x.session x.xid
    else if macOf (s.roleKey y.role) 0x50 y.np y.nc x.signed ≠ x.mac then s.macFailed m x.session
    else
      match acceptSeq y.high y.seen x.seq with
      | none => s.replayed x.session x.seq y
      | some (hi, seen) =>
        let s1 := s.modSession x.session fun z => { z with high := hi, seen := seen, lastHeard := s.timeBase.toNat }
        let s2 := f { y with high := hi, seen := seen } s1
        if 2 ^ 31 - 2 ≤ hi.toNat then s2.closeSession x.session 5 true else s2

/-- A malformed message is dropped; in an open session it is answered. -/
def State.malformed (s : State) (m : DdpIn) : State :=
  let k := u8 m.bytes 4
  if (s.session k).elim false (fun y => y.open_ && y.boundTo m) then s.sendIn k tyAbort 0 (u8 m.bytes 5) (abortBody [] 0x05030001) else s

/-- The controller takes a message of type `typ` that a port received (R303, R304, R308). -/
def State.ddpTake (s : State) (m : DdpIn) (typ : Nat) (f : Msg → State → State) : State :=
  let s0 := s.modNet fun n => { n with ports := updV n.ports m.port fun p => { p with rx := p.rx.erase m } }
  if !s.serves m.port then s0
  else
    let s1 := if s.power = .p2 || s.power = .p3 then s0.wake wkNet m.port.val else s0
    match Msg.parse m.port m.bytes with
    | none => s1.malformed m
    | some x => if x.typ ≠ typ then s else f x (s1.touchPartner m.port.val m.addr)

/-! ## Opening (R310, R314, R315) -/

/-- A refusal: a sessionless ABORT, counted, EV 0x0A03. -/
def State.refuseOpen (s : State) (m : DdpIn) (code : Nat) : State :=
  ((s.sendPlain m.port.val m.addr tyAbort 0 0 0 (abortBody [] code)).modNet fun n => { n with refusals := satInc n.refusals }).raise 0x0A03 srcNET
    (p8 m.port.val ++ addr8 m.addr ++ p32 code)

/-- Roles that Table 15.1 admits. -/
def State.roleAdmitted (s : State) (role : Nat) : Bool :=
  match s.lcc.state with
  | .maker => false
  | .integrator | .fielded | .returned => 1 ≤ role && role ≤ 4
  | .scrapped | .indeterminate => role = 4

def State.lockedOut (s : State) (m : DdpIn) : Bool :=
  s.net.lockouts.any fun l => l.1 = m.port.val && l.2.1 = m.addr && s.timeBase.toNat < l.2.2

/-- The first refusal of R314 before the DRBG is asked, or 0. -/
def State.openRefused (s : State) (m : DdpIn) (role : Nat) : Nat :=
  if sessionNos.all (fun k => (s.session k).isSome) || 4 ≤ s.halfOpen.length || (s.sys.listen ≠ 0 && 4 ≤ s.openSessions.length) then 0x05030003
  else if !((s.slot role).live && (s.slot role).typ = typRole && 1 ≤ role && role ≤ 4) && s.roleAdmitted role then 0x05030005
  else if s.lockedOut m then 0x05030006
  else if !s.roleAdmitted role then 0x05030007
  else 0

/-- OPEN_CHAL for a session number, NP and NC. -/
def State.openChal (s : State) (m : DdpIn) (k role xid : Nat) (np nc : Bytes) : Bytes :=
  let b := msgBytes tyOpenChal 0 k xid 0 (nc ++ p32 s.netBoot.toNat ++ p16 (segMax m.port.val true) ++ [0, 0]) true
  b ++ macOf (s.roleKey role) 0x43 np nc b

def newSession (m : DdpIn) (role : Nat) (np nc chal : Bytes) (now : Nat) : Session :=
  { open_ := false, role, port := m.port.val, addr := m.addr, np, nc, chal, seqOut := 1, high := 0, seen := 0, lastHeard := now
    lastXid := 0, lastBody := [], lastAnswer := [], replayLogged := none, pageSel := 0, termSel := 1, eventSel := 0
    appendRsp := [], card := [], cardReq := none, chal2003 := none }

def State.openReq (s : State) (m : DdpIn) (x : Msg) : State :=
  let role := u8 x.body 0
  let np := field x.body 4 16
  let again := sessionNos.find? fun k => (s.session k).elim false fun y => !y.open_ && y.boundTo m && y.np = np && y.role = role
  match again with
  | some k => s.sendTo m.port.val m.addr ((s.session k).elim [] Session.chal)
  | none =>
    let n := s.openRefused m role
    if n ≠ 0 then s.refuseOpen m n
    else
      match s.draw 16 false conSession, sessionNos.find? fun k => (s.session k).isNone with
      | (some nc, s1), some k =>
        let c := s1.openChal m k role x.xid np nc
        (s1.setSession k (some (newSession m role np nc c s.timeBase.toNat))).sendTo m.port.val m.addr c
      | (_, s1), _ => s1.refuseOpen m 0x06080000

def lockTime : Nat := 60 * second

/-- A failed proof: ABORT 0x0503_0004, FREE, and the lockout after three within 60 s. -/
def State.proofFailed (s : State) (m : DdpIn) (k xid : Nat) : State :=
  let now := s.timeBase.toNat
  let mine := fun (f : Nat × Bytes × Nat) => f.1 = m.port.val && f.2.1 = m.addr
  let fs := s.net.proofFails.filter (fun f => now < f.2.2 + lockTime) ++ [(m.port.val, m.addr, now)]
  let lock := 3 ≤ (fs.filter mine).length
  let s1 := (s.sendPlain m.port.val m.addr tyAbort 0 0 xid (abortBody [] 0x05030004)).closeSession k causeProof false
  let s2 := s1.raise 0x0A03 srcNET (p8 m.port.val ++ addr8 m.addr ++ p32 0x05030004)
  (s2.modNet fun n => { n with
    proofFails := if lock then fs.filter (fun f => !mine f) else fs
    lockouts := if lock then n.lockouts ++ [(m.port.val, m.addr, now + lockTime)] else n.lockouts }).raiseIf lock 0x0A0F srcFW
      (p8 m.port.val ++ addr8 m.addr)

/-- The largest window that the controller grants. -/
def windowMax : Nat := 127

def State.openProof (s : State) (m : DdpIn) (x : Msg) : State :=
  match s.session x.session with
  | none => s.unknownSession m x.session x.xid
  | some y =>
    if !y.boundTo m || y.open_ then (if y.open_ then s.inSession m x fun _ t => t else s.unknownSession m x.session x.xid)
    else if macOf (s.roleKey y.role) 0x50 y.np y.nc x.signed ≠ x.mac || x.seq ≠ 0 then s.proofFailed m x.session x.xid
    else
      let s1 := (s.modSession x.session fun z => { z with open_ := true, lastHeard := s.timeBase.toNat }).raise 0x0A01 srcNET
        (p8 x.session ++ p8 y.role ++ p8 y.port ++ p8 (s.partnerIndex y.port y.addr))
      (s1.sendIn x.session tyOpenOk 0 x.xid (p16 s.net.idleS ++ p8 windowMax ++ [0])).applySeen y.port

/-- CLOSE from the partner: CLOSE with cause 1. -/
def State.closeFrom (s : State) (m : DdpIn) (x : Msg) : State := s.inSession m x fun _ t => t.closeSession x.session 1 true

end Sys2Proof.Machine
end

