-- ==== Sys2Proof/Machine/BootFlow.lean ====
section
/-! DEFINITION. Cold resets (R471, R472), the ROM's cold start with the firmware's cold path (R442, R87, R350), and recovery listen
(R449 to R451). -/
namespace Sys2Proof.Machine

/-! ## Cold resets (Table 17.4) -/

/-- Bits of CLK_RSTCAUSE. -/
def rcPor : Nat := 0
def rcBorVdd : Nat := 1
def rcBorVddio : Nat := 2
def rcPin : Nat := 3
def rcPllCore : Nat := 4
def rcPllCh : Nat := 5
def rcRef : Nat := 6

/-- A select after a cold reset: what the NV store and the device keep. -/
def Select.reset (sl : Select) (parked : Bool) : Select :=
  { badBlocks := sl.badBlocks, admitWord := sl.admitWord, formatSeq := sl.formatSeq
    state := if parked then .parked else if sl.state = .failed then .failed else .absent }

def Channel.reset (ch : Channel) : Channel := { parked := ch.parked, sels := ch.sels.map fun sl => sl.reset ch.parked }

/-- The Registrar's persistent state; what lies in flash and in the NV store stays. -/
def Placement.reset (p : Placement) : Placement :=
  { extents := p.extents, xepoch := p.xepoch, flash := p.flash, spare := p.spare, journal := p.journal, shadows := p.shadows
    lost := p.lost, refreshes := p.refreshes, registry := p.registry, wseqFloor := p.wseqFloor, wseqSaves := p.wseqSaves
    poolId := p.poolId, journalMib := p.journalMib, norShadowMib := p.norShadowMib }

def HostImg.reset (i : HostImg) : HostImg := { slots := i.slots, confirmedKey := i.confirmedKey }

def Lcc.reset (l : Lcc) : Lcc := { fuses := l.fuses, state := l.state, capUf := l.capUf, div := l.div, vmin := l.vmin }

def KeyStore.reset (k : KeyStore) : KeyStore := { slots := k.slots, stagedList := k.stagedList }

def Counters.reset (c : Counters) : Counters := { rings := c.rings.map fun (r : CtrRing) => { r with badLogged := [] } }

/-- The archive lies in the pool and the NV store (R265, R294). -/
def Arc.reset (a : Arc) (por : Bool) : Arc :=
  { a with refcnt := {}, seqStuck := false, warned := false, cardWait := [], lastCmd := 0, lastResult := 0
           cards := Vector.replicate 24 none, tokens := if por then 0 else a.tokens }

/-- R281: NEXT is the largest readable word, and one more when a word is uncorrectable. -/
def Signer.reset (g : Signer) : Signer :=
  let n := maxOf ((g.ring.filter fun x => !g.bad.contains x.1).map fun x => x.2.toNat)
  { ring := g.ring, bad := g.bad, offLogged := g.offLogged, next := BitVec.ofNat 32 (if g.bad.isEmpty then n else n + 1) }

/-- A source that has failed stays so until the next power-up (R393). -/
def Rng.reset (r : Rng) (por : Bool) : Rng := { src := if !por && r.src = .failed then .failed else .off }

/-- The bucket's level, the sensors' failures and the sampled supplies lie in the always-on domain. -/
def Pwr.reset (p : Pwr) (por : Bool) (now : Nat) : Pwr :=
  { level := if por then 0 else p.level, sfail := if por then 0 else p.sfail, since := now }

/-- Network ports before the firmware, or the ROM in recovery listen, configures them. -/
def netReset (old : Option CommSet) : Net :=
  { ports := Vector.replicate 8 { cfg := NetCfg.off }, applyOld := old }

/-- The update engine's state lies in the NV store and the pool. -/
def Update.reset (u : Update) : Update := { u with pat := {}, defaulted := [], dirDefault := false }

def Evl.reset (e : Evl) : Evl := { ring := e.ring, nextSeq := e.nextSeq }

/-- A word write in progress completes before NVC is reset (R472). -/
def State.nvFinish (s : State) : Mem :=
  match s.nvc.write with
  | some w => if w.held then s.nv else s.nv.writeN 0 (nvBase + w.offset) (p32 w.value.toNat)
  | none => s.nv

def Clk.reset (c : Clk) (cause : Nat) : Clk :=
  let por := decide (cause = rcPor)
  { rstCause := if por then 1 else c.rstCause ||| BitVec.ofNat 7 (2 ^ cause), floor := c.floor, floorSaves := c.floorSaves
    x32Ok := !por && c.x32Ok, x32Fail := !por && c.x32Fail, tbFrac := if por then 0 else c.tbFrac }

/-- A minute of time base, by which the floor is passed at power-on (R461). -/
def floorStep : Nat := 60000000

/-- A cold reset with its cause: everything but the NV store, the pool, the fuses and, except at power-on, the always-on domain
returns to its reset value. -/
def State.coldReset (s : State) (cause : Nat) : State :=
  let por := decide (cause = rcPor)
  let tb := if por then s.clk.floor + BitVec.ofNat 64 floorStep else s.timeBase
  let wasOpen := s.dbg.open_
  { pending := s.pending, free := s.free, part := s.part, timeBase := tb, utc := if por then none else s.utc, netBoot := s.netBoot
    restarting := false, power := .p0, vddWarn := false, evl := s.evl.reset
    ports := Vector.replicate 24 {}, tt := Vector.replicate 24 {}, ttb := {}, chans := s.chans.map Channel.reset, plc := s.plc.reset
    img := s.img.map HostImg.reset, lists := [], gates := Vector.replicate 22 {}, lcc := s.lcc.reset, dbg := {}, keys := s.keys.reset
    ctr := s.ctr.reset, rng := s.rng.reset por, dgc := {}, sig := {}, upd := s.upd.reset, hcs := {}
    tmp := if por then { s.tmp with latch := 0 } else s.tmp, sys := {}, boot := s.boot, clk := s.clk.reset cause, nvc := {}
    pwr := s.pwr.reset por tb.toNat, net := netReset s.net.applyOld, arc := s.arc.reset por, signer := s.signer.reset, latches := []
    sram := s.sram, nv := s.nvFinish : State }.raiseIf wasOpen 0x0F06 srcFW (p8 lockColdStart)

/-- A reset that a fuse group write holds off (R472). -/
def State.softReset (s : State) (cause : Nat) : State :=
  if s.lcc.phase = .writing then { s with clk := { s.clk with heldReset := some cause } } else s.coldReset cause

/-- A reset that cuts a fuse group write: `burnt` is what its words read back (R472). -/
def State.hardReset (s : State) (cause : Nat) (burnt : List Word) : State :=
  if s.lcc.phase = .writing then
    ({ s with lcc := { s.lcc with fuses := burnGroup s.lcc.fuses (lcGroup s.lcc.target) burnt 4 } }).coldReset cause
  else s.coldReset cause

/-- The group write ends, and with it the hold of R472. -/
def State.fuseDone (s : State) (got : List Word) : State :=
  let s1 := s.lcWritten got
  match s.clk.heldReset with
  | some c => s1.coldReset c
  | none => s1

/-! ## The firmware's cold path (R442) -/

/-- The communication block's port parameters take effect. -/
def State.startNet (s : State) : State := s.putComm s.commStored

/-- R350 and R120: a channel's stored schedule, or the factory one with EV 0x0418. -/
def State.loadBell (s : State) (c : Chan) : State :=
  let img := s.genNow.blob (0x0300 + c.val)
  let n := img.elim 0 fun b => bellFirstFailed b c.val s.partCode (s.fused c.val) fun h => s.fused h
  let b := match img with
    | some x => if n = 0 then BellSchedule.parse x else factoryBell c.val
    | none => factoryBell c.val
  if s.fused c.val then s
  else ((s.modChan c fun ch => { ((ch.stageBell b).takeBell) with pwren := !ch.parked }).raiseIf (n ≠ 0) 0x0418 srcFCC (p8 c.val ++ p8 n))

/-- Events of a cold start, and the cause register cleared (R461, R472). -/
def State.coldEvents (s : State) : State :=
  let por := s.clk.rstCause.getLsbD rcPor
  let s1 := s.raise 0x0C01 srcFW (p32 s.clk.rstCause.toNat ++ p64 s.timeBase.toNat)
  let s2 := { s1 with clk := { s1.clk with rstCause := 0 } }
  s2.raiseIf por 0x0C03 srcFW (p64 s.clk.floor.toNat ++ p64 (s.clk.floor.toNat + floorStep))

/-- The firmware's cold path up to the power-up steps of the Registrar. -/
def State.fwCold (s : State) (c : ColdStart) : State :=
  let s1 := (s.coldEvents.loadSettings c.badBlocks c.badDirs).loadValues true
  let s2 := s1.raiseIf (s1.upd.inForce.isNone) 0x0805 srcFW (p8 (b2n s1.upd.actSel))
  let s3 := forEach all24 (fun ch st => st.loadBell ch) s2
  let s4 := (s3.applyGateSet s3.genNow.gateSet).instantiateDrbg
  let s5 := s4.signer.bad.foldl (fun st w => st.raise 0x090A srcFW (p32 w ++ p32 s4.signer.next.toNat)) s4
  let s6 := { s5 with upd := s5.upd.afterPowerUp, evl := { s5.evl with scanning := false } }
  let s7 := if s6.net.applyOld.isSome then (s6.putComm s6.commStored).applyRevert else s6.startNet
  s7.sendRollcalls

/-! ## Timetables at power-up (R87) -/

/-- The first check that a stored Timetable fails when it is loaded. -/
def State.ttLoadFailed (s : State) (h : Host24) (img : Bytes) : Nat :=
  let n := ttFirstFailed img h.val s.partCode (s.fused h.val)
  let t := Timetable.parse img
  if n ≠ 0 then n else if !s.ttCheck12 t h.val then 12 else if !s.ttCheck13 t h then 13 else 0

/-- What bank B of a host takes, with the check that its stored Timetable fails. -/
def State.loadTt (s : State) (h : Host24) : Timetable × Nat :=
  match s.genNow.blob (0x0200 + h.val) with
  | none => (factoryTimetable h.val, 0)
  | some img =>
    let n := s.ttLoadFailed h img
    if n = 0 then (Timetable.parse img, 0) else (factoryTimetable h.val, n)

/-- Every host's Timetable is loaded, and all are committed at once; one that fails checks 12 or 13 only waits (R87). -/
def State.loadTimetables (s : State) : State :=
  let hs := all24.filter fun h => !s.fused h.val
  let s1 := hs.foldl (fun st h => st.modTt h fun x => { x.stage (s.loadTt h).1 with ready := true }) s
  let s2 := s1.commitTts hs
  hs.foldl (fun st h =>
    let n := (s.loadTt h).2
    let img := (s.genNow.blob (0x0200 + h.val)).getD []
    if n = 0 then st
    else
      let st1 := st.refuseTt h n
      if n = 12 || n = 13 then st1.awaitTt h (Timetable.parse img) none else st1) s2

/-! ## Recovery listen (R449 to R451) -/

def recoveryBase : Nat := 0x10400000
def recoveryRoom : Nat := 8 * 2 ^ 20

/-- The recovery bundle received so far. -/
def State.rBundle (s : State) : Bytes := s.sram.readN 0 recoveryBase s.sys.rResume

def State.modSys (s : State) (f : Sys → Sys) : State := { s with sys := f s.sys }

/-- A piece's bytes go to SRAM; the last one begins the checks. -/
def State.takeRecovery (s : State) (o total : Nat) (data : Bytes) : State :=
  let n := o + data.length
  ({ s with sram := s.sram.writeN 0 (recoveryBase + o) data }.rewritten (recoveryBase + o) data.length).modSys fun y =>
    { y with rLen := total, rResume := n, rState := if n = total then .checking else .receiving }

/-- A piece written to 0x2801 in recovery listen: the abort code, or 0. -/
def State.recoveryPiece (s : State) (b : Bytes) : Nat × State :=
  let o := u32 b 0
  let data := b.drop 4
  if b.length < 4 then (0x08000001, s)
  else if o = 0 then
    if s.refusals ≠ 0 then (0x08000002, s.raise 0x0802 srcROM (p8 s.refusals))
    else
      let n := s.firstPieceFailed data recoveryRoom true
      let code := if n ≠ 0 then n else pieceFit data.length data.length (bundleLenOf data)
      if code ≠ 0 then (code, (s.sylSigEvent data recoveryRoom true).raise 0x0803 srcROM (p32 code))
      else (0, (s.takeRecovery 0 (bundleLenOf data) data).raise 0x0801 srcROM (bundleId data ++ p32 (bundleLenOf data)))
  else if s.sys.rState ≠ .receiving || o ≠ s.sys.rResume then (0x08000001, s)
  else
    let code := pieceFit data.length (o + data.length) s.sys.rLen
    if code ≠ 0 then (code, s) else (0, s.takeRecovery o s.sys.rLen data)

/-- The checks of R450 step 1 on a bundle whose first piece passed: the outcome. -/
def State.recoveryOutcome (s : State) (b : Bytes) : Nat :=
  match fwItem b with
  | none => ocBadSyllabus
  | some i =>
    if Hash.sha256 (i.payload b) ≠ i.digest then ocItemDigest
    else if s.fwEnvFailed (payloadEnv (i.payload b)) ≠ 0 then ocImageRejected
    else ocOk

/-- The event of the verification that rejects the image (R221). -/
def State.recoverySigEvent (s : State) (b : Bytes) : State :=
  match fwItem b with
  | none => s
  | some i =>
    if Hash.sha256 (i.payload b) = i.digest && s.fwEnvFailed (payloadEnv (i.payload b)) = 7 then s.envSigEvent (payloadEnv (i.payload b)) else s

/-- The checks end: STAGED, or the download is gone; EV 0x0B06. -/
def State.recoveryChecked (s : State) : State :=
  let o := s.recoveryOutcome s.rBundle
  ((s.recoverySigEvent s.rBundle).modSys fun y =>
    if o = ocOk then { y with rState := .staged, rOutcome := o } else { y with rState := .idle, rOutcome := o, rLen := 0, rResume := 0 }).raise 0x0B06
      srcROM (p8 o)

def recoveryEnv (b : Bytes) : Bytes := (fwItem b).elim [] fun i => payloadEnv (i.payload b)
def recoveryImage (b : Bytes) : Bytes := (fwItem b).elim [] fun i => payloadImage (i.payload b)

/-- Sessions of the ROM do not outlive it. -/
def State.dropSessions (s : State) : State :=
  (sessionNos.foldl (fun st k => if (st.session k).isSome then st.closeSession k causeRestart false else st) s).modNet fun n => { n with transfers := [] }

/-- The image is copied into bank 0, check 8 is applied, and the ROM hands over; the firmware takes the cold path (R451). -/
def State.recoveryStart (s : State) : State :=
  let b := s.rBundle
  let e := recoveryEnv b
  let image := recoveryImage b
  let s1 := s.loadImage image
  if !(image.length = envLength e && imageMatches e image) then
    (s1.modSys fun y => { y with rState := .idle, rOutcome := ocImageRejected, rLen := 0, rResume := 0 }).raise 0x0B06 srcROM (p8 ocImageRejected)
  else
    let s2 := (s1.setRegion7.openDebug.dropSessions).handOver 0 e true
    ({ s2 with restarting := false, hcs := { s2.hcs with alertBoot := false }, plc := { s2.plc with scanning := true } }).fwCold {}

/-- ACTIVATE in recovery listen (step 2 of R450). -/
def State.recoveryActivate (s : State) : State :=
  if s.sys.rState ≠ .staged then s.modSys fun y => { y with rOutcome := ocBusy }
  else if s.refusals ≠ 0 then s.modSys fun y => { y with rOutcome := ocRefusedState }
  else s.recoveryStart

/-- DISCARD in recovery listen. -/
def State.recoveryDiscard (s : State) : State :=
  if s.sys.rState = .idle then s.modSys fun y => { y with rOutcome := ocBusy }
  else s.modSys fun y => { y with rState := .idle, rOutcome := ocDiscarded, rLen := 0, rResume := 0 }

/-- SYS_RLOAD: a whole bundle placed in SRAM by the debug master in Maker or Integrator; the checks are those of the first piece and of step 1 of R450, and a bundle
that passes starts (the debug port has no other ACTIVATE). -/
def State.sysRload (s : State) (m : Master) (len : Nat) : State :=
  if !(m = .debug && s.dbg.prov && (s.lcc.state = .maker || s.lcc.state = .integrator) && s.sys.listen ≠ 0) then s
  else
    let s1 := s.modSys fun y => { y with rLen := len, rResume := len }
    let b := s1.rBundle
    let bad := recoveryRoom < len || bundleLenOf b ≠ len || s.firstPieceFailed b recoveryRoom true ≠ 0
    let o := if bad then ocBadBundle else s.recoveryOutcome b
    let s2 := ((if bad then s1.sylSigEvent b recoveryRoom true else s1.recoverySigEvent b).modSys fun y =>
      { y with rstatOutcome := BitVec.ofNat 4 o, rstatBusy := false, rOutcome := o, rState := if o = ocOk then .staged else .idle }).raise 0x0B06 srcROM (p8 o)
    if o = ocOk then s2.recoveryActivate else s2

/-- A select has room for a firmware slot of 4 MiB. -/
def State.slotRoom (s : State) : Bool := (List.range 96).any fun i =>
  (s.selAt i).state = .ready && ((s.selAt i).nand || !s.isLive i) && (s.findRun i 1024).isSome

/-- R451: the image goes to the slot that FW_PREF does not name, and a record in Trial names it. -/
def State.recoveryWrite (s : State) : State :=
  let b := s.rBundle
  let old := (s.upd.inForce).getD {}
  let t := s.upd.inForce.elim 0 fun r => 1 - r.fwPref
  let s1 := s.writeFwSlot t (recoveryEnv b) (recoveryImage b)
  let f := s1.upd.fwOf t
  let r := { s1.newRecord b with
    fwPref := t, fwGen0 := if t = 0 then f.gen else old.fwGen0, fwGen1 := if t = 1 then f.gen else old.fwGen1
    fwSec := BitVec.ofNat 32 (envSec f.envelope) }
  { (s1.modUpd fun u => ({ u with
      trialCount := 0, trialCountSeq := r.actSeq.toNat % 2 ^ 24, bundle := b, bundleLen := b.length, resume := b.length } : Update).writeRecord r) with
    sys := { s1.sys with slot := t = 1, trialFw := true } }

/-! ## After the power-up steps of the Registrar -/

/-- Hosts leave Off (Table 6.4). -/
def State.raiseHosts (s : State) : State :=
  forEach all24 (fun h st => if (st.imgOf h).state = .off && !st.fused h.val then st.powerUpHost h else st) s

/-- The rest of the cold path: Timetables, the update that a power failure or a recovery left, and the hosts. A firmware that found
no room for its slot releases no host. -/
def State.fwRise (s : State) : State :=
  let s1 := s.loadTimetables
  if s1.sys.recovery && !s1.slotRoom then s1
  else
    let s2 := if s1.sys.recovery then s1.recoveryWrite else s1
    s2.afterBoot.advanceCounters.raiseHosts

/-- The firmware in Trial tests itself once the scan has ended. -/
def State.selfTestAfterScan (s : State) : State :=
  match s.upd.inForce with
  | some r => if r.trial && s.upd.state = .trial && s.selfTestDue r && !s.upd.selfTest && s.sys.kind = 0 then s.selfTest else s
  | none => s

/-! ## The ROM's cold start (Table 16.5) -/

/-- What the start meets in the NV store and in the firmware slots. -/
def State.meet (s : State) (c : ColdStart) : State :=
  let u := s.upd
  { s with
    boot := { s.boot with recordWhole := s.boot.recordWhole && c.bootRecord }
    upd := { u with
      defaulted := c.badBlocks.map Prod.fst, dirDefault := c.badDirs.contains u.genInForce
      rec0 := { u.rec0 with whole := u.rec0.whole && !c.badRec0 }, rec1 := { u.rec1 with whole := u.rec1.whole && !c.badRec1 }
      fw0 := { u.fw0 with readable := u.fw0.readable && !c.badSlots.contains 0 }
      fw1 := { u.fw1 with readable := u.fw1.readable && !c.badSlots.contains 1 } } }

/-- The ROM's start: the core, the records and a slot. A working core in recovery listen serves sessions, which draw on the DRBG. -/
def State.romCold (s : State) (c : ColdStart) : State :=
  if !s.sys.inRom || s.sys.listen ≠ 0 then s
  else
    let s1 := { s.meet c with
      sram := [], evl := { s.evl with sramBad := [] }
      clk := { s.clk with coreLock := true, chLock := true, netLock := true, refOk := true } }
    let s2 := s1.lccDecode.failCores c.kat
    if (List.range 16).all fun k => s2.dgc.excluded.getLsbD k then s2.enterListen 2
    else
      let s3 := s2.romBoot
      if s3.sys.inRom then s3.instantiateDrbg
      else ({ s3 with hcs := { s3.hcs with alertBoot := false } }).fwCold c

end Sys2Proof.Machine
end

