-- ==== Sys2Proof/Machine/DictTable.lean ====
section
/-! DEFINITION. The entries of the object dictionary (Table 11.1): access, gates and type of each, the order of R318's checks, and
the values that reads return (chapter 11). -/
namespace Sys2Proof.Machine

/-! ## Entries -/

inductive Acc where
  | ro | wo | rw
  deriving DecidableEq, Repr

/-- The type of an entry: a number or OCTETS of exactly n bytes, TEXT of at most n, a BLOB of lo to hi. -/
inductive DTy where
  | exact (n : Nat)
  | text (n : Nat)
  | blob (lo hi : Nat)
  deriving DecidableEq, Repr

structure DEntry where
  acc : Acc
  rRole : Nat
  wRole : Nat
  rLc : List LcState
  wLc : List LcState
  ty : DTy
  deriving DecidableEq, Repr

def roleOwner : Nat := 1
def roleIntegrator : Nat := 2
def roleOperator : Nat := 3
def roleReader : Nat := 4
def roleAny : Nat := 5

def lcAny : List LcState := [.maker, .integrator, .fielded, .returned, .scrapped, .indeterminate]
def lcI : List LcState := [.integrator]
def lcIF : List LcState := [.integrator, .fielded]
def lcIFR : List LcState := [.integrator, .fielded, .returned]
def lcFR : List LcState := [.fielded, .returned]

def anyBlob : DTy := .blob 0 (2 ^ 32)

def ro (role : Nat) (ty : DTy) : DEntry := { acc := .ro, rRole := role, wRole := role, rLc := lcAny, wLc := lcAny, ty }
def roLc (role : Nat) (lc : List LcState) (ty : DTy) : DEntry := { acc := .ro, rRole := role, wRole := role, rLc := lc, wLc := lc, ty }
def wo (role : Nat) (lc : List LcState) (ty : DTy) : DEntry := { acc := .wo, rRole := role, wRole := role, rLc := lc, wLc := lc, ty }
def rw (role : Nat) (lc : List LcState) (ty : DTy) : DEntry := { acc := .rw, rRole := role, wRole := role, rLc := lc, wLc := lc, ty }
def rw2 (rRole : Nat) (rLc : List LcState) (wRole : Nat) (wLc : List LcState) (ty : DTy) : DEntry := { acc := .rw, rRole, wRole, rLc, wLc, ty }

def n1 : DTy := .exact 1
def n2 : DTy := .exact 2
def n4 : DTy := .exact 4
def n8 : DTy := .exact 8

/-- An index: a record with its subindices, or a single entry, which stands under subindex 0. -/
structure DArea where
  record : Bool
  subs : List (Nat × DEntry)
  deriving DecidableEq, Repr

def single (e : DEntry) : DArea := { record := false, subs := [(0, e)] }
def recordOf (l : List (Nat × DEntry)) : DArea := { record := true, subs := l }
/-- Several subindices with one entry. -/
def each (subs : List Nat) (e : DEntry) : List (Nat × DEntry) := subs.map fun k => (k, e)

/-- Table 11.2. -/
def identityArea : DArea :=
  recordOf [(1, ro 5 n1), (2, ro 5 n1), (3, ro 5 (.exact 16)), (4, ro 5 (.text 16)), (5, ro 5 (.text 16)), (6, ro 5 n4), (7, ro 5 n4), (8, ro 5 n4),
    (9, ro 5 (.exact 16)), (0xA, ro 5 n8), (0xB, ro 5 n4)]

/-- Table 10.12. -/
def commArea (idx : Nat) : Option DArea :=
  if 0x1100 ≤ idx ∧ idx ≤ 0x1103 then
    some (recordOf ([(1, rw 2 lcIF n1), (2, rw 2 lcIF n1)] ++ each [3, 4, 5, 6] (rw 2 lcIF n2) ++ each [7, 8] (ro 4 n4)))
  else if 0x1108 ≤ idx ∧ idx ≤ 0x110B then
    some (recordOf (each [1, 2, 3, 4, 5, 6] (rw 2 lcIF n1) ++ [(7, rw 2 lcIF (.exact 6)), (8, ro 4 n4)]))
  else match idx with
  | 0x1110 => some (recordOf [(1, rw 2 lcIF n2), (2, rw 2 lcIF n2), (3, rw 2 lcI n1), (0x10, wo 2 lcIF n1), (0x11, ro 4 n1)])
  | 0x1200 => some (recordOf [(1, ro 4 n1)])
  | 0x1201 | 0x1202 => some (single (ro 4 anyBlob))
  | 0x1203 => some (recordOf (each [1, 2, 3, 4, 5, 6] (ro 4 n4)))
  | 0x1210 => some (single (wo 2 lcIF (.exact 36)))
  | 0x1211 => some (single (ro 4 n4))
  | _ => none

/-- Tables 11.3, 11.4, 11.5, 11.6 and 6.1, for hosts and channels that this part has. -/
def State.unitArea (s : State) (idx : Nat) : Option DArea :=
  let host := fun (base : Nat) => (hostIx base idx).filter fun h => !s.fused h.val
  if (host 0x2200).isSome then
    some (recordOf ([(0x20, rw 2 lcI n2), (0x21, rw 2 lcIF n1)] ++ each [0x22, 0x23, 0x24, 0x25, 0x26] (rw 2 lcI n4) ++ [(0x27, rw 2 lcIF n2)] ++
      each [0x28, 0x29] (rw 2 lcI n1)))
  else if (host 0x2300).isSome then
    some (recordOf (each [1, 2, 3] (ro 4 n1) ++ each [4, 5, 6] (ro 4 n4) ++ [(7, ro 4 n8), (8, ro 4 (.exact 32)), (0x10, wo 3 lcIFR n4), (0x11, ro 4 n4),
      (0x20, ro 4 n2), (0x21, ro 4 n4), (0x22, ro 4 n2), (0x23, ro 4 (.exact 16))]))
  else if (host 0x2400).isSome then some (single (rw2 4 lcAny 2 lcI anyBlob))
  else if (host 0x2500).isSome then
    some (recordOf [(1, rw2 4 lcAny 2 lcIF anyBlob), (2, ro 4 n2), (3, ro 4 n4), (0x10, wo 3 lcIFR n4), (0x11, ro 4 n4), (0x12, ro 4 n2), (0x13, ro 4 n8),
      (0x14, ro 4 (.exact 48))])
  else if (host 0x2610).isSome then some (single (ro 4 anyBlob))
  else match idx with
  | 0x2000 => some (recordOf [(1, ro 5 n1), (2, ro 4 n4), (3, ro 4 n1), (4, ro 4 n1)])
  | 0x2001 => some (single (wo 2 lcIFR anyBlob))
  | 0x2002 => some (single (ro 4 n4))
  | 0x2003 => some (single (roLc 1 lcFR (.exact 32)))
  | 0x2004 => some (single (wo 1 lcFR anyBlob))
  | 0x2100 => some (recordOf [(1, ro 4 n1), (2, rw 2 lcIF n2), (3, ro 4 n2), (4, ro 4 n4), (5, rw 2 lcIF n4), (6, rw 2 lcIF n2), (7, rw 2 lcIF n1)])
  | 0x2600 => some (recordOf ([(1, ro 4 n1), (2, ro 4 n1), (3, ro 4 n2)] ++ each [4, 5, 6, 7] (ro 4 n8) ++ each [0x10, 0x11, 0x12] (rw 2 lcIF n2) ++
      each [0x14, 0x15] (rw 2 lcIF n4) ++ [(0x20, wo 3 lcIFR n4), (0x21, ro 4 n4)]))
  | _ => none

/-- Tables 6.1, 11.7, 8.10a, 9.14, 11.8 and 11.9. -/
def plainArea (idx : Nat) : Option DArea :=
  if 0x2740 ≤ idx ∧ idx ≤ 0x277F then some (recordOf (each [1, 2, 3] (ro 4 n1) ++ [(4, ro 4 n4), (5, ro 4 n8)]))
  else if 0x2C40 ≤ idx ∧ idx ≤ 0x2C7F then some (single (ro 4 n4))
  else if 0x2A01 ≤ idx ∧ idx ≤ 0x2A16 then
    some (recordOf [(1, ro 4 n4), (2, ro 4 n1), (3, ro 4 n1), (4, ro 4 n8), (5, ro 4 n4), (6, wo 3 lcIFR n1)])
  else match idx with
  | 0x2700 => some (recordOf [(1, ro 5 n1)])
  | 0x2701 => some (recordOf [(1, wo 1 lcIF n1)])
  | 0x2702 => some (recordOf [(1, ro 4 n8), (2, ro 4 n8)])
  | 0x2800 => some (recordOf ([(1, ro 4 n1), (2, ro 4 n1), (3, ro 4 n4), (4, ro 4 n8), (5, ro 4 n4), (6, ro 4 n4), (7, ro 4 n1), (8, ro 4 n2), (9, ro 4 n1),
      (0xA, ro 4 n1)]))
  | 0x2801 => some (single (wo 2 lcIFR anyBlob))
  | 0x2802 => some (recordOf [(1, wo 2 lcIFR n1)])
  | 0x2803 => some (recordOf [(1, rw 1 lcIF n1), (2, rw 2 lcIF n2), (3, rw 2 lcIF n1), (4, rw 2 lcIF n2), (5, rw 2 lcIF n2), (6, rw 2 lcIF n2)])
  | 0x2804 => some (single (ro 4 anyBlob))
  | 0x2900 => some (recordOf [(1, ro 4 n1), (2, ro 4 n8), (3, ro 4 n4), (4, ro 4 n4), (5, ro 4 n4), (6, ro 4 (.exact 32)), (7, ro 4 n2), (8, ro 4 n4)])
  | 0x2901 => some (recordOf [(1, rw 2 lcIF n1), (2, rw 2 lcIF n2), (3, rw 2 lcIF n4), (4, rw 2 lcIF n1), (5, rw 2 lcIF n2), (6, rw 1 lcIF n2)])
  | 0x2902 => some (recordOf [(1, wo 3 lcIF n1), (2, ro 4 n4)])
  | 0x2903 => some (single (wo 3 lcIFR (.exact 20)))
  | 0x2904 => some (single (ro 4 n4))
  | 0x2905 => some (single (wo 3 lcIF (.blob 5 484)))
  | 0x2906 => some (single (ro 3 (.exact 48)))
  | 0x2907 | 0x2909 => some (single (rw 4 lcAny n4))
  | 0x2908 | 0x290A => some (single (ro 4 anyBlob))
  | 0x2910 => some (single (ro 5 (.exact 60)))
  | 0x2911 => some (single (ro 4 n4))
  | 0x2912 => some (single (ro 4 n2))
  | 0x2920 => some (single (wo 3 lcIFR (.exact 36)))
  | 0x2921 => some (single (ro 3 anyBlob))
  | 0x2A00 => some (single (rw2 4 lcAny 1 lcI anyBlob))
  | 0x2B00 => some (recordOf [(1, ro 4 n8), (2, ro 4 n8), (3, ro 4 n4)])
  | 0x2B01 => some (single (rw 4 lcAny n8))
  | 0x2B02 => some (single (ro 4 anyBlob))
  | 0x2C00 => some (recordOf [(1, ro 5 n1)])
  | 0x2C01 => some (single (wo 1 lcIF n8))
  | 0x3000 => some (recordOf [(1, ro 5 n8), (2, rw2 4 lcAny 3 lcIFR n8), (3, ro 4 n4)])
  | 0x3001 => some (single (ro 4 anyBlob))
  | 0x3002 => some (recordOf (each [1, 2, 3, 4] (ro 4 n2)))
  | 0x3003 => some (recordOf (each [1, 2, 3] (ro 4 n2)))
  | 0x3004 => some (recordOf [(1, ro 4 n2)])
  | 0x3005 => some (recordOf (each [1, 2] (ro 4 n4)))
  | _ => none

/-- Table 16.7. -/
def listenArea (idx : Nat) : Option DArea :=
  match idx with
  | 0x1000 => some identityArea
  | 0x2000 => some (recordOf [(1, ro 5 n1)])
  | 0x2800 => some (recordOf [(1, ro 4 n1), (2, ro 4 n1), (3, ro 4 n4), (4, ro 4 n8)])
  | 0x2801 | 0x2802 | 0x2B00 | 0x2B01 | 0x2B02 => plainArea idx
  | 0x3000 => some (recordOf [(1, ro 5 n8)])
  | _ => none

/-- The dictionary that the controller serves now (R339, R449). -/
def State.dictArea (s : State) (idx : Nat) : Option DArea :=
  if s.sys.listen ≠ 0 then listenArea idx
  else if idx = 0x1000 then some identityArea
  else if idx < 0x2000 then commArea idx
  else (s.unitArea idx) <|> plainArea idx

/-! ## Checks 1 to 5 of R318 -/

/-- Subindices that a snapshot holds (R336). -/
def DArea.readable (a : DArea) : List (Nat × DEntry) :=
  a.subs.filter fun x => x.2.acc ≠ .wo && (match x.2.ty with | .blob _ _ => false | _ => true)

def DArea.highest (a : DArea) : Nat := maxOf (a.subs.map Prod.fst)

/-- What the subindices 0x00 and 0xFF of a record are; the gates of a snapshot are the strictest of what it holds. -/
def DArea.entry (a : DArea) (sub : Nat) : Option DEntry :=
  if !a.record then (if sub = 0 then (a.subs.head?).map Prod.snd else none)
  else if sub = 0 then some (ro 5 n1)
  else if sub = 0xFF then
    some { acc := .ro, rRole := (a.readable.map fun x => x.2.rRole).foldl min 5, wRole := 0
           rLc := lcAny.filter fun l => a.readable.all fun x => x.2.rLc.contains l, wLc := [], ty := anyBlob }
  else (a.subs.find? fun x => x.1 = sub).map Prod.snd

def DTy.fits : DTy → Nat → Bool
  | .exact n, k => k = n
  | .text n, k => k ≤ n
  | .blob lo hi, k => lo ≤ k && k ≤ hi

/-- The role that a caller has: its open session's, or the one it names; 0 for none. -/
def State.roleOf (s : State) (who : Caller) : Nat :=
  if who.session = 0 then who.role else (s.session who.session).elim 0 fun x => if x.open_ then x.role else 0

def rolePasses (role gate : Nat) : Bool := gate = roleAny || (1 ≤ role && role ≤ gate)

/-- R335: a gate that lists states admits Indeterminate where it admits Scrapped. -/
def lcPasses (l : LcState) (gate : List LcState) : Bool := gate.contains l || (l = .indeterminate && gate.contains .scrapped)

/-- Checks 1 to 4 for a read: an abort code, or 0. -/
def State.readRefused (s : State) (who : Caller) (idx sub : Nat) : Nat :=
  match s.dictArea idx with
  | none => 0x06020000
  | some a =>
    match a.entry sub with
    | none => 0x06090011
    | some e =>
      if e.acc = .wo then 0x06010001
      else if !rolePasses (s.roleOf who) e.rRole then 0x06010003
      else if !lcPasses s.lcc.state e.rLc then 0x06010004
      else 0

/-- The gates of 0x2902.01 depend on the value (Table 9.14). -/
def writeGates (idx : Nat) (e : DEntry) (v : Bytes) : Nat × List LcState :=
  if idx = 0x2902 && u8 v 0 = 1 then (roleIntegrator, lcI) else (e.wRole, e.wLc)

/-- Checks 1 to 5 for a write. -/
def State.writeRefused (s : State) (who : Caller) (idx sub : Nat) (v : Bytes) : Nat :=
  match s.dictArea idx with
  | none => 0x06020000
  | some a =>
    match a.entry sub with
    | none => 0x06090011
    | some e =>
      let (role, lc) := writeGates idx e v
      if e.acc = .ro then 0x06010002
      else if !rolePasses (s.roleOf who) role then 0x06010003
      else if !lcPasses s.lcc.state lc then 0x06010004
      else if !e.ty.fits v.length then 0x06070012
      else 0

/-! ## What reads return -/

def b8 (b : Bool) : Bytes := p8 (b2n b)

/-- The envelope of the firmware that runs; none of the ROM. -/
def State.runningEnv (s : State) : Bytes :=
  if s.sys.listen ≠ 0 then [] else if s.sys.recovery then recoveryEnv s.rBundle else s.runningFw.envelope

def partName (p : Part) : Bytes := match p with
  | .kr9624 => ascii "KR9624"
  | .kr9612 => ascii "KR9612"

def State.identityVal (s : State) (sub : Nat) : Bytes :=
  match sub with
  | 1 => p8 s.partCode
  | 2 => p8 1
  | 3 => unitIdBytes
  | 4 => ascii "Yalrath"
  | 5 => partName s.part
  | 6 => p32 0x01000000
  | 7 => p32 (envSeq s.runningEnv)
  | 8 => p32 (envSec s.runningEnv)
  | 9 => envBuild s.runningEnv
  | 0xA => p64 s.plc.poolId.toNat
  | _ => p32 s.netBoot.toNat

/-- A partner table entry (Table 10.6). -/
def State.partnerImage (s : State) (i : Nat) : Bytes :=
  match s.net.partners.find? fun p => p.index = i with
  | none => p8 0xFF ++ List.replicate 31 0
  | some p =>
    p8 p.port ++ p8 (b2n p.answered + 2 * b2n (s.holdsSession p) + 4 * b2n p.duplicate) ++ p8 p.kind ++ p8 p.caps ++ field p.addr 0 6 ++
      p8 p.misses ++ [0] ++ p32 p.boot.toNat ++ field p.unitId 0 16

/-- A session table entry; the spec does not print the coding of STATE. -/
def State.sessionImage (s : State) (k : Nat) : Bytes :=
  match s.session k with
  | none => [Config.eventCode 0x1202 0] ++ List.replicate 15 0
  | some x =>
    [Config.eventCode 0x1202 (if x.open_ then 2 else 1)] ++ p8 x.role ++ p8 x.port ++ p8 (s.partnerIndex x.port x.addr) ++ p32 (x.seqOut.toNat - 1) ++
      p32 x.high.toNat ++ p16 (sat16 ((s.timeBase.toNat - x.lastHeard) / second)) ++
      p8 (s.net.transfers.filter fun t => t.session = k).length ++ [0]

/-- Status entries of Table 10.12. -/
def State.commVal (s : State) (idx sub : Nat) : Bytes :=
  let n := s.net
  if 0x1100 ≤ idx ∧ idx ≤ 0x1103 then
    p32 (if sub = 7 then (s.netPort (idx - 0x1100)).canStat else (let p := s.netPort (idx - 0x1100); p.tec.toNat + 256 * p.rec_.toNat))
  else if 0x1108 ≤ idx ∧ idx ≤ 0x110B then p32 (s.netPort (idx - 0x1108 + 4)).t1sStat
  else match idx, sub with
  | 0x1110, _ => p8 n.applyStatus
  | 0x1200, _ => p8 s.openSessions.length
  | 0x1201, _ => (List.range 256).flatMap s.partnerImage
  | 0x1202, _ => sessionNos.flatMap s.sessionImage
  | 0x1203, k => p32 ([n.macFails, n.replays, n.abortsSent, n.rxOverflows, n.refusals, n.aboveLimit].getD (k - 1) 0).toNat
  | _, _ => p32 n.derive1211.toNat

def State.hostVal (s : State) (h : Host24) (sub : Nat) : Bytes :=
  let i := s.imgOf h
  let e := s.selectedEnvelope h
  let p := s.port h
  match sub with
  | 1 => p8 i.state.code
  | 2 => p8 (if i.state = .detention then i.reason else 0)
  | 3 => p8 (i.selected.elim 0xFF Fin.val)
  | 4 => p32 (e.elim 0 envSeq)
  | 5 => p32 (if i.state = .hallPass && !i.releasing then 0 else i.verified.length)
  | 6 => p32 (e.elim 0 envBlocks)
  | 7 => p64 i.releaseTime.toNat
  | 8 => e.elim (List.replicate 32 0) envDigest
  | 0x11 => p32 (256 * i.lastCmd + i.lastResult)
  | 0x20 => p16 p.hpw.ltv.toNat
  | 0x21 => p32 (s.hpcStat h)
  | 0x22 => p16 ((s.ttOf h).status + 256 * (s.ttOf h).failedCheck)
  | _ => p32 p.torn.word.toNat ++ p32 p.ign.word.toNat ++ p32 p.crc.word.toNat ++ p32 p.fillAddr.toNat

def State.chanVal (s : State) (c : Chan) (sub : Nat) : Bytes :=
  let ch := s.chan c
  match sub with
  | 1 => ((ch.activeBell).getD (factoryBell c.val)).image
  | 2 => p16 ch.epoch.toNat
  | 3 => p32 (s.fccStat c)
  | 0x11 => p32 (256 * ch.lastCmd + ch.lastResult)
  | 0x12 => p16 ((List.range 4).map fun k => (ch.sels.toList.getD k {}).state.code * 16 ^ k).sum
  | 0x13 => ch.sels.toList.flatMap fun x => p16 x.badBlocks.length
  | _ => ch.sels.toList.flatMap fun x => p32 x.crcCnt.word.toNat ++ p32 x.eccCnt.word.toNat ++ p32 x.tmoCnt.word.toNat

/-! ## Extent tables and capacity (Table 5.1, R165) -/

def Loc.word (l : Loc) : Nat := if l.valid then l.chan + 32 * l.sel + 128 + 256 * l.dpage else 0

def nextExtent (es : List Extent) (e : Extent) : Nat :=
  (es.filter fun x => e.vbase < x.vbase).foldl (fun (a : Nat × Nat) x => if x.vbase < a.1 then (x.vbase, x.index) else a) (2 ^ 20, 0x1FFF) |>.2

def Extent.image (e : Extent) (next : Nat) : Bytes :=
  p32 e.vbase ++ p32 e.pages ++
    p32 (next + 2 ^ 16 * (if e.state = .live then 1 else 2) + maskOf 27 (fun k =>
      [e.pinned, e.mirror, e.writable, e.exec, e.dormant, e.staged, e.degraded, e.moving, e.journal].getD (k - 18) false && decide (18 ≤ k))) ++
    p32 e.gen.toNat ++ p32 e.copy0.word ++ p32 e.copy1.word ++ p32 e.target.word ++ p32 (e.rrec + 256 * e.replaces + 1024 * e.copied)

def State.extentTable (s : State) (h : Host24) : Bytes :=
  let es := s.extents h
  (List.range 4096).flatMap fun i => (es.find? fun e => e.index = i).elim (List.replicate 32 0) fun e => e.image (nextExtent es e)

/-- Selects of the pool of one kind. -/
def State.poolSelects (s : State) (nand : Bool) : List Nat :=
  (List.range 96).filter fun i => (s.selAt i).state.servesReads && (s.selAt i).nand = nand

/-- Usable bytes of a kind. -/
def State.usableBytes (s : State) (nand : Bool) : Nat :=
  ((s.poolSelects nand).map fun i =>
    let sl := s.selAt i
    4096 * (sl.pages - if nand then 0 else 15 * (sl.badBlocks.filter fun b => 1 ≤ b && b < norBlocks sl.densityMbit).length)).sum

/-- Bytes that extents, areas and controller data hold; where the registry and the firmware slots lie is open. -/
def State.heldBytes (s : State) (nand : Bool) : Nat :=
  let ext := ((s.poolSelects nand).map fun i => ((s.usedRuns i).map fun r => 4096 * r.2).sum).sum
  let area := if nand then s.plc.journalMib * 2 ^ 20 + 4096 * ((s.arc.pages.map fun p => p.copies.length).sum) else s.plc.norShadowMib * 2 ^ 20
  ext + area + 4096 * Config.controllerPages nand

def State.plcVal (s : State) (sub : Nat) : Bytes :=
  match sub with
  | 1 => p8 (if s.plc.scanning then 2 else if s.plc.steady then 1 else 0)
  | 2 => p8 (reasonBits s.plc)
  | 3 => p16 s.freePm
  | 4 => p64 (s.usableBytes false)
  | 5 => p64 (s.usableBytes false - s.heldBytes false)
  | 6 => p64 (s.usableBytes true)
  | 7 => p64 (s.usableBytes true - s.heldBytes true)
  | _ => p32 (256 * s.plc.lastCmd + s.plc.lastResult)

/-! ## Keys, updates, archive, gates, events, diagnostics -/

/-- Bit k of 0x2702.02: in effect for every host class. -/
def State.revokedAll (s : State) : Nat := maskOf 64 fun k =>
  (s.slot k).revoked && ((s.slot k).immediate || (s.slot k).revWord = revEverywhere || s.keys.stagedList.contains (k, 0xFFFF))

def State.slotVal (s : State) (k sub : Nat) : Bytes :=
  let x := s.slot k
  match sub with
  | 1 => p8 x.state
  | 2 => p8 x.typ.toNat
  | 3 => b8 x.immediate
  | 4 => p32 x.policy.toNat
  | _ => field x.keyId 0 8

/-- The bundle's identity, once its Syllabus is held. -/
def heldId (b : Bytes) : Bytes := if b.isEmpty then List.replicate 8 0 else bundleId b

def State.updVal (s : State) (sub : Nat) : Bytes :=
  let u := s.upd
  if s.sys.listen ≠ 0 then
    match sub with
    | 1 => p8 s.sys.rState.code
    | 2 => p8 s.sys.rOutcome
    | 3 => p32 s.sys.rResume
    | _ => heldId s.rBundle
  else match sub with
  | 1 => p8 u.state.code
  | 2 => p8 u.outcome
  | 3 => p32 u.resume
  | 4 => heldId u.bundle
  | 5 => p32 u.bundleLen
  | 6 => p32 (u.inForce.elim 0 fun r => r.sylSeq.toNat)
  | 7 => p8 u.trialCount
  | 8 => p16 (if u.state = .trial then u.deadline.elim 0 s.secondsLeft else 0)
  | 9 => p8 u.lastRevert
  | _ => p8 s.refusals

def State.arcVal (s : State) (sub : Nat) : Bytes :=
  let a := s.arc
  match sub with
  | 1 => p8 s.arcStat
  | 2 => p64 a.next.toNat
  | 3 => p32 a.term.toNat
  | 4 => p32 a.sealed
  | 5 => p32 a.nextPage
  | 6 => field a.chain 0 32
  | 7 => p16 a.usedPm
  | _ => p32 a.oldest.toNat

def State.gateVal (s : State) (g sub : Nat) : Bytes :=
  let x := s.gates.toList.getD g {}
  match sub with
  | 1 => p32 x.firstAddr.toNat
  | 2 => p8 x.master.toNat
  | 3 => p8 x.access.toNat
  | 4 => p64 x.firstTime.toNat
  | _ => p32 x.vcount.word.toNat

/-- The plain areas' values; those that depend on a session or change state are read below. -/
def State.plainVal (s : State) (idx sub : Nat) : Bytes :=
  if 0x2740 ≤ idx ∧ idx ≤ 0x277F then s.slotVal (idx - 0x2740) sub
  else if 0x2C40 ≤ idx ∧ idx ≤ 0x2C7F then p32 (s.counter (idx - 0x2C40))
  else if 0x2A01 ≤ idx ∧ idx ≤ 0x2A16 then s.gateVal (idx - 0x2A01) sub
  else match idx, sub with
  | 0x2000, 1 => p8 s.lcc.state.code
  | 0x2000, 2 => p32 s.lcc.hue.toNat
  | 0x2000, 3 => b8 (transitionUj ≤ s.lcc.hue.toNat)
  | 0x2000, 4 => b8 s.dbg.open_
  | 0x2002, _ => p32 s.lcc.rec2002
  | 0x2100, 1 => p8 s.power.code
  | 0x2100, 3 => p16 s.tMin
  | 0x2100, 4 => p32 s.pwr.level
  | 0x2600, k => s.plcVal k
  | 0x2700, _ | 0x2C00, _ => p8 64
  | 0x2702, 1 => p64 s.revokedBits
  | 0x2702, _ => p64 s.revokedAll
  | 0x2800, k => s.updVal k
  | 0x2804, _ => if s.upd.bundle.isEmpty then s.upd.sylInForce else sylSigned s.upd.bundle
  | 0x2900, k => s.arcVal k
  | 0x2902, _ => p32 (256 * s.arc.lastCmd + s.arc.lastResult)
  | 0x2904, _ => p32 s.arc.acked.toNat
  | 0x2910, _ => s.identityPub
  | 0x2911, _ => p32 s.signer.next.toNat
  | 0x2912, _ => p16 s.arc.tokens
  | 0x2A00, _ => s.genNow.gateSet
  | 0x2B00, 1 => p64 s.evl.newest
  | 0x2B00, 2 => p64 s.evl.oldest
  | 0x2B00, _ => p32 s.evl.overwr.count.toNat
  | 0x3000, 1 => p64 s.timeBase.toNat
  | 0x3000, 2 => p64 s.utcField
  | 0x3000, _ => p32 s.upd.cfgFlags
  | 0x3001, _ => (sortNats s.upd.defaulted).flatMap p16
  | 0x3002, k => p16 (twos 16 (s.pwr.temps.toList.getD (k - 1) 0))
  | 0x3003, _ => p16 s.pwr.vbakMv
  | 0x3004, _ => p16 s.dgc.ok.toNat
  | 0x3005, 1 => p32 s.nvc.corr.word.toNat
  | 0x3005, _ => p32 s.nvc.unc.word.toNat
  | _, _ => []

/-- The value of one subindex. -/
def State.dictVal (s : State) (idx sub : Nat) : Bytes :=
  match s.valEntry idx sub with
  | some e => leBytes e.size (s.storedVal idx sub)
  | none =>
    match hostIx 0x2300 idx, hostIx 0x2400 idx, hostIx 0x2500 idx, hostIx 0x2610 idx with
    | some h, _, _, _ => s.hostVal h sub
    | _, some h, _, _ => ((s.ttOf h).activeTt.getD (factoryTimetable h.val)).image
    | _, _, some c, _ => s.chanVal c sub
    | _, _, _, some h => s.extentTable h
    | _, _, _, _ => if idx = 0x1000 then s.identityVal sub else if idx < 0x2000 then s.commVal idx sub else s.plainVal idx sub

/-- A value at the size of its type (R336). -/
def DTy.pad (t : DTy) (v : Bytes) : Bytes := match t with
  | .text n => padTo n v
  | _ => v

/-- VDD and VDDIO, which State does not hold, are open at each read. -/
def State.analog (s : State) (idx sub : Nat) : Bytes :=
  if idx = 0x3003 && (sub = 1 || sub = 2) then p16 (Config.freeWord (s.free + sub)).toNat else s.dictVal idx sub

def State.snapshot (s : State) (idx : Nat) (a : DArea) : Bytes :=
  (sortNats (a.readable.map Prod.fst)).flatMap fun k => (a.entry k).elim [] fun e => e.ty.pad (s.analog idx k)

end Sys2Proof.Machine
end

