-- ==== Sys2Proof/Machine/Dict.lean ====
section
/-! DEFINITION. Reads and writes of dictionary entries (R318, R338 to R344, and the effects that the entries' tables state). -/
namespace Sys2Proof.Machine

/-! ## Reads -/

/-- A page that a session selected: the abort code, or the page (R279, R293). -/
def State.readPageEntry (s : State) (k : Nat) : Nat × Bytes :=
  let n := (s.session k).elim 0 Session.pageSel
  if !s.arc.created then (0x09000001, [])
  else match s.arc.pages.find? fun p => p.pageNo = n with
    | some p => if p.lost then (0x09000005, []) else (0, p.image)
    | none => if s.arc.nextPage ≤ n then (0x09000006, []) else (0x09000004, [])

def State.readSealEntry (s : State) (k : Nat) : Nat × Bytes :=
  let n := (s.session k).elim 1 Session.termSel
  if 1 ≤ n ∧ n < s.arc.oldest.toNat then (0x09000004, [])
  else match s.arc.sealOf n with
    | some b => (0, b)
    | none => (0x09000006, [])

/-- Up to 64 records from the session's selector, which advances. -/
def State.readEvents (s : State) (k : Nat) : Nat × Bytes × State :=
  let a := (s.session k).elim 0 fun x => x.eventSel.toNat
  if s.evl.ring.head?.elim false fun r => a < r.seq then (0x0B000001, [], s)
  else
    let rs := s.evl.recordsFrom a 64
    (0, rs.flatMap EventRec.bytes, match rs.getLast? with
      | some r => s.modSession k fun x => { x with eventSel := BitVec.ofNat 64 (r.seq + 1) }
      | none => s)

/-- Each read of 0x2003 issues a fresh challenge (R431). -/
def State.readChallenge (s : State) (k : Nat) : Nat × Bytes × State :=
  if s.chalSuspended then (0x00000008, [], s)
  else match s.draw 32 true conChallenge with
    | (none, s1) => (0x06080000, [], s1)
    | (some b, s1) => (0, b, s1.modSession k fun x => { x with chal2003 := some (b, s.timeBase.toNat) })

/-- A read that passed its gates: abort code, value and the state after it. -/
def State.readEntry (s : State) (who : Caller) (idx sub : Nat) (a : DArea) : Nat × Bytes × State :=
  let k := who.session
  let x := s.session k
  if a.record && sub = 0 then (0, p8 a.highest, s)
  else if a.record && sub = 0xFF then
    (0, s.snapshot idx a, if idx = 0x3003 then { s with free := s.free + 3 } else s)
  else match idx with
  | 0x2003 => s.readChallenge k
  | 0x2906 => (0, field (x.elim [] Session.appendRsp) 0 48, s)
  | 0x2907 => (0, p32 (x.elim 0 Session.pageSel), s)
  | 0x2908 => let r := s.readPageEntry k
              (r.1, r.2, s)
  | 0x2909 => (0, p32 (x.elim 1 Session.termSel), s)
  | 0x290A => let r := s.readSealEntry k
              (r.1, r.2, s)
  | 0x2921 => let c := x.elim [] Session.card
              (if c.isEmpty then 0x09000009 else 0, c, s)
  | 0x2B01 => (0, p64 (x.elim 0 fun y => y.eventSel.toNat), s)
  | 0x2B02 => s.readEvents k
  | 0x3003 => (0, s.analog idx sub, { s with free := s.free + 3 })
  | _ => (0, s.dictVal idx sub, s)

/-- A read of an entry (R318). -/
def State.dictGet (s : State) (who : Caller) (idx sub : Nat) : Nat × Bytes × State :=
  let n := s.readRefused who idx sub
  if n ≠ 0 then (n, [], s)
  else match s.dictArea idx with
    | some a => s.readEntry who idx sub a
    | none => (0x06020000, [], s)

/-! ## Writes -/

/-- What a write does: its abort code, the state when it is answered, and what follows the answer. -/
structure Wrote where
  code : Nat
  state : State
  after : State → State := id

def State.fails (s : State) (code : Nat) : Wrote := { code, state := s }
def State.wrote (s : State) : Wrote := { code := 0, state := s }

def badValue : Nat := 0x06090030
def notNow : Nat := 0x06080000

/-- A persistent value (R344, R345). -/
def State.putValue (s : State) (role idx sub : Nat) (e : ValEntry) (v : Nat) : Wrote :=
  if !e.ok v then s.fails badValue
  else if s.upd.writesBarred then s.fails notNow
  else ((s.persistVal idx sub v role).applyVal idx sub v false).wrote

/-- 0x1110.10: APPLY takes effect 1 s after its write. -/
def State.putApply (s : State) (v : Nat) : Wrote :=
  if v ≠ 1 then s.fails badValue
  else (s.modNet fun n => { n with applyDue := true, applyAt := s.timeBase.toNat + second }).wrote

/-- The bytes of R328. -/
def kdfInput (label : Bytes) (dst : Nat) : Bytes := beBytes 4 1 ++ label ++ [0] ++ unitIdBytes ++ p8 dst ++ beBytes 4 0x100

/-- R329 and R381: the derivation is admitted. -/
def State.deriveOk (s : State) (who : Caller) (b : Bytes) : Bool :=
  let src := u8 b 0
  let dst := u8 b 1
  let n := u8 b 2
  let port := (s.session who.session).elim s.net.provPort Session.port
  let row := match s.lcc.state with
    | .integrator => s.roleOf who = 2 && port = s.net.provPort && src = 2
    | .fielded => s.roleOf who = 1 && (s.slot dst).live
    | _ => false
  row && 1 ≤ dst && dst ≤ 4 && 1 ≤ n && n ≤ 32 && u8 b 3 = 0 && allZero (field b (4 + n) (32 - n)) && src < 64 &&
    (s.slot src).live && (s.slot src).pol polDeriveSrc && !(s.slot dst).revoked

/-- 0x1210: the role's sessions close (cause 4), their CLOSE under the key they opened with, and the new key replaces the old one. -/
def State.putDerive (s : State) (who : Caller) (b : Bytes) : Wrote :=
  let dst := u8 b 1
  let mark := fun (st : State) (r : Nat) => st.modNet fun n => { n with derive1211 := BitVec.ofNat 32 (256 * dst + r) }
  if !s.deriveOk who b then (mark s 2).fails 0x07000001
  else
    let label := field b 4 (u8 b 2)
    let key := Hash.hmac 1 (s.slot (u8 b 0)).key (kdfInput label dst)
    ((mark ((s.closeRole dst).writeRoleKey dst key) 0).raise 0x0A0D srcFW (p8 (u8 b 0) ++ p8 dst ++ (Hash.sha256 label).take 8)).wrote

/-- 0x2001: the transition begins after its answer (R422). -/
def State.putTransition (s : State) (who : Caller) (b : Bytes) : Wrote :=
  let n := s.lcFailed (lcRequestOk b) (u8 b 6) (.role (s.roleOf who))
  if n = 0 then { code := 0, state := s, after := fun t => (t.lcRequest b (s.roleOf who)).2 } else ((s.lcRequest b (s.roleOf who)).2).fails n

/-- 0x2004: the session's challenge is spent. -/
def State.putResponse (s : State) (who : Caller) (b : Bytes) : Wrote :=
  let (r, s1) := s.unlock ((s.session who.session).bind Session.chal2003) b pathDict
  { code := if r = 0 then 0 else 5 + r, state := s1.modSession who.session fun x => { x with chal2003 := none } }

/-- 0x2400 + n (R340). -/
def State.putTimetable (s : State) (role : Nat) (h : Host24) (b : Bytes) : Wrote :=
  let st := (s.imgOf h).state
  if !(st = .off || st = .held || st = .detention) then s.fails 0x04000002
  else
    let n := ttFirstFailed b h.val s.partCode (s.fused h.val)
    if n ≠ 0 then (s.refuseTt h n).fails 0x04000001
    else if s.upd.writesBarred then s.fails notNow
    else
      let s1 := if (s.ttOf h).waiting.isSome then s.refuseTt h (s.ttOf h).failedCheck else s
      (s1.awaitTt h (Timetable.parse b) (some (b, role))).wrote

/-- 0x2500 + c, .01 (R341). -/
def State.putBell (s : State) (role : Nat) (c : Chan) (b : Bytes) : Wrote :=
  let n := bellFirstFailed b c.val s.partCode (s.fused c.val) fun h => s.fused h
  let x := BellSchedule.parse b
  let k := if n ≠ 0 then n else if !s.bellCheck7 c.val x then 7 else 0
  let ch := s.chan c
  if k ≠ 0 then (s.raise 0x0418 srcFCC (p8 c.val ++ p8 k)).fails 0x05000001
  else if s.upd.writesBarred then s.fails notNow
  else
    let s1 := s.persistBlob (0x2500 + c.val) 1 b role
    if ch.activeBell.elim true fun cur => bellCheck8 ch cur x then (s1.modChan c fun ch => (ch.stageBell x).takeBell).wrote else s1.wrote

/-- 0x2500 + c, .10 (R122); ADMIT begins with its scan. -/
def State.putChannel (s : State) (c : Chan) (v : Nat) : Wrote :=
  let k : Sel := ⟨bits v 8 2 % 4, by omega⟩
  let i := selIndex c.val k.val
  match bits v 0 8 with
  | 1 => (s.retireSelect c k).wrote
  | 2 => (s.park c).wrote
  | 3 => (s.unpark c).wrote
  | 4 =>
    let st := (s.selAt i).state
    if st = .unformatted || st = .foreign || st = .retired then
      ((s.modSel c k fun x => { x with state := .formatting, admitWord := 1 }).chanResult c 4 1).wrote
    else (s.chanResult c 4 2).wrote
  | _ => s.fails badValue

/-- 0x2600.20 (R164). -/
def State.putPlacement (s : State) (v : Nat) : Wrote :=
  let e := bits v 13 12
  if hh : bits v 8 5 < 24 then
    let h : Host24 := ⟨bits v 8 5, hh⟩
    if s.fused h.val then s.fails badValue
    else match bits v 0 8 with
      | 1 => (s.placementRelease h e).wrote
      | 2 => (s.placementRecreate h e).wrote
      | _ => s.fails badValue
  else s.fails badValue

/-- 0x2701.01 (R189, R382); a slot revoked already changes nothing. -/
def State.putRevoke (s : State) (k : Nat) : Wrote :=
  if 64 ≤ k then s.fails badValue
  else if (s.slot k).revoked then s.wrote
  else if s.revokeRefused k then s.fails 0x07000001
  else (s.revokeSlot k).wrote

/-- 0x2801. -/
def State.putPiece (s : State) (b : Bytes) : Wrote :=
  let r := if s.sys.listen ≠ 0 then s.recoveryPiece b else s.bundlePiece b
  { code := r.1, state := r.2 }

/-- 0x2802.01: the write completes at once (Table 8.8, R450). -/
def State.putUpdate (s : State) (v : Nat) : Wrote :=
  let listen := s.sys.listen ≠ 0
  match v with
  | 1 => { code := 0, state := s, after := if listen then State.recoveryActivate else State.activate }
  | 2 => { code := 0, state := if listen then s.recoveryDiscard else s.discardBundle }
  | 3 => if listen then s.fails badValue else { code := 0, state := s, after := State.abandonTrial }
  | _ => s.fails badValue

def State.arcResult (s : State) (cmd res : Nat) : State := s.modArc fun a => { a with lastCmd := cmd, lastResult := res }

/-- 0x2902.01: CREATE and SEAL_NOW (R259, R271). -/
def State.putArchive (s : State) (v : Nat) : Wrote :=
  match v with
  | 1 => if s.arc.created then (s.arcResult 1 2).wrote else (s.archiveCreate.arcResult 1 0).wrote
  | 2 =>
    if !s.arc.created then s.fails 0x09000001
    else
      let s1 := s.closeTerm causeSealNow
      if s1.arc.term = s.arc.term then (s.arcResult 2 2).wrote else (s1.arcResult 2 0).wrote
  | _ => s.fails badValue

/-- 0x2903 (R277). -/
def State.putAck (s : State) (b : Bytes) : Wrote :=
  let t := u32 b 0
  if t = s.arc.acked.toNat + 1 && (s.arc.sealOf t).elim false fun x => field b 4 16 = (Hash.sha256 (sealSigned x)).take 16 then
    ((s.modArc fun a => { a with acked := BitVec.ofNat 32 t }).raise 0x0909 srcARC (p32 t)).wrote
  else s.fails 0x09000007

/-- 0x2905 (R268). -/
def State.putAppend (s : State) (who : Caller) (b : Bytes) : Wrote :=
  if !appendOk b then s.fails 0x0900000B
  else if !s.arc.created then s.fails 0x09000001
  else match s.append 0x81 b with
    | (.ok rsp, s1) => (s1.modSession who.session fun x => { x with appendRsp := rsp }).wrote
    | (.full, s1) => s1.fails 0x09000002
    | (.busy, s1) => s1.fails 0x09000003

/-- 0x2920 (R288). -/
def State.putCard (s : State) (who : Caller) (b : Bytes) : Wrote :=
  let r := partnerCardReq b
  if !((r.kind = 1 || r.kind = 2) && u16 b 2 = 0) then s.fails 0x0900000B
  else if !(if r.kind = 1 then s.signOk else s.macSlotOk r.macSlot polPartnerMac none) then s.fails 0x09000008
  else if r.kind = 1 && s.arc.tokens = 0 then s.fails 0x0900000A
  else if 8 ≤ s.arc.cardWait.length || s.arc.cardWait.contains (32 + who.session) then s.fails notNow
  else ((s.modSession who.session fun x => { x with cardReq := some b }).cardJoin (32 + who.session) r.kind).wrote

/-- 0x2A00 (R411): stored; in effect from the next start. -/
def State.putGateSet (s : State) (role : Nat) (b : Bytes) : Wrote :=
  if !s.gateSetOk b then s.fails 0x0A000001
  else if s.upd.writesBarred then s.fails notNow
  else (s.persistBlob 0x2A00 0 b role).wrote

/-- 0x2C01 (R342). -/
def State.putCounter (s : State) (b : Bytes) : Wrote :=
  let k := u8 b 0
  let v := u32 b 4
  if 64 ≤ k || s.ctrFused k || !allZero (field b 1 3) then s.fails badValue
  else if v < s.counter k then s.fails 0x0C000001
  else (s.ctrAdvance k v srcOwner).2.wrote

/-- 0x3000.02 (R273). -/
def State.putUtc (s : State) (who : Caller) (v : Nat) : Wrote :=
  if v = 2 ^ 64 - 1 then s.fails badValue
  else (s.setUtc (BitVec.ofNat 64 v) ((s.session who.session).elim 0xFF fun x => s.partnerIndex x.port x.addr)).wrote

/-- The value check and the effect of a write that passed its gates. -/
def State.writeEntry (s : State) (who : Caller) (idx sub : Nat) (b : Bytes) : Wrote :=
  let v := leNat b
  let role := s.roleOf who
  match s.valEntry idx sub with
  | some e => s.putValue role idx sub e v
  | none =>
    match hostIx 0x2300 idx, hostIx 0x2400 idx, hostIx 0x2500 idx with
    | some h, _, _ => if between 1 4 (v % 256) then (s.hostCommand h (v % 256)).wrote else s.fails badValue
    | _, some h, _ => s.putTimetable role h b
    | _, _, some c => if sub = 1 then s.putBell role c b else s.putChannel c v
    | _, _, _ =>
      if 0x2A01 ≤ idx ∧ idx ≤ 0x2A16 then
        if v = 1 then ({ s with gates := updV s.gates (Fin.ofNat 22 (idx - 0x2A01)) Gate.clear }).wrote else s.fails badValue
      else match idx with
      | 0x1110 => s.putApply v
      | 0x1210 => s.putDerive who b
      | 0x2001 => s.putTransition who b
      | 0x2004 => s.putResponse who b
      | 0x2600 => s.putPlacement v
      | 0x2701 => s.putRevoke v
      | 0x2801 => s.putPiece b
      | 0x2802 => s.putUpdate v
      | 0x2902 => s.putArchive v
      | 0x2903 => s.putAck b
      | 0x2905 => s.putAppend who b
      | 0x2907 => (s.modSession who.session fun x => { x with pageSel := v }).wrote
      | 0x2909 => (s.modSession who.session fun x => { x with termSel := v }).wrote
      | 0x2920 => s.putCard who b
      | 0x2A00 => s.putGateSet role b
      | 0x2B01 => (s.modSession who.session fun x => { x with eventSel := BitVec.ofNat 64 v }).wrote
      | 0x2C01 => s.putCounter b
      | _ => s.putUtc who v

/-- A write of an entry (R318). -/
def State.dictPut (s : State) (who : Caller) (idx sub : Nat) (b : Bytes) : Wrote :=
  let n := s.writeRefused who idx sub b
  if n ≠ 0 then s.fails n else s.writeEntry who idx sub b

/-! ## Writes and reads outside a message -/

/-- The dictionary is served: the firmware runs, or the ROM listens. -/
def State.dictServed (s : State) : Bool := s.fwRuns || s.sys.listen ≠ 0

/-- A write by a caller, its effect and what follows; the abort code stays in `lastAbort`. -/
def State.callerWrite (s : State) (who : Caller) (idx sub : Nat) (b : Bytes) : State :=
  if !s.dictServed then s
  else
    let w := s.dictPut who idx sub b
    w.after (w.state.modNet fun n => { n with lastAbort := BitVec.ofNat 32 w.code })

def State.callerRead (s : State) (who : Caller) (idx sub : Nat) : State :=
  if !s.dictServed then s
  else
    let r := s.dictGet who idx sub
    r.2.2.modNet fun n => { n with lastAbort := BitVec.ofNat 32 r.1 }

end Sys2Proof.Machine
end

