-- ==== Sys2Proof/Machine/DictCommands.lean ====
section
/-! DEFINITION. The commands that a partner or the controller's own program gives by writing or reading one dictionary entry (R318):
each is that write or read, with the checks of R318 and the effect that the entry's table states. -/
namespace Sys2Proof.Machine

/-- 0x2300 + n, .10: host commands (R178, R338). -/
def hostCode (h : Host24) (code : Nat) (who : Caller) (s : State) : State := s.callerWrite who (0x2300 + h.val) 0x10 (p32 code)

def execPowerOn (who : Caller) (h : Host24) (s : State) := done (hostCode h 1 who s)
def execPowerOff (who : Caller) (h : Host24) (s : State) := done (hostCode h 2 who s)
def execHold (who : Caller) (h : Host24) (s : State) := done (hostCode h 3 who s)
def execRetry (who : Caller) (h : Host24) (s : State) := done (hostCode h 4 who s)

/-- 0x2701.01 (R189). -/
def execKeyRevoke (who : Caller) (k : Byte) (s : State) := done (s.callerWrite who 0x2701 1 [k])

/-- 0x2902.01, command 1 (R259). -/
def execArchiveCreate (who : Caller) (s : State) := done (s.callerWrite who 0x2902 1 [1])
/-- 0x2902.01, command 2 (R271). -/
def execSealNow (who : Caller) (s : State) := done (s.callerWrite who 0x2902 1 [2])
/-- 0x2905 (R268). -/
def execPartnerAppend (who : Caller) (data : Bytes) (s : State) := done (s.callerWrite who 0x2905 0 data)
/-- 0x2903 (R277). -/
def execExportAck (who : Caller) (data : Bytes) (s : State) := done (s.callerWrite who 0x2903 0 data)
/-- 0x2907 (R279). -/
def execPageSelect (who : Caller) (n : Word) (s : State) := done (s.callerWrite who 0x2907 0 (p32 n.toNat))
/-- 0x2909 (R279). -/
def execTermSelect (who : Caller) (n : Word) (s : State) := done (s.callerWrite who 0x2909 0 (p32 n.toNat))
/-- 0x2920 (R288). -/
def execCardRequest (who : Caller) (data : Bytes) (s : State) := done (s.callerWrite who 0x2920 0 data)
/-- 0x3000.02 (R273). -/
def execUtcSet (who : Caller) (v : DWord) (s : State) := done (s.callerWrite who 0x3000 2 (p64 v.toNat))

/-- 0x1110.10, command 1 (R331). -/
def execApply (who : Caller) (s : State) := done (s.callerWrite who 0x1110 0x10 [1])
/-- 0x1210 (R328). -/
def execKeyDerivation (who : Caller) (data : Bytes) (s : State) := done (s.callerWrite who 0x1210 0 data)
/-- 0x2400 + n (R340). -/
def execTimetableWrite (who : Caller) (h : Host24) (data : Bytes) (s : State) := done (s.callerWrite who (0x2400 + h.val) 0 data)
/-- 0x2500 + c, .01 (R341). -/
def execBellScheduleWrite (who : Caller) (c : Chan) (data : Bytes) (s : State) := done (s.callerWrite who (0x2500 + c.val) 1 data)
/-- 0x2A00 (R411). -/
def execGateSetWrite (who : Caller) (data : Bytes) (s : State) := done (s.callerWrite who 0x2A00 0 data)
/-- 0x2C01 (R342). -/
def execCounterAdvance (who : Caller) (data : Bytes) (s : State) := done (s.callerWrite who 0x2C01 0 data)

/-- 0x2801 (R235 to R237; in recovery listen R450). -/
def execBundlePiece (who : Caller) (data : Bytes) (s : State) := done (s.callerWrite who 0x2801 0 data)
/-- 0x2802.01, command 1 (Table 8.8). -/
def execActivate (who : Caller) (s : State) := done (if s.sys.listen = 0 then s.callerWrite who 0x2802 1 [1] else s)
/-- 0x2802.01, command 2. -/
def execDiscard (who : Caller) (s : State) := done (s.callerWrite who 0x2802 1 [2])
/-- 0x2802.01, command 3. -/
def execAbandon (who : Caller) (s : State) := done (s.callerWrite who 0x2802 1 [3])
/-- 0x2802.01, command 1, in recovery listen (R450). -/
def execRecoveryActivate (who : Caller) (s : State) := done (if s.sys.listen = 0 then s else s.callerWrite who 0x2802 1 [1])
/-- CHECKING ends (R242), or the checks of a recovery bundle (R450). -/
def execCheckingComplete (writeErr : Option Nat) (s : State) :=
  done (if s.sys.listen ≠ 0 then (if s.sys.rState = .checking then s.recoveryChecked else s)
    else if s.upd.state = .checking && s.fwRuns then s.endChecking writeErr else s)

/-- 0x2001 (R422). -/
def execLcTransitionRequest (who : Caller) (data : Bytes) (s : State) := done (s.callerWrite who 0x2001 0 data)
/-- A read of 0x2003 (R431). -/
def execDebugChallenge (who : Caller) (s : State) := done (s.callerRead who 0x2003 0)
/-- 0x2004 (R431). -/
def execDebugResponse (who : Caller) (data : Bytes) (s : State) := done (s.callerWrite who 0x2004 0 data)

end Sys2Proof.Machine
end

