-- ==== Sys2Proof/Machine/EventCommands.lean ====
section
/-! DEFINITION. The commands of the event log and of the SRAM patrol (R480, R485, R491). -/
namespace Sys2Proof.Machine

/-- EVL_RAISE; its parameter bytes stand in EVL_RAISE_Pk. -/
def execEvlRaise (v : Word) (s : State) := done (s.evlRaise v)

/-- The ring takes the event that waits first. -/
def execEventRecordWritten (s : State) := done s.eventWritten

/-- The patrol reads one beat: how many of its words it corrected, and the byte offset in SRAM of one it could not. -/
def execSramPatrol (corrected : Nat) (unc : Option Nat) (s : State) := done (s.sramPatrol corrected unc)

end Sys2Proof.Machine
end

