-- ==== Sys2Proof/Machine/Mailbox.lean ====
section
/-! DEFINITION. The HPW window, mailbox frames and the mailbox services (R59 to R64, Table 2.15). -/
namespace Sys2Proof.Machine

/-! ## Gate 21 (R405, R60) -/

/-- The number of a register in the order of Table 2.12. -/
def hpwRegs : List Nat := [0, 4, 8, 0xC, 0x10, 0x14, 0x18, 0x1C, 0x20, 0x24, 0x28, 0x40, 0x44, 0x48, 0x4C]
def hpwIndex (o : Nat) : Option Nat :=
  if 0x100 ≤ o ∧ o < 0x500 then some 15 else if 0x800 ≤ o ∧ o < 0x1000 then some 16 else (hpwRegs.idxOf? o)

/-- The word at an offset is listed, and HPW_DENY of the Timetable in force does not withhold it. -/
def State.hpwAllowed (s : State) (h : Host24) (o : Nat) : Bool :=
  (hpwIndex o).elim false fun k => !bit (s.portTt h).hpwDeny k

/-- Rule code of a refusal at gate 21. -/
def ruleWindow : Nat := 0xA
def State.hpwViolation (s : State) (h : Host24) (o acc : Nat) : State := s.violate 21 o (.host h) acc ruleWindow

/-! ## GO and the window's registers (R61, R63) -/

/-- SERVICE, LEN and TAG of HPW_MB_CMD. -/
def cmdService (w : Hpw) : Nat := bits w.mbCmd.toNat 0 8
def cmdLen (w : Hpw) : Nat := bits w.mbCmd.toNat 8 11
def cmdTag (w : Hpw) : Nat := bits w.mbCmd.toNat 24 8

def Hpw.copyRequest (w : Hpw) : Hpw :=
  { w with
    mbDone := false, mbPending := true
    request := some { service := cmdService w, len := cmdLen w, tag := cmdTag w, payload := w.mbReq.readN 0 0 (min (cmdLen w) 1024) } }

/-- HPW_MB_GO (R63); it ends P2 (Table 12.3). -/
def State.mbGo (s : State) (h : Host24) (v : Word) : State :=
  if !v.getLsbD 0 then s
  else if (s.port h).hpw.mbPending then s.modPort h fun p => p.setStat stMbReject
  else
    let s1 := s.modHpw h Hpw.copyRequest
    if s.fwRuns then (if s1.power = .p2 then s1.wake wkInternal 0 else s1) else s1.modHpw h (Hpw.deliver mbRestarting)

/-- HPW_LTV; a state that its value no longer permits is left (R357, R358). -/
def State.ltvWrite (s : State) (h : Host24) (v : Word) : State :=
  let s1 := s.modHpw h fun w => { w with ltv := v.setWidth 16 }
  if s1.permit.code < s1.power.code then s1.wake wkInternal 0 else s1

/-- HPW_HEALTH, and the condition of R248. -/
def State.healthWrite (s : State) (h : Host24) (v : Word) : State :=
  let t := (s.upd.recOf.hosts.get h).token
  let ok := (s.imgOf h).state = .trial && s.upd.recOf.trialHosts.getLsbD h.val && (if t = 0 then v ≠ 0 else v = t)
  let s1 := s.modHpw h fun w => { w with health := v }
  if ok then { s1 with upd := { s1.upd with met := s1.upd.met ||| BitVec.ofNat 24 (2 ^ h.val) } } else s1

def attnWrite (v : Word) (w : Hpw) : Hpw := { w with attnCause := w.attnCause &&& ~~~(v.setWidth 8), attnEn := (v >>> 8).setWidth 8 }

/-- HPW_STAT: writing 1 to bits [8:0] clears them in HPC_STAT. -/
def State.statClear (s : State) (h : Host24) (v : Word) : State := s.modPort h fun p => { p with stat := p.stat &&& ~~~(v.setWidth 9) }

/-- A word that the gate lets through; a read-only register ignores it (R9, Table 2.13). -/
def State.hpwWrite (s : State) (h : Host24) (o : Nat) (v : Word) : State :=
  if 0x100 ≤ o ∧ o < 0x500 then s.modHpw h fun w => { w with mbReq := w.mbReq.writeN 0 (o - 0x100) (p32 v.toNat) }
  else match o with
  | 0x08 => s.ltvWrite h v
  | 0x0C => s.healthWrite h v
  | 0x10 => s.modHpw h (attnWrite v)
  | 0x20 => s.modPort h fun p => { p with torn := p.torn.w1c v }
  | 0x28 => s.statClear h v
  | 0x40 => s.modHpw h fun w => { w with mbCmd := v &&& 0xFF07FFFF }
  | 0x44 => s.mbGo h v
  | _ => s

/-- Reading the time's low word latches its high word. -/
def State.hpwRead (s : State) (h : Host24) (o : Nat) : Nat × State :=
  let v := s.hpwWord h o
  (v, if o = 0x18 then s.modHpw h fun w => { w with timeHi := BitVec.ofNat 32 (hi32 s.timeBase.toNat) } else s)

/-! ## Mailbox frames (R59, R60) -/

/-- A mailbox frame whose clause serves it (Table 3.7, R75). -/
def State.mailboxServed (s : State) (h : Host24) (op shape : Nat) : Bool × State :=
  match (s.portTt h).lookup op (ifaceMode (s.port h).cmd shape) 0 0 with
  | none => (false, s)
  | some (i, c) => (effAction (s.hallPass h) c = 5, s.logClause h i c 0)

def wordsFrom (o : Nat) (b : Bytes) : List (Nat × Word) := (List.range (b.length / 4)).map fun i => (o + 4 * i, BitVec.ofNat 32 (u32 b (4 * i)))

/-- A mailbox write at select release. -/
def mbwBody (op : Nat) (f : Frame) (s : State) : State :=
  let h := f.port
  let o := f.addr.toNat
  let n := f.data.length
  if f.ending = .partialUnit then s.tornFrame h stTorn op
  else
    let r := s.mailboxServed h op 0x20
    if !r.1 then r.2.modPort h fun p => p.setStat stDenied
    else if o % 4 ≠ 0 || n % 4 ≠ 0 || 0x1000 < o + n || 0x1000 ≤ o then r.2.modPort h fun p => p.setStat stMbReject
    else
      let ws := wordsFrom o f.data
      match ws.find? fun w => !r.2.hpwAllowed h w.1 with
      | some w => (r.2.hpwViolation h w.1 accWrite).modPort h fun p => p.setStat stDenied
      | none => ws.foldl (fun st w => st.hpwWrite h w.1 w.2) r.2

/-- The words of a mailbox read from offset `o`; one that the gate refuses later in the read is zero. -/
def State.hpwReadWords (s : State) (h : Host24) : Nat → Nat → Bytes × State
  | 0, _ => ([], s)
  | n + 1, o =>
    let r := if 0x1000 ≤ o then (0, s) else if s.hpwAllowed h o then s.hpwRead h o else (0, s.hpwViolation h o accRead)
    let rest := r.2.hpwReadWords h n (o + 4)
    (p32 r.1 ++ rest.1, rest.2)

/-- A mailbox read: frame status, then bytes from the offset onward. -/
def mbrBody (op : Nat) (f : Frame) (s : State) : State :=
  let h := f.port
  let o := f.addr.toNat
  let n := f.want - 1
  let answer := fun (st : State) (code : Nat) (b : Bytes) => st.modPort h (·.addOut ((p8 (0x80 + code) ++ b).take f.want))
  let r := s.mailboxServed h op 0x21
  if !r.1 then answer r.2 mbDenied (List.replicate n 0)
  else if 0x1000 ≤ o then answer r.2 mbBadArg (List.replicate n 0)
  else if o % 4 ≠ 0 then answer (r.2.hpwViolation h o accRead) mbBadArg (List.replicate n 0)
  else if !r.2.hpwAllowed h o then answer (r.2.hpwViolation h o accRead) mbDenied (List.replicate n 0)
  else
    let w := r.2.hpwReadWords h ((n + 3) / 4) o
    answer w.2 mbOk (w.1.take n)

/-- The two mailbox shapes, for `frameOf`. -/
def mailboxFrame (op shape : Nat) (f : Frame) (s : State) : State :=
  takeFrame op shape f (fun t => if shape = 0x20 then mbwBody op f t else mbrBody op f t) s

/-! ## Services (R64) -/

/-- The host's request of service `code`, while it waits for its service and firmware runs. -/
def State.mbWaiting (s : State) (h : Host24) (code : Nat) : Option MbRequest :=
  let w := (s.port h).hpw
  if w.mbPending && w.result.isNone && s.fwRuns then w.request.filter fun q => q.service = code else none

/-- A service's own answer. -/
def State.mbAnswer (s : State) (h : Host24) (code : Nat) (rsp : Bytes := []) (retry : Nat := 0) : State :=
  s.modHpw h fun w => { w with result := some { code, retry, rsp } }

/-- Services with an effect outside the host (Table 2.15). -/
def outside (code : Nat) : Bool := code = 1 || code = 2 || code = 3 || code = 5

/-- Steps 1 to 3 of R64, then the service's own result. -/
def State.service (s : State) (h : Host24) (code : Nat) (lenOk : Bytes → Bool) (f : Bytes → State → State) : State :=
  match s.mbWaiting h code with
  | none => s
  | some q =>
    if 1024 < q.len || !lenOk q.payload then s.mbAnswer h mbBadArg
    else if !bit (s.committedTt h).serviceMask code then s.mbAnswer h mbDenied
    else if s.hallPass h && outside code then s.mbAnswer h mbNotYet
    else f q.payload s

/-- A hint that no rule gives a value. -/
def State.freeHint (s : State) (least : Nat) : Nat × State :=
  (max least ((Config.freeWord s.free).setWidth 32).toNat, { s with free := s.free + 1 })

/-- Service 0x01 (Table 9.5). -/
def appendLen (b : Bytes) : Bool := 4 ≤ b.length && b.length = 4 + u16 b 2
def State.mbAppend (s : State) (h : Host24) (b : Bytes) : State :=
  if !appendOk b then s.mbAnswer h mbBadArg
  else if !s.arc.created || !s.lcAppends then s.mbAnswer h mbDenied
  else match s.append h.val b with
    | (.ok rsp, s1) => s1.mbAnswer h mbOk rsp
    | (.full, s1) => s1.mbAnswer h mbFull
    | (.busy, s1) => let r := s1.freeHint 100
                     r.2.mbAnswer h mbBusy [] r.1

/-- Service 0x02 (R287). -/
def cardLen (b : Bytes) : Bool := if u8 b 0 = 0 then b.length = 40 else if u8 b 0 = 1 then b.length = 8 else b.length = 8 || b.length = 40

/-- MAC_SLOT's policy admits Report cards for the host; a revoked slot is judged by the policy that it keeps. -/
def State.cardPolicy (s : State) (h : Host24) (k : Nat) : Bool :=
  let x := s.slot k
  k < 64 && (x.live || x.revoked) && x.typ = typHmac && x.pol polHostCard && x.pol polExpose && x.admits (s.imgOf h).hostClass.toNat

def State.mbCardMake (s : State) (h : Host24) (b : Bytes) : State :=
  let r := hostCardReq b
  if s.arc.cardWait.contains h.val then s
  else if !(u8 b 0 = 0 && (r.kind = 1 || r.kind = 2) && allZero (field b 3 5)) then s.mbAnswer h mbBadArg
  else if r.kind = 2 && !s.cardPolicy h r.macSlot then s.mbAnswer h mbDenied
  else if r.kind = 1 && s.arc.tokens = 0 then s.mbAnswer h mbBusy [] s.paceWait
  else if 8 ≤ s.arc.cardWait.length then
    let x := s.freeHint 1
    x.2.mbAnswer h mbBusy [] x.1
  else if (if r.kind = 1 then !s.signOk else !s.macSlotOk r.macSlot polHostCard (some h)) then s.mbAnswer h mbGone
  else (s.modArc fun a => { a with cards := a.cards.set h.val none h.isLt }).cardJoin h.val r.kind

def State.mbCardRead (s : State) (h : Host24) (b : Bytes) : State :=
  let o := u32 b 4
  if !allZero (field b 1 3) then s.mbAnswer h mbBadArg
  else match s.arc.cards.get h with
    | none => s.mbAnswer h mbGone
    | some c => if c.length ≤ o then s.mbAnswer h mbBadArg else s.mbAnswer h mbOk (field c o (min 2048 (c.length - o)))

/-- Services 0x03 and 0x04 (R389). -/
def State.mbIncrement (s : State) (h : Host24) : State :=
  match s.ctrInc (32 + h.val) srcService with
  | (true, s1) => s1.mbAnswer h mbOk (p32 (s1.counter (32 + h.val)))
  | (false, s1) => s1.mbAnswer h mbFull
def State.mbCounter (s : State) (h : Host24) (b : Bytes) : State :=
  if 63 < u8 b 0 || !allZero (field b 1 3) then s.mbAnswer h mbBadArg
  else (s.meetBad (u8 b 0)).mbAnswer h mbOk (p32 (s.counter (u8 b 0)))

/-- Services 0x07 (R489), 0x08, 0x09 (R278) and 0x0A (R384). -/
def readHead (first n : Nat) : Bytes := p64 first ++ p16 n ++ List.replicate 6 0

def State.mbEvents (s : State) (h : Host24) (b : Bytes) : State :=
  let from_ := u64 b 0
  let n := u16 b 8
  if n < 1 || 42 < n || u16 b 10 ≠ 0 then s.mbAnswer h mbBadArg
  else if s.evl.ring.head?.elim false fun r => from_ < r.seq then s.mbAnswer h mbGone
  else
    let rs := s.evl.recordsFrom from_ n
    s.mbAnswer h mbOk (readHead from_ rs.length ++ rs.flatMap EventRec.bytes)

def State.mbTime (s : State) (h : Host24) : State := s.mbAnswer h mbOk (p64 s.utcField ++ p64 s.timeBase.toNat)

def State.mbArchive (s : State) (h : Host24) (b : Bytes) : State :=
  let from_ := u64 b 0
  let n := u16 b 8
  if n < 1 || 31 < n || u16 b 10 ≠ 0 || s.arc.next.toNat ≤ from_ then s.mbAnswer h mbBadArg
  else match s.arc.recordAt from_ with
    | none => s.mbAnswer h mbGone
    | some (p, _) =>
      if p.lost then s.mbAnswer h mbGone
      else
        let rs := s.arc.records from_ (min n (s.arc.next.toNat - from_))
        s.mbAnswer h mbOk (readHead from_ rs.length ++ rs.flatten)

def State.slotEntry (s : State) (k : Nat) : Bytes :=
  p8 k ++ s.slotVal k 1 ++ s.slotVal k 2 ++ s.slotVal k 3 ++ s.slotVal k 4 ++ s.slotVal k 5
def State.mbSlots (s : State) (h : Host24) (b : Bytes) : State :=
  let k := u8 b 0
  if !allZero (field b 1 3) || (63 < k && k ≠ 0xFF) then s.mbAnswer h mbBadArg
  else s.mbAnswer h mbOk (if k = 0xFF then (List.range 64).flatMap s.slotEntry else s.slotEntry k)

/-! ## Digest services (R216, R217) -/

def dgAlg (b : Bytes) : Nat := u8 b 0
def dgFlash (b : Bytes) : Bool := bit (u8 b 1) 0
def dgCompare (b : Bytes) : Bool := bit (u8 b 1) 1
def dgOut (b : Bytes) : Nat := if u8 b 2 = 0 then Hash.outSize (dgAlg b) else u8 b 2
/-- E of R216. -/
def dgExpect (b : Bytes) : Nat := if dgCompare b then (dgOut b + 3) / 4 * 4 else 0

/-- LEN of the request; one whose ALG has no output length is judged as malformed. -/
def digestLen (b : Bytes) : Bool :=
  16 ≤ b.length && (!(1 ≤ dgAlg b && dgAlg b ≤ 4) || b.length = 16 + dgExpect b + (if dgFlash b then 0 else u32 b 4))

def digestOk (keyed : Bool) (b : Bytes) : Bool :=
  1 ≤ dgAlg b && dgAlg b ≤ (if keyed then 3 else 4) && u8 b 1 < 4 && u8 b 2 ≤ (if dgAlg b = 4 then 64 else Hash.outSize (dgAlg b)) &&
    (keyed || u8 b 3 = 0) && (dgFlash b || u32 b 8 = 0) && u32 b 12 = 0 && (!dgFlash b || u32 b 4 ≤ 16 * 2 ^ 20)

/-- The clauses of the read shapes in ascending opcode order. -/
def readClauses (t : Timetable) : List (Nat × Clause) :=
  (List.range 256).flatMap fun op => if classOf (idxShape (t.entry op)) = .read then (t.span op).map fun c => (op, c.2) else []

/-- The virtual page that a host page names: the first pass-translate or stage clause whose ADDR_TEST holds. -/
def State.admittedPage (s : State) (h : Host24) (t : Timetable) (p : Nat) : Option Nat :=
  ((readClauses t).find? fun x => opTest x.1 x.2 && addrTestOk t x.2 (p * 4096) (p * 4096) && x.2.action ≤ 1 && (!s.hallPass h || x.2.hall)).map
    fun x => (p * 4096 + x.2.arg0) % 2 ^ 32 / 4096

/-- The flash bytes of a request in the host's own view: code and bytes. -/
def State.digestFlash (s : State) (h : Host24) (a n : Nat) : Nat × Bytes :=
  if n = 0 then (mbOk, [])
  else
    let ps := (List.range ((a + n - 1) / 4096 - a / 4096 + 1)).map fun i => (a / 4096 + i) % 2 ^ 20
    match ps.mapM (s.admittedPage h (s.committedTt h)) with
    | none => (mbDenied, [])
    | some vs =>
      match vs.mapM fun v => s.readPage h v true with
      | none => (mbGone, [])
      | some bs => (mbOk, field bs.flatten (a % 4096) n)

/-- OUTCOME and the output, or the comparison. -/
def digestAnswer (b out : Bytes) : Bytes :=
  if dgCompare b then p8 (if out = field b 16 (dgOut b) then 1 else 2) ++ [0, 0, 0] else [0, 0, 0, 0] ++ out

def State.mbDigest (s : State) (h : Host24) (keyed : Bool) (b : Bytes) : State :=
  let k := u8 b 3
  let data := if dgFlash b then s.digestFlash h (u32 b 8) (u32 b 4) else (mbOk, b.drop (16 + dgExpect b))
  let policy := !keyed || (k < 64 && ((s.slot k).revoked || s.keyedAdmit k .mgpPriv (some (h, polHostKeyed)) (b2n (dgCompare b)) 0))
  if !digestOk keyed b then s.mbAnswer h mbBadArg
  else if !policy || data.1 = mbDenied then s.mbAnswer h mbDenied
  else if 64 ≤ s.dgc.queue.length || s.freeSet.isNone then
    { s with dgc := { s.dgc with busyCnt := s.dgc.busyCnt.inc } }.mbAnswer h mbBusy [] (max 10 (s.dgcRetry s.freeSet.isNone))
  else if (keyed && (s.slot k).revoked) || data.1 = mbGone then s.mbAnswer h mbGone
  else
    let free := s.coresOn.filter s.coreFree
    if free.isEmpty || (s.verifying && free.length ≤ s.dgc.reserve.toNat) then s
    else s.mbAnswer h mbOk (digestAnswer b (if keyed then (Hash.hmac (dgAlg b) (s.slot k).key data.2).take (dgOut b)
      else Hash.digest (dgAlg b) (dgOut b) data.2))

/-- The result goes to the host; a request of an unknown service has none and ends with BAD_ARG (R64). -/
def State.mbDone (s : State) (h : Host24) : State :=
  let w := (s.port h).hpw
  match w.request with
  | none => s
  | some q =>
    match w.result with
    | some r => s.modHpw h (Hpw.deliver r)
    | none => if s.fwRuns && !(1 ≤ q.service && q.service ≤ 10) then s.modHpw h (Hpw.deliver { code := mbBadArg, retry := 0, rsp := [] }) else s

end Sys2Proof.Machine
end

