-- ==== Sys2Proof/Machine/MailboxCommands.lean ====
section
/-! DEFINITION. The commands of the mailbox: its frames, the window's registers and the services (chapter 2). -/
namespace Sys2Proof.Machine

/-! ## Frames -/

def execMbw (f : Frame) (s : State) := done (mailboxFrame 0xE3 0x20 f s)
def execMbr (f : Frame) (s : State) := done (mailboxFrame 0xE4 0x21 f s)

/-- A frame of any opcode: as the Timetable gives it a shape, or unrecognised (R33). -/
def execUnknownOpcode (f : Frame) (s : State) := done (frameOf mailboxFrame f.lead.toNat f s)
/-- An address-first frame (R53). -/
def execContReadFrame (f : Frame) (s : State) := done (contReadFrame mailboxFrame f s)

/-! ## Registers of the window -/

/-- One word that a mailbox write of host `h` carries (R59, R60). -/
def windowWord (h : Host24) (o : Nat) (v : Word) (s : State) : State :=
  if !s.decodes h then s
  else if s.hpwAllowed h o then s.hpwWrite h o v
  else (s.hpwViolation h o accWrite).modPort h fun p => p.setStat stDenied

def execHpwMbGo (h : Host24) (v : Word) (s : State) := done (windowWord h 0x44 v s)
def execHpwAttnWrite (h : Host24) (v : Word) (s : State) := done (windowWord h 0x10 v s)
def execHpwLtvWrite (h : Host24) (v : Word) (s : State) := done (windowWord h 0x08 v s)
def execHpwHealthWrite (h : Host24) (v : Word) (s : State) := done (windowWord h 0x0C v s)
def execHpwStatClear (h : Host24) (v : Word) (s : State) := done (windowWord h 0x28 v s)

/-! ## Services (Table 2.15) -/

def execArchiveAppend (h : Host24) (s : State) := done (s.service h 1 appendLen fun b t => t.mbAppend h b)
/-- Service 0x02 but its reads. -/
def execCardMake (h : Host24) (s : State) :=
  done (s.service h 2 cardLen fun b t => if u8 b 0 = 1 then t else t.mbCardMake h b)
def execCardRead (h : Host24) (s : State) :=
  done (s.service h 2 cardLen fun b t => if u8 b 0 = 1 then t.mbCardRead h b else t)
def execCounterIncrement (h : Host24) (s : State) := done (s.service h 3 List.isEmpty fun _ t => t.mbIncrement h)
def execCounterRead (h : Host24) (s : State) := done (s.service h 4 (fun b => b.length = 4) fun b t => t.mbCounter h b)
def execKeyedDigest (h : Host24) (s : State) := done (s.service h 5 digestLen fun b t => t.mbDigest h true b)
def execPlainDigest (h : Host24) (s : State) := done (s.service h 6 digestLen fun b t => t.mbDigest h false b)
def execEventLogRead (h : Host24) (s : State) := done (s.service h 7 (fun b => b.length = 12) fun b t => t.mbEvents h b)
def execTimeRead (h : Host24) (s : State) := done (s.service h 8 List.isEmpty fun _ t => t.mbTime h)
def execArchiveRead (h : Host24) (s : State) := done (s.service h 9 (fun b => b.length = 12) fun b t => t.mbArchive h b)
def execKeySlotStatusRead (h : Host24) (s : State) := done (s.service h 10 (fun b => b.length = 4) fun b t => t.mbSlots h b)
def execMailboxServiceDone (h : Host24) (s : State) := done (s.mbDone h)

end Sys2Proof.Machine
end

