-- ==== Sys2Proof/Machine/PowerCommands.lean ====
section
/-! DEFINITION. Conditions of the power states (Table 12.2), and the commands of chapter 12: state entries and wakes, admission of
background work, and the samples of sensors and supplies. -/
namespace Sys2Proof.Machine

/-! ## Conditions (R360, Table 12.2) -/

/-- The conditions of Table 12.7's HOLD bits that do not hold; a state's own conditions count from `depth` on. -/
def State.holds (s : State) (depth : Nat) : Nat :=
  let hosts := all24.map fun h => (s.imgOf h).state
  let verify := hosts.any fun x => x = .measuring || x = .hallPass
  let cores := s.dgc.running.any fun x => 4 ≤ x.1
  let jobs := !s.dgc.running.isEmpty || !s.dgc.queue.isEmpty || s.sig.busy || s.signer.busy
  let background := s.pwr.waiting &&& ~~~s.pwr.blocked ≠ 0
  let service := all24.any (fun h => (s.port h).hpw.mbPending) || (List.finRange 8).any (fun k => !(s.net.ports.get k).rx.isEmpty)
  let frames := all24.any fun h => (s.port h).frame.isSome
  let flash := all24.any (fun c => (s.chan c).running.isSome || !(s.chan c).queue.isEmpty || (s.chan c).sels.toList.any fun sl => sl.busy.isSome) ||
    s.plc.scanning || !s.plc.relocs.isEmpty
  let upd := match s.upd.state with | .receiving | .checking | .activating | .reverting => true | _ => false
  let busy3 := !s.net.transfers.isEmpty || s.nvc.write.isSome || upd
  let hosts4 := hosts.any fun x => x ≠ .off && x ≠ .detention
  let busy4 := !s.openSessions.isEmpty || !s.arc.awaiting.isEmpty
  let at_ := fun (d : Nat) (b : Bool) => decide (d ≤ depth) && b
  maskOf 8 fun k => [at_ 1 verify, at_ 1 s.restarting, at_ 1 s.pwr.traffic, at_ 1 cores || at_ 2 jobs, at_ 2 background, at_ 3 frames || at_ 4 hosts4,
    at_ 3 flash, at_ 2 service || at_ 3 busy3 || at_ 4 busy4].getD k false

/-- PWR_STATE.HOLD: what keeps the controller shallower than PERMIT. -/
def State.holdWord (s : State) : Nat := s.holds s.permit.code

def powerOf (p : Fin 5) : PowerState :=
  match p with | 0 => .p0 | 1 => .p1 | 2 => .p2 | 3 => .p3 | 4 => .p4

/-- A save of the time-base floor (R461); no word write starts below VDD_WARN. -/
def State.saveFloor (s : State) : State :=
  if s.vddWarn then s else { s with clk := { s.clk with floor := s.timeBase, floorSaves := s.clk.floorSaves + 1 } }

/-- A deeper state that is permitted and whose conditions hold is entered, from P0 or P1; P4 is barred by X32_FAIL (R459). -/
def State.enterPower (s : State) (p : PowerState) : State :=
  let from_ := s.power = .p0 || s.power = .p1
  if !from_ || p.code ≤ s.power.code || s.permit.code < p.code || s.holds p.code ≠ 0 || s.lcc.phase ≠ .none || (p = .p4 && s.clk.x32Fail) then s
  else
    let s1 := (if p = .p4 then s.saveFloor else s).raiseIf (p = .p4) 0x0D01 srcPWR (p32 s.tMin ++ p8 s.holdWord)
    { s1 with pwr := { s1.pwr with traffic := false } }.setPower p
def execPowerStateEntry (p : Fin 5) (s : State) := done (s.enterPower (powerOf p))

/-- Data-path traffic at 6.4 GB/s, the P1 event that hardware alone meets (Table 12.3). -/
def State.p1Exit (s : State) : State :=
  let s1 := { s with pwr := { s.pwr with traffic := true } }
  if s.power = .p1 || s.power = .p2 then s1.wake wkInternal 0 else s1
def execP1Exit (s : State) := done s.p1Exit

/-- HPn_CS_N falls in P3 on a port that decodes frames. -/
def execHostSelectWake (h : Host24) (s : State) :=
  done (if s.power = .p3 && (s.port h).cfg.getLsbD 0 && s.hcs.padPwren h then s.wake wkHost h.val else s)

/-- A frame in P3, or activity in P4, on an enabled port; a wake from P4 sets WAKE. -/
def State.netWake (s : State) (k : NetPort) : State :=
  let p := s.net.ports.get k
  if !p.cfg.enabled then s
  else
    match s.power with
    | .p4 => (s.modNet fun n => { n with ports := updV n.ports k fun q => { q with wake := true } }).wake wkNet k.val
    | .p2 | .p3 => s.wake wkNet k.val
    | _ => s
def execNetworkWake (k : NetPort) (s : State) := done (s.netWake k)

/-- The timer of R363 does not run in P4. -/
def execWakeTimer (s : State) := done (if s.power = .p2 || s.power = .p3 then s.wake wkTimer 0 else s)

/-! ## Admission (R364 to R367) -/

/-- An offer stands for work that State shows as waiting, where State holds that work. -/
def State.offerReal (s : State) (o : JobOffer) : Bool :=
  match o.rank with
  | 1 => s.rng.dueSince.isSome
  | 3 => !s.arc.awaiting.isEmpty && s.lcSeals
  | 7 => !s.arc.cardWait.isEmpty
  | n => between 2 8 n

/-- The class of a rank (Table 12.5). -/
def rankClass (o : JobOffer) : Nat :=
  match o.rank with
  | 1 => 7 | 3 => 4 | 4 => 2 | 5 => 0 | 6 => 6 | 7 => 5
  | 2 => if o.cls = 2 then 2 else 3
  | _ => if o.cls = 2 then 2 else 1

/-- The costs of the next job of every rank above `r`. -/
def State.offersAbove (s : State) (os : List JobOffer) (r : Nat) : Nat :=
  ((List.range r).map fun k => ((os.find? fun o => o.rank = k).elim 0 fun o => s.jobCost (rankClass o) o.host)).sum

def State.offerFits (s : State) (os : List JobOffer) (o : JobOffer) : Bool :=
  s.fwRuns && s.lcc.phase = .none && s.pwr.fits (s.jobCost (rankClass o) o.host) (s.offersAbove os o.rank)

/-- What an admitted job does here; the work of the other ranks is made by the commands of its own chapter. -/
def State.admitOffer (s : State) (o : JobOffer) : State :=
  match o.rank with
  | 1 => let s1 := s.charge 7 1 (s.jobCost 7 none)
         (s1.reseed).getD s1
  | 3 => s.sealCompute
  | 7 => s.cardAdmit
  | r => s.charge (rankClass o) r (s.jobCost (rankClass o) o.host)

def classMask (os : List JobOffer) : Byte := BitVec.ofNat 8 (maskOf 8 fun k => os.any fun o => rankClass o = k)

/-- The job of the highest rank that fits is admitted. -/
def State.jobAdmission (s : State) (offers : List JobOffer) : State :=
  let os := offers.filter s.offerReal
  let s0 := if s.power.code ≤ 1 then s else s.wake wkInternal 0
  match (List.range 9).findSome? fun r => (os.filter fun o => o.rank = r).head?.filter fun o => s0.offerFits os o with
  | some o =>
    let s1 := s0.admitOffer o
    let rest := os.erase o
    { s1 with pwr := { s1.pwr with waiting := classMask rest, blocked := classMask (rest.filter fun x => !s1.offerFits rest x) } }
  | none => { s with pwr := { s.pwr with waiting := classMask os, blocked := classMask os } }
def execJobAdmission (offers : List JobOffer) (s : State) := done (s.jobAdmission offers)

/-! ## Sensors (R368 to R371) -/

/-- A reading of sensor k: in range, or one that fails the sensor; none when ten periods passed without a sample. -/
def State.sensorRead (s : State) (k : Fin 4) (r : Option Int) : State :=
  let p := s.pwr
  let ok := r.elim false fun t => decide (-550 ≤ t ∧ t ≤ 1500)
  if p.sfail.getLsbD k.val then s
  else if ok then { s with pwr := { p with temps := p.temps.set k.val (r.getD 0) } }
  else
    let last := r.getD (p.temps.get k)
    { s with pwr := { p with sfail := p.sfail ||| BitVec.ofNat 4 (2 ^ k.val) } }.raise 0x0D05 srcPWR (p8 k.val ++ p32 (twos 32 last))

/-- What a sensor counts as: a failed one reads the ceiling. -/
def Pwr.counts (p : Pwr) (k : Fin 4) : Int := if p.sfail.getLsbD k.val then 10 * (p.ceil : Int) else p.temps.get k

/-- The hottest reading and its sensor. -/
def Pwr.hottest (p : Pwr) : Int × Nat :=
  [(1 : Fin 4), 2, 3].foldl (fun (a : Int × Nat) k => if a.1 < p.counts k then (p.counts k, k.val) else a) (p.counts 0, 0)

def powerWarnHosts (s : State) : List Host24 :=
  all24.filter fun h => (s.imgOf h).state = .trial || (s.imgOf h).state = .running || (s.imgOf h).state = .hallPass

/-- T_max, AT_CEIL with its hysteresis of 2 °C, and THERM_CRIT. -/
def State.thermal (s : State) : State :=
  let p := s.pwr
  let (t, k) := p.hottest
  let ceil := 10 * (p.ceil : Int)
  let at_ := if ceil ≤ t then true else if t < ceil - 20 then false else p.atCeil
  let crit := if 1050 ≤ t then true else if t < 1000 then false else p.crit
  let s1 := { s with pwr := { p with tmax := t, atCeil := at_, crit := crit } }
  let s2 := s1.raiseIf (at_ ≠ p.atCeil) 0x0D03 srcPWR (p32 (twos 32 t) ++ p32 (twos 32 ceil) ++ p8 k)
  if crit ≠ p.crit then
    ((powerWarnHosts s2).foldl (fun st h => st.modHpw h (setCause causePowerWarn)) s2).raise 0x0D04 srcPWR (p32 (twos 32 t) ++ p8 k)
  else s2

def State.sensorSample (s : State) (a b c d : Option Int) : State :=
  if s.power = .p4 then s
  else ((((s.sensorRead 0 a).sensorRead 1 b).sensorRead 2 c).sensorRead 3 d).thermal
def execSensorSample (a b c d : Option Int) (s : State) := done (s.sensorSample a b c d)

/-! ## HOLDUP_SENSE and VBAK_SENSE (R427, R505) -/

def State.holdupSample (s : State) (vBall vbak : Nat) : State :=
  if s.power = .p3 || s.power = .p4 then s
  else
    let v := min 1800 vBall
    let l := s.lcc
    { s with
      lcc := { l with huv := BitVec.ofNat 11 v, hue := BitVec.ofNat 32 (holdupEnergy l.capUf.toNat l.div.toNat l.vmin.toNat v) }
      pwr := { s.pwr with vbakMv := min 1800 vbak } }.lcSample
def execHoldupSample (vBall vbak : Nat) (s : State) := done (s.holdupSample vBall vbak)

end Sys2Proof.Machine
end

