-- ==== Sys2Proof/Machine/Transfers.lean ====
section
/-! DEFINITION. Requests and segmented transfers of the Duner dictionary protocol (R306, R316 to R325). -/
namespace Sys2Proof.Machine

/-! ## A transfer -/

/-- N of R319, and the length of segment N - 1. -/
def Transfer.count (t : Transfer) : Nat := (t.total + t.segsize - 1) / t.segsize
def Transfer.rest (t : Transfer) : Nat := t.total - (t.count - 1) * t.segsize
/-- OP, SUB and INDEX of the request that it serves. -/
def Transfer.entry (t : Transfer) : Bytes := t.initBody.take 4
def Transfer.heldAt (t : Transfer) (n : Nat) : Option Bytes := (t.held.find? fun h => h.1 = n).map (·.2)
def Transfer.has (t : Transfer) (n : Nat) : Bool := n < t.next || (t.heldAt n).isSome

/-- NEXT once the segments held are counted. -/
def advanceNext (t : Transfer) : Nat → Nat → Nat
  | 0, n => n
  | k + 1, n => if (t.heldAt n).isSome then advanceNext t k (n + 1) else n
def Transfer.settle (t : Transfer) : Transfer := { t with next := advanceNext t (t.held.length + 1) t.next }

/-- The number within 127 of `near` that a SEGNO or a NEXT of 16 bits stands for (R320). -/
def resolveSeg (near v : Nat) : Option Nat :=
  let d := (v + 65536 - near % 65536) % 65536
  if d ≤ 127 then some (near + d) else if 65536 - d ≤ 127 ∧ 65536 - d ≤ near then some (near - (65536 - d)) else none

/-- MAP of R321: bit k is segment NEXT + 1 + k. -/
def Transfer.mapBytes (t : Transfer) : Bytes :=
  (List.range 16).map fun j => BitVec.ofNat 8 (((List.range 8).map fun i => if t.has (t.next + 1 + 8 * j + i) then 2 ^ i else 0).sum)

def sameTransfer (t u : Transfer) : Bool := t.session = u.session && t.xid = u.xid && (t.session ≠ 0 || (t.port = u.port && t.addr = u.addr))

def State.transfer (s : State) (session port : Nat) (addr : Bytes) (xid : Nat) : Option Transfer :=
  s.net.transfers.find? fun t => t.session = session && t.xid = xid && (session ≠ 0 || (t.port = port && t.addr = addr))
def State.dropTransfer (s : State) (t : Transfer) : State :=
  s.modNet fun n => { n with transfers := n.transfers.filter fun u => !sameTransfer t u }
def State.putTransfer (s : State) (t : Transfer) : State :=
  s.modNet fun n => { n with transfers := n.transfers.map fun u => if sameTransfer t u then t else u }

/-- A message of a transfer, in its session or in none. -/
def State.sendFor (s : State) (t : Transfer) (typ flags : Nat) (body : Bytes) : State :=
  if t.session = 0 then s.sendPlain t.port t.addr typ flags 0 t.xid body else s.sendIn t.session typ flags t.xid body

/-- R317: what answers a repetition. `key` is the type, then the body, of what was completed. -/
def State.remember (s : State) (k xid : Nat) (key : Bytes) (answer : List (Nat × Nat × Bytes)) : State :=
  s.modSession k fun y => { y with lastXid := xid, lastBody := key, lastAnswer := answer }

/-- The controller ends a transfer: ABORT, EV 0x0A06 (R324); the outcome is kept where a SEG_END brought it. -/
def State.endTransfer (s : State) (t : Transfer) (code : Nat) (key : Bytes := []) : State :=
  let body := abortBody t.entry code
  let s1 := ((s.dropTransfer t).sendFor t tyAbort 0 body).transferEvent t code
  if key = [] then s1 else s1.remember t.session t.xid key [(tyAbort, 0, body)]

/-! ## The controller receives (R319 to R323) -/

def segAckBody (next window : Nat) (map : Bytes) : Bytes := p16 (next % 65536) ++ p8 window ++ [0] ++ map

/-- FLAGS of SEG_ACK. -/
def ackDone : Nat := 1
def ackGrant : Nat := 2

/-- SEG_ACK: its window limit holds from now on. -/
def State.sendAck (s : State) (t : Transfer) : State :=
  (s.putTransfer { t with limit := t.next + t.window, gapTimer := false }).sendFor t tySegAck 0 (segAckBody t.next t.window t.mapBytes)

def up4k (n : Nat) : Nat := (n + 4095) / 4096 * 4096
def ddpBuffers : Nat := 384 * 1024
def State.reserved (s : State) : Nat := (s.net.transfers.map Transfer.reserve).sum
/-- R325: two transfers in a session, four sessionless ones; one for each session of the recovery listen (R449). -/
def State.transferMax (s : State) (session : Nat) : Nat := if session = 0 then 4 else if s.sys.listen ≠ 0 then 1 else 2
/-- The first refusal of R325, or 0. -/
def State.transferRefused (s : State) (session reserve : Nat) : Nat :=
  if s.transferMax session ≤ (s.net.transfers.filter fun t => t.session = session).length then 0x05040003
  else if ddpBuffers < s.reserved + reserve then 0x05040004
  else 0

def opRead : Nat := 1
def opWrite : Nat := 2
def opNop : Nat := 3

/-- SEG_INIT of a write (R319, R325). -/
def State.segInit (s : State) (m : DdpIn) (x : Msg) : State :=
  let k := x.session
  let total := u32 x.body 4
  let size := u16 x.body 8
  let win := min (u8 x.body 10) windowMax
  let refuse := fun (code : Nat) => s.sendIn k tyAbort 0 x.xid (abortBody (x.body.take 4) code)
  match s.transfer k m.port.val m.addr x.xid with
  | some t =>
    if t.write && t.initBody = x.body then s.sendIn k tySegAck ackGrant x.xid (segAckBody 0 t.window (List.replicate 16 0))
    else s.endTransfer t 0x05040001
  | none =>
    if u8 x.body 0 ≠ opWrite then refuse 0x05030001
    else if total = 0 || size = 0 || segMax m.port.val true < size || win = 0 then refuse 0x05040002
    else
      let reserve := if u16 x.body 2 = 0x2801 then up4k (win * size) else up4k total
      let n := s.transferRefused k reserve
      if n ≠ 0 then refuse n
      else
        let t : Transfer := { session := k, port := m.port.val, addr := m.addr, xid := x.xid, write := true, sub := u8 x.body 1
                              index := u16 x.body 2, total, segsize := size, window := win, initBody := x.body, held := [], data := []
                              next := 0, limit := win, granted := true, sent := 0, endSent := false, retries := 0, gapTimer := false, reserve }
        (s.modNet fun n => { n with transfers := n.transfers ++ [t] }).sendFor t tySegAck ackGrant (segAckBody 0 win (List.replicate 16 0))

def State.aboveLimit (s : State) : State := s.modNet fun n => { n with aboveLimit := satInc n.aboveLimit }

/-- A segment (R320, R321). -/
def State.segment (s : State) (t : Transfer) (segno : Nat) (data : Bytes) : State :=
  match resolveSeg t.next segno with
  | none => s.aboveLimit
  | some n =>
    if n < t.next then s
    else match t.heldAt n with
    | some b => if b = data then s else s.endTransfer t 0x05040006
    | none =>
      if t.limit ≤ n then s.aboveLimit
      else if t.count ≤ n || (n = t.count - 1 && t.rest < data.length) then s.endTransfer t 0x06070010
      else if n ≠ t.count - 1 && data.length ≠ t.segsize then s.endTransfer t 0x05040007
      else
        let t1 := { t with held := t.held ++ [(n, data)], retries := 0 }.settle
        if min t1.limit t1.count ≤ t1.next then s.sendAck t1
        else s.putTransfer { t1 with gapTimer := t1.gapTimer || t1.next < n }

def State.segData (s : State) (m : DdpIn) (x : Msg) : State :=
  match s.transfer x.session m.port.val m.addr x.xid with
  | some t => if t.write then s.segment t (u16 x.body 0) (x.body.drop 2) else s
  | none => s

/-- The whole value. -/
def Transfer.value (t : Transfer) : Bytes := (List.range t.count).flatMap fun n => (t.heldAt n).getD []

/-- An answer in a session, kept for a repetition (R317). -/
def State.answer (s : State) (k xid : Nat) (key : Bytes) (typ flags : Nat) (body : Bytes) : State :=
  (s.sendIn k typ flags xid body).remember k xid key [(typ, flags, body)]

/-- R317: the stored answer goes out again. -/
def State.sayAgain (s : State) (k xid : Nat) (y : Session) : State :=
  y.lastAnswer.foldl (fun st a => st.sendIn k a.1 a.2.1 xid a.2.2) s

/-- The key under which a segmented write is remembered: its SEG_END, then its SEG_INIT. -/
def segKey (x : Msg) (init : Bytes) : Bytes := p8 tySegEnd ++ x.body ++ init

/-- SEG_END (R323). -/
def State.segCommit (s : State) (t : Transfer) (x : Msg) : State :=
  let count := u32 x.body 0
  let key := segKey x t.initBody
  if t.count < count then s.endTransfer t 0x06070010 key
  else if !(List.range count).all fun n => t.has n then s.sendAck t
  else if count < t.count || ((t.heldAt (t.count - 1)).getD []).length < t.rest then s.endTransfer t 0x06070011 key
  else if crc32c t.value ≠ u32 x.body 4 then s.endTransfer t 0x05040005 key
  else
    let w := s.dictPut ⟨t.session, 0⟩ t.index t.sub t.value
    if w.code ≠ 0 then w.state.endTransfer t w.code key
    else w.after ((w.state.dropTransfer t).answer t.session t.xid key tySegAck ackDone (segAckBody t.count t.window (List.replicate 16 0)))

def State.segEnd (s : State) (m : DdpIn) (x : Msg) (y : Session) : State :=
  match s.transfer x.session m.port.val m.addr x.xid with
  | some t =>
    if !t.write then s
    else if y.lastXid = x.xid && y.lastBody = segKey x t.initBody then (s.dropTransfer t).sayAgain x.session x.xid y
    else s.segCommit t x
  | none => if y.lastXid = x.xid && y.lastBody.take 9 = segKey x [] then s.sayAgain x.session x.xid y else s

/-! ## The controller sends (R316, R319 to R323) -/

def Transfer.segBytes (t : Transfer) (n : Nat) : Bytes := field t.data (n * t.segsize) (min t.segsize (t.total - n * t.segsize))

def State.sendSeg (s : State) (t : Transfer) (n : Nat) : State := s.sendFor t tySegData 0 (p16 (n % 65536) ++ t.segBytes n)
def State.sendSegs (s : State) (t : Transfer) (l : List Nat) : State := l.foldl (fun st n => st.sendSeg t n) s
def State.sendSegEnd (s : State) (t : Transfer) : State := s.sendFor t tySegEnd 0 (p32 t.count ++ p32 (crc32c t.data))

/-- Segments not sent yet go out up to the window limit; SEG_END follows the last. -/
def State.pump (s : State) (t : Transfer) : State :=
  let top := max t.sent (min t.limit t.count)
  let s1 := s.sendSegs t ((List.range (top - t.sent)).map (t.sent + ·))
  let fin := t.count ≤ top && !t.endSent
  let s2 := if fin then s1.sendSegEnd t else s1
  s2.putTransfer { t with sent := top, endSent := t.endSent || fin }

/-- A segmented read of a snapshot: its SEG_INIT. -/
def readInit (entry value : Bytes) (port : Nat) (inSession : Bool) : Bytes :=
  padTo 4 entry ++ p32 value.length ++ p16 (segMax port inSession) ++ p8 windowMax ++ [0]

/-- The snapshot's transfer opens. -/
def State.startSegRead (s : State) (m : DdpIn) (x : Msg) (value : Bytes) : State :=
  let ini := readInit (x.body.take 4) value m.port.val (x.session ≠ 0)
  let t : Transfer := { session := x.session, port := m.port.val, addr := m.addr, xid := x.xid, write := false, sub := u8 x.body 1
                        index := u16 x.body 2, total := value.length, segsize := segMax m.port.val (x.session ≠ 0), window := windowMax
                        initBody := ini, held := [], data := value, next := 0, limit := 0, granted := false, sent := 0, endSent := false
                        retries := 0, gapTimer := false, reserve := up4k value.length }
  (s.modNet fun n => { n with transfers := n.transfers ++ [t] }).sendFor t tySegInit 0 ini

/-- Bits of MAP that are set, as segment numbers after `next`. -/
def mapSegs (next : Nat) (b : Bytes) : List Nat := ((List.range 128).filter fun k => bits (u8 b (k / 8)) (k % 8) 1 = 1).map (next + 1 + ·)

/-- SEG_ACK from the partner (R321 to R323). One that resolves to no number, or names segments never sent, is ignored. -/
def State.segAck (s : State) (t : Transfer) (x : Msg) : State :=
  if t.write then s
  else if bits x.flags 0 1 = 1 then
    (if t.endSent then (s.dropTransfer t).remember t.session 0 [] [] else s)
  else if !t.granted && bits x.flags 1 1 = 0 then s
  else match resolveSeg t.next (u16 x.body 0) with
  | none => s
  | some next =>
    let segs := mapSegs next (field x.body 4 16)
    if next < t.next || t.sent < next || segs.any (t.sent ≤ ·) then s
    else
      let fresh := segs.filter fun n => !t.has n
      let t1 := { t with granted := true, held := (t.held.filter fun h => next ≤ h.1) ++ fresh.map fun n => (n, []), next, limit := next + min (u8 x.body 2) windowMax
                         retries := if t.next < next || !fresh.isEmpty then 0 else t.retries }
      let top := segs.getLastD next
      let lost := (List.range (top - next)).map (next + ·) |>.filter fun n => !t1.has n && n < t1.limit
      (s.sendSegs t1 lost).pump t1

/-! ## Timers (R321, R322) -/

def State.gapTimer (s : State) (t : Transfer) : State := if t.write && t.gapTimer then s.sendAck t else s

def retryMax : Nat := 9

/-- 500 ms pass (R322, R323). -/
def State.retransmit (s : State) (t : Transfer) : State :=
  let t1 := { t with retries := t.retries + 1 }
  let shown := t.count ≤ t.next
  let unshown := ((List.range (t.sent - t.next)).map (t.next + ·)).filter fun n => !t.has n && n < t.limit
  if t.write then (if t1.retries = retryMax then s.endTransfer t 0x05040000 else s.sendAck t1)
  else if t.granted && unshown.isEmpty && !(shown && t.endSent) then s
  else if t1.retries = retryMax then
    (if shown && t.endSent then s.dropTransfer t else s.endTransfer t 0x05040000)
  else if !t.granted then (s.putTransfer t1).sendFor t tySegInit 0 t.initBody
  else if shown then (s.putTransfer t1).sendSegEnd t
  else (s.putTransfer t1).sendSegs t unshown

/-! ## Requests (R306, R316 to R318) -/

/-- The gate of an entry that a sessionless NOP names (R306): an abort code, or 0. -/
def State.nopRefused (s : State) (idx sub : Nat) : Nat :=
  match (s.dictArea idx).bind fun a => a.entry sub with
  | some e => if e.rRole ≠ roleAny then 0x06010003 else 0
  | none => 0

/-- The abort code of a write outside a session: the checks of R318 with no role, and R306 where they all pass. -/
def State.writeOutRefused (s : State) (idx sub : Nat) (v : Bytes) : Nat :=
  let n := s.writeRefused ⟨0, 0⟩ idx sub v
  if n = 0 then 0x06010003 else n

/-- An answer to a request, in its session (and kept) or in none. -/
def State.reply (s : State) (m : DdpIn) (x : Msg) (typ : Nat) (body : Bytes) : State :=
  if x.session = 0 then s.sendPlain m.port.val m.addr typ 0 0 x.xid body
  else s.answer x.session x.xid (p8 x.typ ++ x.body) typ 0 body

def State.replyAbort (s : State) (m : DdpIn) (x : Msg) (code : Nat) : State := s.reply m x tyAbort (abortBody (x.body.take 4) code)

/-- READ: the value when it fits, or a segmented read (R316, R318). -/
def State.reqRead (s : State) (m : DdpIn) (x : Msg) : State :=
  let idx := u16 x.body 2
  let sub := u8 x.body 1
  let (code, value, s1) := s.dictGet ⟨x.session, 0⟩ idx sub
  if code ≠ 0 then s1.replyAbort m x code
  else if value.length ≤ reqMax m.port.val (x.session ≠ 0) then s1.reply m x tyRsp (x.body.take 4 ++ value)
  else
    let n := s.transferRefused x.session (up4k value.length)
    if n ≠ 0 then s.replyAbort m x n else s1.startSegRead m x value

/-- WRITE: checked, done, answered; what follows the answer follows (R318). -/
def State.reqWrite (s : State) (m : DdpIn) (x : Msg) : State :=
  let idx := u16 x.body 2
  let sub := u8 x.body 1
  if x.session = 0 then s.replyAbort m x (s.writeOutRefused idx sub (x.body.drop 4))
  else
    let w := s.dictPut ⟨x.session, 0⟩ idx sub (x.body.drop 4)
    if w.code ≠ 0 then w.state.replyAbort m x w.code else w.after (w.state.reply m x tyRsp (x.body.take 4))

/-- NOP; it asks nothing of the entry but, outside a session, its gate. -/
def State.reqNop (s : State) (m : DdpIn) (x : Msg) : State :=
  let g := if x.session = 0 then s.nopRefused (u16 x.body 2) (u8 x.body 1) else 0
  if g ≠ 0 then s.replyAbort m x g else s.reply m x tyRsp (x.body.take 4)

/-- An OP that no request has, or data with READ or NOP: malformed (R304). -/
def State.reqMalformed (s : State) (m : DdpIn) (x : Msg) : State :=
  if x.session = 0 then s else s.replyAbort m x 0x05030001

def State.reqOp (s : State) (m : DdpIn) (x : Msg) : State :=
  let op := u8 x.body 0
  if op = opWrite then s.reqWrite m x
  else if 4 < x.body.length then s.reqMalformed m x
  else if op = opRead then s.reqRead m x
  else if op = opNop then s.reqNop m x
  else s.reqMalformed m x

/-- A request in a session: a repetition is answered from R317; the XID of an open transfer serves only that transfer. -/
def State.reqIn (s : State) (m : DdpIn) (x : Msg) (y : Session) : State :=
  match s.transfer x.session m.port.val m.addr x.xid with
  | some t =>
    if !t.write && t.entry = x.body then s.sendFor t tySegInit 0 t.initBody else s.endTransfer t 0x05040001
  | none =>
    if y.lastXid = x.xid && y.lastBody = p8 x.typ ++ x.body then s.sayAgain x.session x.xid y else s.reqOp m x

/-- A sessionless request. -/
def State.reqOut (s : State) (m : DdpIn) (x : Msg) : State :=
  match s.transfer 0 m.port.val m.addr x.xid with
  | some t => if t.entry = x.body then s.sendFor t tySegInit 0 t.initBody else s.endTransfer t 0x05040001
  | none => s.reqOp m x

def State.request (s : State) (m : DdpIn) (x : Msg) : State :=
  if x.session = 0 then s.reqOut m x else s.inSession m x fun y t => t.reqIn m x y

end Sys2Proof.Machine
end

