-- ==== Sys2Proof/Machine/NetCommands.lean ====
section
/-! DEFINITION. The commands of the field networks and of the Duner dictionary protocol (chapter 10). -/
namespace Sys2Proof.Machine

/-! ## Frames (R298 to R303) -/

def State.modNetPort (s : State) (k : NetPort) (f : NetPortState → NetPortState) : State :=
  s.modNet fun n => { n with ports := updV n.ports k f }

def canPort (k : Fin 4) : NetPort := ⟨k.val, by omega⟩
def t1sPort (k : Fin 4) : NetPort := ⟨4 + k.val, by omega⟩

/-- Frames that a port buffers (R303). -/
def rxDepth (k : NetPort) : Nat := if k.val < 4 then 64 else 16

def State.rxDrop (s : State) (k : NetPort) : State := s.modNetPort k fun p => { p with rxdrop := p.rxdrop.inc }

/-- A frame waits until the controller takes it; one that finds the buffer full is dropped (R303). -/
def State.bufferFrame (s : State) (k : NetPort) (m : DdpIn) : State :=
  let p := s.net.ports.get k
  if p.rx.length < rxDepth k then s.modNetPort k fun q => { q with rx := q.rx ++ [m] }
  else
    let s1 := (s.rxDrop k).modNet fun n => { n with rxOverflows := satInc n.rxOverflows }
    if p.overflowLogged = some s.sec then s1
    else (s1.modNetPort k fun q => { q with overflowLogged := some s.sec }).raise 0x0A0C srcNET
      (p8 k.val ++ p32 (s1.net.ports.get k).rxdrop.count.toNat)

/-- The port's clock and its enable let it receive (R298, R453). -/
def State.receives (s : State) (k : NetPort) (f : State → State) : State :=
  if !s.netRuns k then s
  else if s.power = .p4 then s.netWake k
  else f (s.netWake k)

/-- A CAN frame: FUNC and SRC of its identifier, DST in byte 0 (R299, R300). -/
def State.canFrame (s : State) (k : NetPort) (f : CanFrame) : State :=
  let func := f.id.toNat / 0x80
  let src := f.id.toNat % 0x80
  let node := (s.net.ports.get k).cfg.node
  if (s.net.ports.get k).canState = 2 || !(func = 2 || func = 4 || func = 6) then s
  else if src = node then (s.rxDrop k).raise 0x0A09 srcNET (p8 k.val ++ addr8 (p8 src))
  else if src = 0 || f.data = [] || !(u8 f.data 0 = node || u8 f.data 0 = 0) || !f.fd then s.rxDrop k
  else s.bufferFrame k { port := k, addr := padTo 6 (p8 src), bytes := f.data.drop 1 }

def execCanFrameReceived (k : Fin 4) (f : CanFrame) (s : State) := done (s.receives (canPort k) fun t => t.canFrame (canPort k) f)

/-- EV 0x0A0B: port and status. -/
def State.plcaEvent (s : State) (k : NetPort) : State := s.raise 0x0A0B srcNET (p8 k.val ++ p32 (s.net.ports.get k).t1sStat)

/-- The port is the PLCA coordinator. -/
def NetPortState.coordinates (p : NetPortState) : Bool := p.cfg.enabled && p.cfg.node = 0

/-- A beacon that the coordinator did not send (R302). -/
def State.beaconHeard (s : State) (k : NetPort) : State :=
  if (s.net.ports.get k).coordinates then (s.modNetPort k fun p => { p with dupCoord := true }).plcaEvent k else s

/-- A T1S frame (Table 10.2). -/
def State.t1sFrame (s : State) (k : NetPort) (f : T1sFrame) : State :=
  if f.foreignBeacon then s.beaconHeard k
  else if !f.fcsOk then s.modNetPort k fun p => { p with fcserr := p.fcserr.inc }
  else if f.etherType = 0x88B5 && (f.dst = (s.net.ports.get k).cfg.mac || f.dst = groupAddr 4) && 46 ≤ f.payload.length && f.payload.length ≤ 1500 then
    s.bufferFrame k { port := k, addr := padTo 6 f.src, bytes := f.payload }
  else s

def execT1sFrameReceived (k : Fin 4) (f : T1sFrame) (s : State) := done (s.receives (t1sPort k) fun t => t.t1sFrame (t1sPort k) f)

def canErrCode : CanErrState → Nat
  | .active => 0 | .passive => 1 | .busOff => 2

/-- Fault confinement (R298); EV 0x0A0A when the state changes. -/
def State.canErr (s : State) (k : NetPort) (st : Nat) (tec rec_ : Byte) : State :=
  if !s.netRuns k then s
  else
    let was := (s.net.ports.get k).canState.toNat
    (s.modNetPort k fun p => { p with canState := BitVec.ofNat 2 st, tec := tec, rec_ := rec_ }).raiseIf (was ≠ st) 0x0A0A srcNET
      (p8 k.val ++ p8 st ++ p32 tec.toNat ++ p32 rec_.toNat)

def execCanErrorStateChange (k : Fin 4) (st : CanErrState) (tec rec_ : Byte) (s : State) := done (s.canErr (canPort k) (canErrCode st) tec rec_)

/-- Beacons come or go; a coordinator sends its own (R301, R302). -/
def State.plcaChange (s : State) (k : NetPort) (ok foreign : Bool) : State :=
  let p := s.net.ports.get k
  if !s.netRuns k || p.cfg.node = 255 then s
  else
    let ok' := ok || p.coordinates
    let s1 := if p.beaconOk = ok' then s else (s.modNetPort k fun q => { q with beaconOk := ok' }).plcaEvent k
    if foreign then s1.beaconHeard k else s1

def execPlcaStatusChange (k : Fin 4) (ok foreign : Bool) (s : State) := done (s.plcaChange (t1sPort k) ok foreign)

/-! ## Roll call (R307, R308) -/

/-- A ROLLCALL: the entry takes what it says; on CAN, one that contradicts an answer of the same interval shows a duplicate. -/
def State.rollcall (s : State) (m : DdpIn) (x : Msg) : State :=
  let boot := BitVec.ofNat 32 (u32 x.body 4)
  let uid := field x.body 8 16
  let dup := m.port.val < 4 && (s.partner m.port.val m.addr).elim false fun p => p.answeredNow && (p.unitId ≠ uid || p.boot ≠ boot)
  let answer := x.flags % 2 = 0
  (s.modPartner m.port.val m.addr fun p => { p with
    kind := u8 x.body 0, caps := u8 x.body 1, boot := boot, unitId := uid, duplicate := p.duplicate || dup
    answered := p.answered || answer, answeredNow := p.answeredNow || answer }).raiseIf dup 0x0A09 srcNET (p8 m.port.val ++ addr8 m.addr)

def execRollcall (m : DdpIn) (s : State) := done (s.ddpTake m tyRollcall fun x t => if x.session = 0 then t.rollcall m x else t)

def missMax : Nat := 3

/-- A partner silent for three intervals leaves the table, and its sessions close (R308). -/
def State.dropPartner (s : State) (p : Partner) : State :=
  let s1 := s.closeWhere (fun y => y.open_ && y.port = p.port && y.addr = p.addr) 3 true
  (s1.modNet fun n => { n with partners := n.partners.filter fun q => q.index ≠ p.index }).raise 0x0A07 srcNET
    (p8 p.index ++ p8 p.port ++ addr8 p.addr)

/-- A Roll call interval ends and the next begins. -/
def State.rollcallInterval (s : State) : State :=
  if !s.dictServed || s.power = .p4 then s
  else
    let gone := s.net.partners.filter fun p => !p.heardNow && missMax ≤ p.misses + 1
    let s1 := gone.foldl State.dropPartner s
    (s1.modNet fun n => { n with partners := n.partners.map fun p => { p with
      misses := if p.heardNow then 0 else p.misses + 1, heardNow := false, answered := false, answeredNow := false } }).sendRollcalls

def execRollcallInterval (s : State) := done s.rollcallInterval

/-! ## Sessions -/

def execOpenReq (m : DdpIn) (s : State) := done (s.ddpTake m tyOpenReq fun x t => if x.session = 0 then t.openReq m x else t)
def execOpenProof (m : DdpIn) (s : State) := done (s.ddpTake m tyOpenProof fun x t => if x.session = 0 then t else t.openProof m x)
def execClose (m : DdpIn) (s : State) := done (s.ddpTake m tyClose fun x t => if x.session = 0 then t else t.closeFrom m x)

def halfOpenTime : Nat := 2 * second

/-- 2 s pass in a half-open session (Table 10.8). -/
def State.halfOpenEnd (s : State) (k : Nat) : State :=
  match s.session k with
  | some y => if !y.open_ && y.lastHeard + halfOpenTime ≤ s.timeBase.toNat then s.closeSession k causeHalfOpen false else s
  | none => s
def execHalfOpenTimeout (k : Nat) (s : State) := done (s.halfOpenEnd k)

/-- IDLE_S pass without an accepted message (Table 10.8). -/
def State.idleEnd (s : State) (k : Nat) : State :=
  match s.session k with
  | some y => if y.open_ && y.lastHeard + s.net.idleS * second ≤ s.timeBase.toNat then s.closeSession k 2 true else s
  | none => s
def execSessionIdleTimeout (k : Nat) (s : State) := done (s.idleEnd k)

/-- A lockout ends (R314). -/
def execLockoutExpiry (p : NetPort) (addr : Bytes) (s : State) :=
  done (s.modNet fun n => { n with lockouts := n.lockouts.filter fun l => !(l.1 = p.val && l.2.1 = addr && l.2.2 ≤ s.timeBase.toNat) })

/-! ## Requests and transfers -/

/-- The command takes the message if its OP is its own; one that is malformed goes the way of R304. -/
def State.takeReq (s : State) (m : DdpIn) (own : Nat → Bool) : State :=
  match Msg.parse m.port m.bytes with
  | some x => if own (u8 x.body 0) then s.ddpTake m tyReq fun y t => t.request m y else s
  | none => s.ddpTake m tyReq fun _ t => t

def execReqRead (m : DdpIn) (s : State) := done (s.takeReq m fun op => op = opRead)
def execReqWrite (m : DdpIn) (s : State) := done (s.takeReq m fun op => op = opWrite)
/-- NOP, and a request whose OP is none of the three. -/
def execReqNop (m : DdpIn) (s : State) := done (s.takeReq m fun op => op ≠ opRead && op ≠ opWrite)

/-- A SEG_INIT outside a session is a write, and refused (R306). -/
def State.segInitOut (s : State) (m : DdpIn) (x : Msg) : State :=
  s.sendPlain m.port.val m.addr tyAbort 0 0 x.xid (abortBody (x.body.take 4) (s.writeOutRefused (u16 x.body 2) (u8 x.body 1) []))

def execSegInit (m : DdpIn) (s : State) :=
  done (s.ddpTake m tySegInit fun x t => if x.session = 0 then t.segInitOut m x else t.inSession m x fun _ u => u.segInit m x)
/-- Segments come in sessions only (R306). -/
def execSegData (m : DdpIn) (s : State) :=
  done (s.ddpTake m tySegData fun x t => if x.session = 0 then t else t.inSession m x fun _ u => u.segData m x)
def execSegEnd (m : DdpIn) (s : State) :=
  done (s.ddpTake m tySegEnd fun x t => if x.session = 0 then t else t.inSession m x fun y u => u.segEnd m x y)

def State.ackFrom (s : State) (m : DdpIn) (x : Msg) : State :=
  (s.transfer x.session m.port.val m.addr x.xid).elim s fun t => s.segAck t x
/-- SEG_ACK for a segmented read, in a session or sessionless. -/
def execSegAck (m : DdpIn) (s : State) :=
  done (s.ddpTake m tySegAck fun x t => if x.session = 0 then t.ackFrom m x else t.inSession m x fun _ u => u.ackFrom m x)

def State.abortFrom (s : State) (m : DdpIn) (x : Msg) : State :=
  (s.transfer x.session m.port.val m.addr x.xid).elim s fun t => s.dropTransfer t
/-- ABORT from the partner: nothing is committed (R324). -/
def execAbort (m : DdpIn) (s : State) :=
  done (s.ddpTake m tyAbort fun x t => if x.session = 0 then t.abortFrom m x else t.inSession m x fun _ u => u.abortFrom m x)

/-- A timer of an open transfer, while the controller serves. -/
def State.onTransfer (s : State) (key : XferKey) (f : State → Transfer → State) : State :=
  if !s.serves key.port then s else (s.transfer key.session key.port.val key.addr key.xid).elim s (f s)
def execGapAckTimer (t : XferKey) (s : State) := done (s.onTransfer t State.gapTimer)
def execTransferRetransmitTimer (t : XferKey) (s : State) := done (s.onTransfer t State.retransmit)

/-! ## Communication parameters (R331) -/

def execApplyTakeEffect (s : State) := done (if s.net.applyDue && s.net.applyAt ≤ s.timeBase.toNat && s.fwRuns then s.applyNow else s)
def execApplyValidationTimeout (s : State) :=
  done (if s.net.applyOld.isSome && s.net.applyAt ≤ s.timeBase.toNat && s.fwRuns then s.applyRevert else s)

end Sys2Proof.Machine
end

