-- ==== Sys2Proof/Machine/ResetCommands.lean ====
section
/-! DEFINITION. The commands of resets, start-up, watchdogs and clocks (chapters 16 and 17), and the power-up steps of the Registrar
that the cold path contains (R156). -/
namespace Sys2Proof.Machine

/-! ## Resets (R459, R471, R472) -/

def execPowerOnReset (burnt : List Word) (s : State) := done (s.hardReset rcPor burnt)
def execBrownOutVdd (burnt : List Word) (s : State) := done (s.hardReset rcBorVdd burnt)
def execBrownOutVddio (burnt : List Word) (s : State) := done (s.hardReset rcBorVddio burnt)
def execPorstPin (s : State) := done (s.softReset rcPin)

/-- PLL_CORE, PLL_CH or REF. -/
def execClockFailure (cause : Fin 3) (s : State) := done (s.softReset (rcPllCore + cause.val))

/-- The group's words as they read back (R426). -/
def execFuseWriteDone (a b c d : Word) (s : State) := done (s.fuseDone [a, b, c, d])

def execRomColdStart (c : ColdStart) (s : State) := done (s.romCold c)

/-! ## The Registrar's power-up steps (R156) -/

/-- Steps 1 to 5 of R156 and the epochs of R133; `torn` are the pages that fail their CRC in step 5. -/
def State.registrarSteps (s : State) (torn : List TornPage) : State :=
  let s1 := s.modPlc fun p => { p with
    wseq := p.wseqFloor, relocs := [], queued := [], refreshes := []
    registry := { p.registry with ckptRunning := false }
    extents := p.extents.map fun es => es.map Extent.unmove
    xepoch := p.xepoch.map (· + 1)
    discard := 0 }
  let s2 := s1.modPlc fun p => { p with
    shadows := p.shadows.filter fun x => x.committed || (if hh : x.host < 24 then s.syllabusTrial ⟨x.host, hh⟩ else false) }
  let s3 := forEach all24 (fun h st => st.setExtents h ((st.extents h).map fun x => { x with journal := st.wantsJournal x })) s2
  torn.foldl State.repairTorn s3

/-- The rest of the cold path follows the steps (R442, R87). -/
def State.registrarPowerUp (s : State) (torn : List TornPage) : State :=
  if s.plc.scanning && s.fwRuns then (s.registrarSteps torn).fwRise else s
def execRegistrarPowerUp (torn : List TornPage) (s : State) := done (s.registrarPowerUp torn)

/-- Step 6: SCANNING clears. -/
def State.scanComplete (s : State) : State :=
  if s.plc.scanning && s.fwRuns then ((s.modPlc fun p => { p with scanning := false }).checkSteady).selfTestAfterScan else s
def execScanComplete (s : State) := done s.scanComplete

/-! ## Warm restarts and watchdogs (R446, R447, R452 to R454) -/

/-- SYS_RESTART with its key and WARM; a second write is ignored while INROM = 1. -/
def State.restartWrite (s : State) (roll : Bool) : State := if s.sys.inRom then s else s.warmRestart kRequested roll
def execSysRestartWarm (roll : Bool) (s : State) := done (s.restartWrite roll)

/-- READY: services and sweep deadlines resume (R453). -/
def State.restartReady (s : State) : State :=
  if s.sys.inRom || !s.restarting then s
  else forEach all24 (fun h st => st.modImg h fun i => { i with deadlinePaused := false }) { s with restarting := false }
def execSysRestartReady (s : State) := done s.restartReady

/-- SYS_WDT: TIMEOUT_MS is taken while EN = 0, EN sets and KICK restarts the count. -/
def State.wdtWrite (s : State) (v : Word) : State :=
  let t := v.setWidth 16
  let s1 := if s.sys.wdtEn || t = 0 then s else s.modSys fun y => { y with wdtMs := t }
  s1.modSys fun y =>
    if (v.getLsbD 16 && !y.wdtEn) || v.getLsbD 17 then { y with wdtEn := y.wdtEn || v.getLsbD 16, wdtKicked := s.timeBase.toNat } else y

/-- A write with EN = 1. -/
def execWdtEnable (v : Word) (s : State) := done (s.wdtWrite (v ||| 0x10000))
def execWdtKick (s : State) := done (s.wdtWrite 0x20000)

def State.wdtExpiry (s : State) : State :=
  if s.sys.wdtEn && !s.sys.inRom && s.sys.wdtKicked + s.sys.wdtMs.toNat * 1000 ≤ s.timeBase.toNat then
    (s.raise 0x0B07 srcSYS (p8 2)).warmRestart kLiveness false
  else s
def execWdtExpiry (s : State) := done s.wdtExpiry

/-- The confirmation watchdog expires; during the ROM's run it waits for the hand-over (R454). -/
def State.cwdtExpiry (s : State) : State :=
  if !s.sys.inRom && s.sys.cwdt.elim false fun t => t ≤ s.timeBase.toNat then
    ((s.raise 0x0B07 srcSYS (p8 3)).modSys fun y => { y with cwdt := none }).warmRestart kConfirm false
  else s
def execCwdtExpiry (s : State) := done s.cwdtExpiry

/-- SYS_CWDT_OFF with its key disarms. -/
def State.cwdtOff (s : State) (v : Word) : State := if v = 0x434F4E46 then s.modSys fun y => { y with cwdt := none } else s
def execCwdtOff (v : Word) (s : State) := done (s.cwdtOff v)

/-! ## Recovery (R450) -/

def sysBase : Nat := 0x40000000
def execSysRload (m : Master) (v : Word) (s : State) := done (s.busWrite m (sysBase + 0x18) fun t => t.sysRload m (v.toNat % 2 ^ 24))

/-! ## Clocks (R459 to R461, R476) -/

/-- PLL_NET loses lock: every NETk domain stops. -/
def State.netPllLost (s : State) : State :=
  if !s.clk.netLock then s
  else
    let s1 := { s with clk := { s.clk with netLock := false, netLoss := s.clk.netLoss.inc } }
    (s1.modNet fun n => { n with ports := n.ports.map fun (p : NetPortState) => { p with stale := true } }).raise 0x0C02 srcFW
      (p8 0 ++ p32 s1.clk.netLoss.word.toNat)
def execPllNetLoss (s : State) := done s.netPllLost

/-- CLK_NETPLL.RELOCK restarts PLL_NET. -/
def State.netPllRelock (s : State) : State := { s with clk := { s.clk with netLock := false } }
def execClkNetpllRelock (s : State) := done s.netPllRelock

def State.netPllLocked (s : State) : State :=
  if s.clk.netLock || s.power = .p4 then s
  else ({ s with clk := { s.clk with netLock := true } }).raise 0x0C02 srcFW (p8 1 ++ p32 s.clk.netLoss.word.toNat)
def execPllNetRelocked (s : State) := done s.netPllLocked

/-- The crystal fails; P4 is barred until power-on. -/
def State.x32Fails (s : State) : State :=
  if s.clk.x32Fail || !s.clk.x32Ok then s
  else ({ s with clk := { s.clk with x32Fail := true, x32Ok := false } }).raise 0x0C05 srcFW []
def execX32Fail (s : State) := done s.x32Fails

/-- X32 edges first appear after power-on. -/
def execX32Ok (s : State) := done (if s.clk.x32Fail then s else { s with clk := { s.clk with x32Ok := true } })

/-- CLK_UTC_SET_HI: UTC takes both words at once. -/
def State.utcCommit (s : State) (v : Word) : State :=
  let x : DWord := v ++ s.clk.utcSetLo
  { s with utc := if x = BitVec.allOnes 64 then none else some x }
def execClkUtcSet (v : Word) (s : State) := done (s.utcCommit v)

/-- The firmware saves the floor every 60 s. -/
def execTimeBaseFloorSave (s : State) := done (if s.fwRuns then s.saveFloor else s)

end Sys2Proof.Machine
end

