-- ==== Sys2Proof/Machine/SidebandCommands.lean ====
section
/-! DEFINITION. The host control sidebands, the tamper inputs and the NV store controller's writes (R352, R353, R503, R508, R509). -/
namespace Sys2Proof.Machine

/-! ## HCS (Table 19.7) -/

/-- Bits of the old and new value that fall. -/
def falls (old new : BitVec 24) : BitVec 24 := old &&& ~~~ new

/-- HCn_RST_N falls for the hosts of a mask. -/
def State.resetHosts (s : State) (m : BitVec 24) : State := forEach (hostsIn m) (fun h st => st.hostReset h) s

def State.pwrenWrite (s : State) (v : BitVec 24) : State :=
  let new := v &&& s.maskBits
  let off := falls s.hcs.pwren new
  ({ s with hcs := { s.hcs with pwren := new, run := s.hcs.run &&& ~~~ off, egr := s.hcs.egr &&& ~~~ off, pend := s.hcs.pend ||| off } }).resetHosts
    (s.hcs.run &&& off)

def State.runWrite (s : State) (v : BitVec 24) : State :=
  let new := v &&& s.maskBits &&& (s.hcs.run ||| (s.hcs.pwren &&& ~~~ s.hcs.pend))
  let off := falls s.hcs.run new
  ({ s with hcs := { s.hcs with run := new, egr := s.hcs.egr &&& ~~~ off } }).resetHosts off

def State.egrWrite (s : State) (v : BitVec 24) : State :=
  { s with hcs := { s.hcs with egr := v &&& s.maskBits &&& (s.hcs.egr ||| s.hcs.run) } }

/-- HCS_PWREN, HCS_RUN and HCS_EGR, written by the management processor. -/
def execHcsPwrenWrite (v : Word) (s : State) := done (s.pwrenWrite (v.setWidth 24))
def execHcsRunWrite (v : Word) (s : State) := done (s.runWrite (v.setWidth 24))
def execHcsEgrWrite (v : Word) (s : State) := done (s.egrWrite (v.setWidth 24))

/-- The millisecond of HCS_PEND ends; HCn_PWREN follows HCS_PWREN from then on. -/
def execHcsPendExpiry (h : Host24) (s : State) := done { s with hcs := { s.hcs with pend := BitVec24.put s.hcs.pend h false } }

/-! ## Tamper inputs (R508, R509) -/

/-- The inputs change their level or their configuration: a change of active state is logged, latched and wakes (R508). -/
def State.tamperSet (s : State) (t : Tmp) : State :=
  let old := s.tmp.active
  let changed := (List.range 8).filter fun k => old k ≠ t.active k
  let s1 := { s with tmp := { t with latch := t.latch ||| BitVec.ofNat 8 (maskOf 8 fun k => t.active k && !old k) } }
  changed.foldl (fun st k =>
    let st1 := st.raise (if t.active k then 0x1001 else 0x1002) srcFW (p8 k ++ p64 s.timeBase.toNat)
    if st1.power = .p3 || st1.power = .p4 then st1.wake wkTamper k else st1) s1

/-- The debounced level of input k changes. -/
def State.tamperLevel (s : State) (k : Fin 8) (high : Bool) : State :=
  let b := BitVec.ofNat 8 (2 ^ k.val)
  s.tamperSet { s.tmp with level := if high then s.tmp.level ||| b else s.tmp.level &&& ~~~ b }
def execTamperChange (k : Fin 8) (high : Bool) (s : State) := done (s.tamperLevel k high)

/-- TMP_CFG: ignored unless a provisioning session is open. -/
def State.tmpCfgWrite (s : State) (v : Word) : State := if s.dbg.prov then s.tamperSet { s.tmp with cfg := v } else s
def tmpBase : Nat := 0x40600000
def execTmpCfgWrite (m : Master) (v : Word) (s : State) := done (s.busWrite m tmpBase fun t => t.tmpCfgWrite v)

/-! ## NV word writes (R352, R474) -/

/-- NVC_CMD.WRITE: REJECT while a write is in progress; below VDD_WARN the write waits. -/
def State.nvcWrite (s : State) : State :=
  match s.nvc.write with
  | some _ => { s with nvc := { s.nvc with reject := true } }
  | none => { s with nvc := { s.nvc with write := some { offset := s.nvc.addr.toNat / 4 * 4, value := s.nvc.wdata, held := s.vddWarn } } }
def execNvcWrite (s : State) := done s.nvcWrite

/-- The word takes the new value whole, or keeps the old one with VFAIL when the read-back fails. -/
def State.nvWordDone (s : State) (ok : Bool) : State :=
  match s.nvc.write with
  | none => s
  | some w =>
    if w.held then s
    else
      { s with
        nv := if ok then s.nv.writeN 0 (nvBase + w.offset) (p32 w.value.toNat) else s.nv
        nvc := { s.nvc with write := none, vfail := s.nvc.vfail || !ok } }
def execNvWordWriteDone (ok : Bool) (s : State) := done (s.nvWordDone ok)

/-- VDD falls below VDD_WARN: no new word write starts (R474). -/
def execVddWarn (s : State) := done { s with vddWarn := true }

/-- VDD is present again: a word write that was held starts (R520). -/
def execVddWarnClear (s : State) :=
  done { s with vddWarn := false, nvc := { s.nvc with write := s.nvc.write.map fun w => { w with held := false } } }

end Sys2Proof.Machine
end

