-- ==== Sys2Proof/Machine/UpdateCommands.lean ====
section
/-! DEFINITION. The commands of the update engine that time, conditions and the patch engine bring (R233, R234, R242 to R256). -/
namespace Sys2Proof.Machine

/-- The wait of R244 is judged; activation once every condition holds (R245). -/
def execActivation (s : State) := done s.tryActivate

/-- ACT_WAIT_S passes (R244). -/
def execActWaitTimeout (s : State) := done s.actTimeout

/-- The Trial deadline passes (R247). -/
def execTrialDeadline (s : State) := done s.trialDeadline

/-- The conditions of R249 are judged, and R250 follows. -/
def execConfirmation (s : State) := done s.tryConfirm

/-- PAT_CMD.START (R233). -/
def execPatStart (s : State) := done s.patStart

/-- PAT_CMD.ABORT (R234). -/
def execPatAbort (s : State) := done s.patAbort

/-- The build ends (R233). -/
def execPatDone (pages : Nat) (writeErr : Bool) (s : State) := done (s.patDone pages writeErr)

end Sys2Proof.Machine
end

