-- ==== Sys2Proof/Machine/RegWrite.lean ====
section
/-! DEFINITION. Reads and writes of the registers of the internal map by address (R8, R9, R402 to R410, R469), and the commands
WRITE_REGISTER and DBGMEM. -/
namespace Sys2Proof.Machine

/-! ## Reads -/

/-- Host ports and channels: a block of 4 KiB each; those of a fused port read 0 (R2, R125). -/
def State.portWord (s : State) (a : Nat) (f : Host24 → Nat → Nat) : Nat :=
  if h : a / 0x1000 < 24 then (if s.fused (a / 0x1000) then 0 else f ⟨a / 0x1000, h⟩ (a % 0x1000)) else 0

/-- The value of a register, apart from RS words and RNG_RAW. -/
def State.regWord (s : State) (m : Master) (a : Nat) : Nat :=
  let o := a % 0x10000
  if 0x40100000 ≤ a ∧ a < 0x40118000 then s.portWord (a - 0x40100000) s.hpcWord
  else if 0x40200000 ≤ a ∧ a < 0x40218000 then s.portWord (a - 0x40200000) s.fccWord
  else match a / 0x10000 with
  | 0x4000 => s.sysWord o
  | 0x4001 => s.clkWord o
  | 0x4002 => s.pwrWord o s.holdWord
  | 0x4003 => s.lccWord o
  | 0x4004 => s.gateWord o
  | 0x4005 => s.evlWord o
  | 0x4006 => s.keyWord o
  | 0x4007 => s.ctrWord o
  | 0x4008 => s.rngWord o
  | 0x4009 => s.dgcWord m o
  | 0x400A => s.sigWord o
  | 0x400B => s.arcWord o
  | 0x400C => s.patWord o
  | 0x400D => s.plcWord o
  | 0x400E => s.nvcWord o
  | 0x4030 => s.ttbWord o
  | 0x4040 => s.netWord o
  | 0x4050 => s.hcsWord o
  | 0x4060 => s.tmpWord o
  | 0x4070 => s.dbgRegRead o
  | _ => 0

/-- The RS words that a read of a low word latches, with the values they take (R469). -/
def State.rsWords (s : State) (a : Nat) : List (Nat × Nat) :=
  let o := a % 0x10000
  let hi := fun (v : Nat) => [(a + 4, hi32 v)]
  if 0x40100000 ≤ a ∧ a < 0x40118000 then
    (if a % 0x1000 = 0x20 then [(a + 4, s.portWord (a - 0x40100000) fun h _ => hi32 (s.plc.xepoch.get h).toNat)] else [])
  else match a / 0x10000 with
  | 0x4001 => if o = 0x08 then hi s.timeBase.toNat else if o = 0x10 then hi s.utcField else []
  | 0x4002 => if o = 0x20 then hi s.pwr.spent.toNat else if o = 0x28 then hi s.pwr.exempt.toNat else if o = 0x30 then hi s.pwr.hbytes.toNat else []
  | 0x4004 => if hg : o / 0x400 < 22 then (if o % 0x400 = 0x0C then hi (s.gates.get ⟨o / 0x400, hg⟩).firstTime.toNat else []) else []
  | 0x4005 => if o = 0x04 then hi s.evl.newest else if o = 0x0C then hi s.evl.oldest else []
  | 0x4006 => if o = 0x00 then hi s.liveBits else if o = 0x08 then hi s.revokedBits else []
  | 0x4009 =>
    if 0x1000 ≤ o ∧ o < 0x3000 then (if o % 0x80 = 0x08 then hi (s.resSet ((o - 0x1000) / 0x80)).count.toNat else [])
    else if o = 0x20 then hi s.doneBits else []
  | 0x400B => if o = 0x04 then hi s.arc.next.toNat ++ (List.range 8).map fun k => (a + 0x1C + 4 * k, u32 s.arc.chain (4 * k)) else []
  | 0x400C => if o = 0x0C then hi s.upd.pat.out.toNat else []
  | 0x400D => if o = 0x10 then hi s.plc.wseq.toNat else []
  | _ => []

/-- The register is one that a low word latches. -/
def isRsWord (a : Nat) : Bool :=
  let o := a % 0x10000
  if 0x40100000 ≤ a ∧ a < 0x40118000 then a % 0x1000 = 0x24
  else match a / 0x10000 with
  | 0x4001 => o = 0x0C || o = 0x14
  | 0x4002 => o = 0x24 || o = 0x2C || o = 0x34
  | 0x4004 => o / 0x400 < 22 && o % 0x400 = 0x10
  | 0x4005 => o = 0x08 || o = 0x10
  | 0x4006 => o = 0x04 || o = 0x0C
  | 0x4009 => if 0x1000 ≤ o ∧ o < 0x3000 then o % 0x80 = 0x0C else o = 0x24
  | 0x400B => o = 0x08 || (0x20 ≤ o && o < 0x40)
  | 0x400C => o = 0x10
  | 0x400D => o = 0x14
  | _ => false

/-- A master's own latch of an RS word, 0 where it has not read the low word since reset (R469). -/
def State.latched (s : State) (id a : Nat) : Nat := (s.latches.find? fun x => x.1 = (id, a)).elim 0 fun x => x.2.toNat

def State.latch (s : State) (id : Nat) (ws : List (Nat × Nat)) : State :=
  { s with latches := ws.map (fun w => ((id, w.1), BitVec.ofNat 32 w.2)) ++
      s.latches.filter fun x => !(x.1.1 = id && ws.any fun w => w.1 = x.1.2) }

def rngRawAddr : Nat := 0x40080018

/-- RNG_RAW: 32 fresh samples in the Maker state (R394). -/
def State.rngRaw (s : State) : Nat × State :=
  if s.lcc.state = .maker then (((Config.freeWord s.free).setWidth 32 : Word).toNat, { s with free := s.free + 1 }) else (0, s)

/-- A master's read of a register that its gate lets through. -/
def State.regRead (s : State) (m : Master) (a : Nat) : Nat × State :=
  if a = rngRawAddr then s.rngRaw
  else if isRsWord a then (s.latched (masterId m) a, s)
  else (s.regWord m a, s.latch (masterId m) (s.rsWords a))

/-! ## Writes, block by block; an offset without a writable field ignores the write -/

/-- HPC (Table 2.11). -/
def State.hpcWrite (s : State) (h : Host24) (o : Nat) (v : Word) : State :=
  match o with
  | 0x04 => s.statClear h v
  | 0x0C => s.modPort h fun p => { p with torn := p.torn.w1c v }
  | 0x14 => s.modPort h fun p => { p with ign := p.ign.w1c v }
  | 0x18 => s.modPort h fun p => { p with crc := p.crc.w1c v }
  | _ => s

/-- TTB (Table 3.9). -/
def State.ttbWrite (s : State) (o : Nat) (v : Word) : State :=
  match o with
  | 0x04 => s.ttbReadyWrite v
  | 0x08 => s.ttbCommit v
  | 0x10 => { s with ttb := { s.ttb with refused := s.ttb.refused && !v.getLsbD 0, pendLong := s.ttb.pendLong && !v.getLsbD 1 } }
  | 0x14 => { s with ttb := { s.ttb with pendTmo := v.setWidth 16 } }
  | _ => s

/-- The registers of one select (Table 4.10). -/
def Select.regWrite (x : Select) (o : Nat) (v : Word) : Select :=
  match o with
  | 0x00 => { x with cls := v.setWidth 2, mode := (v >>> 2).setWidth 3, addr4 := v.getLsbD 5, div := (v >>> 6).setWidth 4, dummy := (v >>> 10).setWidth 6 }
  | 0x04 => { x with lead := v.setWidth 8, trail := (v >>> 8).setWidth 8, idle := (v >>> 16).setWidth 8 }
  | 0x0C => { x with crcCnt := x.crcCnt.w1c v }
  | 0x10 => { x with eccCnt := x.eccCnt.w1c v }
  | 0x14 => { x with tmoCnt := x.tmoCnt.w1c v }
  | _ => x

/-- FCC (Table 4.10). -/
def State.fccWrite (s : State) (c : Chan) (o : Nat) (v : Word) : State :=
  if h : 0x20 ≤ o ∧ (o - 0x20) / 0x20 < 4 then s.modSel c ⟨(o - 0x20) / 0x20, h.2⟩ fun x => x.regWrite ((o - 0x20) % 0x20) v
  else match o with
  | 0x00 => s.modChan c fun x => { x with en := v.getLsbD 0, rdyEn := v.getLsbD 1 }
  | 0x04 => s.modChan c fun x => { x with stat := x.stat &&& ~~~(v.setWidth 7) }
  | 0x08 => s.modChan c fun x => { x with rdyTmo := v.setWidth 20 }
  | 0x0C => s.modChan c fun x => { x with poll := v.setWidth 16 }
  | 0x10 => s.bellReadyWrite c (v.getLsbD 1)
  | 0x100 => if c.val = 0 then s.bellCommit (v.setWidth 24) else s
  | _ => s

/-- DGC (Table 7.7). -/
def State.dgcWrite (s : State) (m : Master) (o : Nat) (v : Word) : State :=
  if 0x1000 ≤ o ∧ o < 0x3000 then
    let k := (o - 0x1000) / 0x80
    match o % 0x80 with
    | 0x50 => s.feedWord k m v
    | 0x54 => s.lastWord k m (v.toNat % 4)
    | _ => s
  else match o with
  | 0x00 => { s with dgc := { s.dgc with reserve := v.setWidth 4, stallMs := (v >>> 16).setWidth 16 } }
  | 0x0C => s.submitJob m v.toNat
  | 0x14 => s.releaseSet (v.toNat % 64) m
  | 0x18 => s.abortJob (v.toNat % 64) m
  | 0x28 => { s with dgc := { s.dgc with busyCnt := s.dgc.busyCnt.w1c v } }
  | 0x2C => { s with dgc := { s.dgc with shortCnt := s.dgc.shortCnt.w1c v } }
  | _ => s

/-- The SIG_V registers of a verification (Table 7.14). -/
def SigV.regWrite (x : SigV) (o : Nat) (v : Word) : SigV :=
  match o with
  | 0x000 => { x with maxCores := v.setWidth 5 }
  | 0x008 => { x with slot := v.setWidth 6, cls := (v >>> 16).setWidth 16 }
  | 0x00C => { x with src := v.setWidth 2, host := (v >>> 4).setWidth 5 }
  | 0x010 => { x with msgAddr := v }
  | 0x014 => { x with msgLen := v }
  | 0x018 => { x with sigAddr := v }
  | 0x01C => { x with sigLen := v.setWidth 15 }
  | _ => x

/-- A write of another SIG_V register while BUSY meets a bus error (R222). -/
def sigVBlocked (o : Nat) : Bool := 0x008 ≤ o && o < 0x028

/-- SIG and identity signing (Tables 7.14 and 9.12). START is taken before ABORT, which ends the verification just started. -/
def State.sigWrite (s : State) (m : Master) (o : Nat) (v : Word) : State :=
  if o = 0x004 then
    let s1 := if v.getLsbD 0 && !s.sig.busy then s.sigStart else s
    if v.getLsbD 1 then s1.sigAbort else s1
  else if o < 0x100 then (if s.sig.busy && sigVBlocked o then s.stickyIf m else { s with sig := s.sig.regWrite o v })
  else match o with
  | 0x100 => if v.getLsbD 0 then s.signStart else s
  | 0x104 => { s with signer := { s.signer with msgAddr := v } }
  | 0x108 => { s with signer := { s.signer with msgLen := v.setWidth 15 } }
  | 0x10C => { s with signer := { s.signer with outAddr := v } }
  | _ => s

/-- PAT (Table 8.7); PAT_JOB keeps the job of a running build. -/
def State.patWrite (s : State) (o : Nat) (v : Word) : State :=
  match o with
  | 0x00 =>
    let s1 := if v.getLsbD 0 then s.patStart else s
    if v.getLsbD 1 then s1.patAbort else s1
  | 0x08 =>
    if s.upd.pat.busy then s
    else { s with upd := { s.upd with pat := { s.upd.pat with host := v.setWidth 5, item := (v >>> 6).setWidth 6, slot := (v >>> 12).setWidth 2 } } }
  | _ => s

/-- ARC (Table 9.12): ARC_REFCNT alone has a field to write. -/
def State.arcWrite (s : State) (o : Nat) (v : Word) : State :=
  if o = 0x1C then { s with arc := { s.arc with refcnt := s.arc.refcnt.w1c v } } else s

/-- NET (Table 10.14). -/
def State.netWrite (s : State) (o : Nat) (v : Word) : State :=
  let p := fun (k : Nat) (f : NetPortState → NetPortState) => if h : k < 8 then s.modNetPort ⟨k, h⟩ f else s
  if 0x100 ≤ o ∧ o < 0x200 then
    match o % 0x40 with
    | 0 => p ((o - 0x100) / 0x40) fun x => { x with wake := x.wake && !v.getLsbD 4 }
    | 8 => p ((o - 0x100) / 0x40) fun x => { x with rxdrop := x.rxdrop.w1c v }
    | _ => s
  else if 0x200 ≤ o ∧ o < 0x300 then
    match o % 0x40 with
    | 0 => p (4 + (o - 0x200) / 0x40) fun x => { x with dupCoord := x.dupCoord && !v.getLsbD 4, wake := x.wake && !v.getLsbD 5 }
    | 4 => p (4 + (o - 0x200) / 0x40) fun x => { x with fcserr := x.fcserr.w1c v }
    | 8 => p (4 + (o - 0x200) / 0x40) fun x => { x with rxdrop := x.rxdrop.w1c v }
    | _ => s
  else s

/-- NVC (Table 11.15). -/
def State.nvcRegWrite (s : State) (o : Nat) (v : Word) : State :=
  match o with
  | 0x00 => { s with nvc := { s.nvc with reject := s.nvc.reject && !v.getLsbD 1, vfail := s.nvc.vfail && !v.getLsbD 2 } }
  | 0x04 => { s with nvc := { s.nvc with addr := (v.setWidth 23) &&& 0x7FFFFC } }
  | 0x08 => { s with nvc := { s.nvc with wdata := v } }
  | 0x0C => if v.getLsbD 0 then s.nvcWrite else s
  | 0x10 => { s with nvc := { s.nvc with corr := s.nvc.corr.w1c v } }
  | 0x14 => { s with nvc := { s.nvc with unc := s.nvc.unc.w1c v } }
  | _ => s

/-- PWR (Table 12.7); a value outside its range is ignored. PWR_RES counts on from a cleared OVF. -/
def State.pwrWrite (s : State) (o : Nat) (v : Word) : State :=
  let n := v.toNat
  if h : 0x40 ≤ o ∧ o % 4 = 0 ∧ (o - 0x40) / 4 < 5 then
    let k : Fin 5 := ⟨(o - 0x40) / 4, h.2.2⟩
    let now := s.power.code = k.val
    { s with pwr := { s.pwr with
        res := updV s.pwr.res k fun _ => (s.residency k).w1c v
        since := if now then s.timeBase.toNat - (s.timeBase.toNat - s.pwr.since) % 1000 else s.pwr.since } }
  else match o with
  | 0x0C => if 100000 ≤ n ∧ n ≤ 100000000 then { s with pwr := { s.pwr with cap := n, level := min s.pwr.level n } } else s
  | 0x10 => if n % 1024 ≤ 900 then { s with pwr := { s.pwr with rate := n % 1024 } } else s
  | 0x14 => if 70 ≤ n % 256 ∧ n % 256 ≤ 105 then { s with pwr := { s.pwr with ceil := n % 256 } } else s
  | _ => s

/-- KEY (Table 13.5). -/
def State.keyWrite (s : State) (m : Master) (o : Nat) (v : Word) : State :=
  match o with
  | 0x10 =>
    let k := v.toNat % 64
    match bits v.toNat 8 3 with
    | 1 => s.keyLoad m k
    | 2 => s.keyGenerate m k
    | 3 => if bits v.toNat 16 16 = 0x4B59 then s.keyRevokeCmd k else s
    | _ => s
  | 0x14 => s.modKeys fun x => { x with hdrType := v.setWidth 3, hdrMode := v.getLsbD 3, hdrLen := (v >>> 8).setWidth 7 }
  | 0x18 => s.modKeys fun x => { x with loadPolicy := v }
  | 0x1C => s.modKeys fun x => if x.loadData.length < 64 then { x with loadData := x.loadData ++ p32 v.toNat } else x
  | _ => s

/-- CTR (Table 13.8). -/
def State.ctrWrite (s : State) (o : Nat) (v : Word) : State :=
  match o with
  | 0x00 =>
    match bits v.toNat 8 2 with
    | 1 => s.ctrCommand (v.toNat % 64) false
    | 2 => s.ctrCommand (v.toNat % 64) true
    | _ => s
  | 0x04 => { s with ctr := { s.ctr with arg := v } }
  | _ => s

/-- RNG (Table 13.11). -/
def State.rngWrite (s : State) (o : Nat) (v : Word) : State :=
  match o with
  | 0x00 => { s with rng := { s.rng with rct := s.rng.rct && !v.getLsbD 4, apt := s.rng.apt && !v.getLsbD 5 } }
  | 0x04 => if v.getLsbD 1 then s.rngReseed (v.getLsbD 0) else if v.getLsbD 0 then s.rngStart else s
  | 0x08 => { s with rng := { s.rng with addr := v } }
  | 0x0C => { s with rng := { s.rng with len := v.setWidth 17 } }
  | 0x10 => { s with rng := { s.rng with reqs := s.rng.reqs.w1c v } }
  | 0x14 => { s with rng := { s.rng with reseeds := s.rng.reseeds.w1c v } }
  | _ => s

/-- GATE (Table 14.7). -/
def State.gateWrite (s : State) (o : Nat) (v : Word) : State :=
  if hg : o / 0x400 < 22 then
    let r := o % 0x400
    if r = 0x18 then (if v.getLsbD 0 then s.clearGate ⟨o / 0x400, hg⟩ else s)
    else if h : 0x100 ≤ r ∧ (r - 0x100) / 0x10 < 8 then
      (if o / 0x400 = 21 || r % 0x10 = 0xC then s
       else s.writeRegion ⟨o / 0x400, hg⟩ ⟨(r - 0x100) / 0x10, h.2⟩ (regionReg (r % 0x10 / 4)) v)
    else s
  else s

/-- LCC (Table 15.10); LCC_HUCFG is written only during a provisioning session (R433). -/
def State.lccWrite (s : State) (m : Master) (o : Nat) (v : Word) : State :=
  match o with
  | 0x04 => s.lccCmd m v
  | 0x0C =>
    if s.dbg.prov then
      { s with lcc := { s.lcc with capUf := v.setWidth 16, div := (v >>> 16).setWidth 3, vmin := (v >>> 20).setWidth 8 } }
    else s
  | _ => s

/-- SYS (Tables 16.9 and 18.11). -/
def State.sysWrite (s : State) (m : Master) (o : Nat) (v : Word) : State :=
  match o with
  | 0x04 =>
    if v.setWidth 16 ≠ (0x5253 : Half) then s
    else
      let s1 := if v.getLsbD 18 then s.restartReady else s
      if v.getLsbD 16 then s1.restartWrite (v.getLsbD 17) else s1
  | 0x08 => s.wdtWrite v
  | 0x14 => s.cwdtOff v
  | 0x18 => s.sysRload m (v.toNat % 2 ^ 24)
  | 0x20 => s.modEvl fun e => { e with sramCorr := e.sramCorr.w1c v }
  | 0x24 => s.modEvl fun e => { e with sramUnc := e.sramUnc.w1c v }
  | _ => s

/-- CLK (Table 17.7). -/
def State.clkWrite (s : State) (o : Nat) (v : Word) : State :=
  match o with
  | 0x04 => { s with clk := { s.clk with rstCause := s.clk.rstCause &&& ~~~(v.setWidth 7) } }
  | 0x18 => { s with clk := { s.clk with utcSetLo := v } }
  | 0x1C => s.utcCommit v
  | 0x20 => if v.getLsbD 0 then s.netPllRelock else s
  | 0x24 => { s with clk := { s.clk with netLoss := s.clk.netLoss.w1c v } }
  | _ => s

/-- EVL (Table 18.11). -/
def State.evlWrite (s : State) (o : Nat) (v : Word) : State :=
  match o with
  | 0x14 => s.modEvl fun e => { e with overwr := e.overwr.w1c v }
  | 0x18 => s.modEvl fun e => { e with drop := e.drop.w1c v }
  | 0x20 => s.modEvl fun e => { e with raiseP := updV e.raiseP 0 fun _ => v }
  | 0x24 => s.modEvl fun e => { e with raiseP := updV e.raiseP 1 fun _ => v }
  | 0x28 => s.modEvl fun e => { e with raiseP := updV e.raiseP 2 fun _ => v }
  | 0x2C => s.modEvl fun e => { e with raiseP := updV e.raiseP 3 fun _ => v }
  | 0x30 => s.evlRaise v
  | _ => s

/-- HCS (Table 19.7). -/
def State.hcsWrite (s : State) (o : Nat) (v : Word) : State :=
  match o with
  | 0x00 => s.pwrenWrite (v.setWidth 24)
  | 0x04 => s.runWrite (v.setWidth 24)
  | 0x08 => s.egrWrite (v.setWidth 24)
  | 0x0C => { s with hcs := { s.hcs with hold := s.hcs.hold &&& ~~~(v.setWidth 24) } }
  | 0x14 => { s with hcs := { s.hcs with alertFw := v.getLsbD 0 } }
  | _ => s

/-- TMP (Table 19.11). -/
def State.tmpWrite (s : State) (o : Nat) (v : Word) : State :=
  match o with
  | 0x00 => s.tmpCfgWrite v
  | 0x0C => { s with tmp := { s.tmp with latch := s.tmp.latch &&& ~~~(v.setWidth 8) } }
  | _ => s

/-- The host ports' and the channels' blocks; those of a fused port ignore writes (R2). -/
def State.portWrite (s : State) (a : Nat) (f : Host24 → Nat → State) : State :=
  if h : a / 0x1000 < 24 then (if s.fused (a / 0x1000) then s else f ⟨a / 0x1000, h⟩ (a % 0x1000)) else s

/-- A write of the register at an address, past its gate: R9 for the access code of each field. -/
def State.regStore (s : State) (m : Master) (a : Nat) (v : Word) : State :=
  let o := a % 0x10000
  if 0x40100000 ≤ a ∧ a < 0x40118000 then s.portWrite (a - 0x40100000) fun h o => s.hpcWrite h o v
  else if 0x40200000 ≤ a ∧ a < 0x40218000 then s.portWrite (a - 0x40200000) fun c o => s.fccWrite c o v
  else match a / 0x10000 with
  | 0x4000 => s.sysWrite m o v
  | 0x4001 => s.clkWrite o v
  | 0x4002 => s.pwrWrite o v
  | 0x4003 => s.lccWrite m o v
  | 0x4004 => s.gateWrite o v
  | 0x4005 => s.evlWrite o v
  | 0x4006 => s.keyWrite m o v
  | 0x4007 => s.ctrWrite o v
  | 0x4008 => s.rngWrite o v
  | 0x4009 => s.dgcWrite m o v
  | 0x400A => s.sigWrite m o v
  | 0x400B => s.arcWrite o v
  | 0x400C => s.patWrite o v
  | 0x400D => if o = 0x18 then s.plcDiscardWrite v else s
  | 0x400E => s.nvcRegWrite o v
  | 0x4030 => s.ttbWrite o v
  | 0x4040 => s.netWrite o v
  | 0x4050 => s.hcsWrite o v
  | 0x4060 => s.tmpWrite o v
  | 0x4070 => s.dbgRegWrite o v
  | _ => s

/-! ## Accesses by a master -/

def registerSpace (a : Nat) : Bool := 0x40000000 ≤ a

/-- A write of KEY_CMD with OP = REVOKE (Table 14.3). -/
def revokeWrite (a : Nat) (v : Word) : Bool := a = keyBase + 0x10 && bits v.toNat 8 3 = 3

/-- A write of one word by an internal master, through the gates (R402, R404, R408). -/
def State.masterWrite (s : State) (m : Master) (a : Nat) (v : Word) : State :=
  if s.debugStopped m then s.stickyIf m
  else if !registerSpace a then (s.memWrite m a (p32 v.toNat)).2
  else match s.judge m a true s.lists (revokeWrite (a / 4 * 4) v) with
    | some r => s.refuseAccess m a accWrite r
    | none => s.regStore m (a / 4 * 4) v

/-- A read of one word by an internal master; a refused one returns 0. -/
def State.masterRead (s : State) (m : Master) (a : Nat) : Nat × State :=
  if s.debugStopped m then (0, s.stickyIf m)
  else if !registerSpace a then
    let r := s.memRead m a 4
    (r.1.elim 0 fun b => u32 b 0, r.2)
  else match s.judge m a false s.lists false with
    | some r => (0, s.refuseAccess m a accRead r)
    | none => s.regRead m (a / 4 * 4)

/-- A host reaches the words of its own window alone, through gate 21 (R401, R405). -/
def State.windowWrite (s : State) (h : Host24) (o : Nat) (v : Word) : State :=
  if o % 4 = 0 && o < 0x1000 && s.hpwAllowed h o then s.hpwWrite h o v
  else (s.hpwViolation h o accWrite).modPort h fun p => p.setStat stDenied

/-- WRITE_REGISTER: for a host, `a` is an HPW offset. -/
def execWriteRegister (m : Master) (a v : Word) (s : State) :=
  done (match m with
    | .host h => s.windowWrite h a.toNat v
    | _ => s.masterWrite m a.toNat v)

/-- DBGMEM: the debug port holds the word of a read (R429). -/
def State.dbgMem (s : State) (a : Word) (wr : Option Word) : State :=
  let s1 := s.jtagSelect s.jtagDebug .dbgmem .functional
  if !s.jtagDebug then s1
  else match wr with
    | some v => s1.masterWrite .debug a.toNat v
    | none =>
      let r := s1.masterRead .debug a.toNat
      r.2.modDbg fun d => { d with data := BitVec.ofNat 32 r.1 }

def execDbgmem (a : Word) (wr : Option Word) (s : State) := done (s.dbgMem a wr)

end Sys2Proof.Machine
end

