-- ==== Sys2Proof/Machine/Dispatch.lean ====
section
/-! DEFINITION. The command dispatch: one arm per row of the opcode table, each a direct call of its meaning. -/
namespace Sys2Proof.Machine

def exec (i : Instr) (s : State) : Host.Outcome State Fault Refusal :=
  match i with
  | .read f => Sys2Proof.Machine.execRead f s
  | .read4 f => Sys2Proof.Machine.execRead4 f s
  | .fast f => Sys2Proof.Machine.execFast f s
  | .fast4 f => Sys2Proof.Machine.execFast4 f s
  | .dualIo f => Sys2Proof.Machine.execDualIo f s
  | .quadIo f => Sys2Proof.Machine.execQuadIo f s
  | .octalIo f => Sys2Proof.Machine.execOctalIo f s
  | .ddrRead f => Sys2Proof.Machine.execDdrRead f s
  | .contReadFrame f => Sys2Proof.Machine.execContReadFrame f s
  | .pp4 f => Sys2Proof.Machine.execPp4 f s
  | .pp f => Sys2Proof.Machine.execPp f s
  | .se4k4 f => Sys2Proof.Machine.execSe4k4 f s
  | .se4k f => Sys2Proof.Machine.execSe4k f s
  | .be64k4 f => Sys2Proof.Machine.execBe64k4 f s
  | .be64k f => Sys2Proof.Machine.execBe64k f s
  | .eraseAll f => Sys2Proof.Machine.execEraseAll f s
  | .wren f => Sys2Proof.Machine.execWren f s
  | .wrdi f => Sys2Proof.Machine.execWrdi f s
  | .rdsr f => Sys2Proof.Machine.execRdsr f s
  | .rdfsr f => Sys2Proof.Machine.execRdfsr f s
  | .clfsr f => Sys2Proof.Machine.execClfsr f s
  | .wrsr f => Sys2Proof.Machine.execWrsr f s
  | .wrmr f => Sys2Proof.Machine.execWrmr f s
  | .rdmr f => Sys2Proof.Machine.execRdmr f s
  | .en4b f => Sys2Proof.Machine.execEn4b f s
  | .ex4b f => Sys2Proof.Machine.execEx4b f s
  | .rdid f => Sys2Proof.Machine.execRdid f s
  | .rdsfdp f => Sys2Proof.Machine.execRdsfdp f s
  | .rsten f => Sys2Proof.Machine.execRsten f s
  | .rst f => Sys2Proof.Machine.execRst f s
  | .dp f => Sys2Proof.Machine.execDp f s
  | .res f => Sys2Proof.Machine.execRes f s
  | .mbw f => Sys2Proof.Machine.execMbw f s
  | .mbr f => Sys2Proof.Machine.execMbr f s
  | .unknownOpcode f => Sys2Proof.Machine.execUnknownOpcode f s
  | .rdyTimeout h => Sys2Proof.Machine.execRdyTimeout h s
  | .nativeTimeout h => Sys2Proof.Machine.execNativeTimeout h s
  | .lineBufferFilled h n => Sys2Proof.Machine.execLineBufferFilled h n s
  | .prefetchFillDone h crcOk => Sys2Proof.Machine.execPrefetchFillDone h crcOk s
  | .writeDurable h => Sys2Proof.Machine.execWriteDurable h s
  | .hpwMbGo h v => Sys2Proof.Machine.execHpwMbGo h v s
  | .hpwAttnWrite h v => Sys2Proof.Machine.execHpwAttnWrite h v s
  | .hpwLtvWrite h v => Sys2Proof.Machine.execHpwLtvWrite h v s
  | .hpwHealthWrite h v => Sys2Proof.Machine.execHpwHealthWrite h v s
  | .hpwStatClear h v => Sys2Proof.Machine.execHpwStatClear h v s
  | .archiveAppend h => Sys2Proof.Machine.execArchiveAppend h s
  | .cardMake h => Sys2Proof.Machine.execCardMake h s
  | .cardRead h => Sys2Proof.Machine.execCardRead h s
  | .counterIncrement h => Sys2Proof.Machine.execCounterIncrement h s
  | .counterRead h => Sys2Proof.Machine.execCounterRead h s
  | .keyedDigest h => Sys2Proof.Machine.execKeyedDigest h s
  | .plainDigest h => Sys2Proof.Machine.execPlainDigest h s
  | .eventLogRead h => Sys2Proof.Machine.execEventLogRead h s
  | .timeRead h => Sys2Proof.Machine.execTimeRead h s
  | .archiveRead h => Sys2Proof.Machine.execArchiveRead h s
  | .keySlotStatusRead h => Sys2Proof.Machine.execKeySlotStatusRead h s
  | .mailboxServiceDone h => Sys2Proof.Machine.execMailboxServiceDone h s
  | .ttbReadyWrite v => Sys2Proof.Machine.execTtbReadyWrite v s
  | .ttbCommit v => Sys2Proof.Machine.execTtbCommit v s
  | .ttSwitchPoint h => Sys2Proof.Machine.execTtSwitchPoint h s
  | .pendLong h => Sys2Proof.Machine.execPendLong h s
  | .selectDiscovery c k a => Sys2Proof.Machine.execSelectDiscovery c k a s
  | .retire c k => Sys2Proof.Machine.execRetire c k s
  | .retireComplete c k => Sys2Proof.Machine.execRetireComplete c k s
  | .park c => Sys2Proof.Machine.execPark c s
  | .unpark c => Sys2Proof.Machine.execUnpark c s
  | .admitSelect c k factoryBad => Sys2Proof.Machine.execAdmitSelect c k factoryBad s
  | .admitComplete c k labelOk => Sys2Proof.Machine.execAdmitComplete c k labelOk s
  | .transferStart c => Sys2Proof.Machine.execTransferStart c s
  | .transferCut c bytes => Sys2Proof.Machine.execTransferCut c bytes s
  | .statusPoll c => Sys2Proof.Machine.execStatusPoll c s
  | .deviceOperationComplete c k st => Sys2Proof.Machine.execDeviceOperationComplete c k st s
  | .pageReadDone c k crcOk => Sys2Proof.Machine.execPageReadDone c k crcOk s
  | .commandTimeout c k idSame => Sys2Proof.Machine.execCommandTimeout c k idSame s
  | .fcRdyRise c => Sys2Proof.Machine.execFcRdyRise c s
  | .fcRdyTimeout c => Sys2Proof.Machine.execFcRdyTimeout c s
  | .bellSlotBoundary => Sys2Proof.Machine.execBellSlotBoundary s
  | .fccBellReadyWrite c v => Sys2Proof.Machine.execFccBellReadyWrite c v s
  | .fccBellCommit v => Sys2Proof.Machine.execFccBellCommit v s
  | .bellCommitTakeEffect => Sys2Proof.Machine.execBellCommitTakeEffect s
  | .relocationStart h e target replaces fold => Sys2Proof.Machine.execRelocationStart h e target replaces fold s
  | .relocationPageCopied h e => Sys2Proof.Machine.execRelocationPageCopied h e s
  | .relocationCommit h e => Sys2Proof.Machine.execRelocationCommit h e s
  | .checkpointDone => Sys2Proof.Machine.execCheckpointDone s
  | .relocationDrainDone h e => Sys2Proof.Machine.execRelocationDrainDone h e s
  | .relocationDeadline h e => Sys2Proof.Machine.execRelocationDeadline h e s
  | .plcDiscardWrite v => Sys2Proof.Machine.execPlcDiscardWrite v s
  | .shadowDiscardDone h => Sys2Proof.Machine.execShadowDiscardDone h s
  | .stgWaitTimeout h => Sys2Proof.Machine.execStgWaitTimeout h s
  | .journalSpaceAvailable h => Sys2Proof.Machine.execJournalSpaceAvailable h s
  | .registrarPowerUp torn => Sys2Proof.Machine.execRegistrarPowerUp torn s
  | .scanComplete => Sys2Proof.Machine.execScanComplete s
  | .steadyExit => Sys2Proof.Machine.execSteadyExit s
  | .placementRelease h e => Sys2Proof.Machine.execPlacementRelease h e s
  | .placementRecreate h e => Sys2Proof.Machine.execPlacementRecreate h e s
  | .powerOn who h => Sys2Proof.Machine.execPowerOn who h s
  | .powerOff who h => Sys2Proof.Machine.execPowerOff who h s
  | .hold who h => Sys2Proof.Machine.execHold who h s
  | .retry who h => Sys2Proof.Machine.execRetry who h s
  | .settleMsElapsed h => Sys2Proof.Machine.execSettleMsElapsed h s
  | .imageSelection h => Sys2Proof.Machine.execImageSelection h s
  | .hostRelease h => Sys2Proof.Machine.execHostRelease h s
  | .blockVerified h b readable => Sys2Proof.Machine.execBlockVerified h b readable s
  | .hallRelease h => Sys2Proof.Machine.execHallRelease h s
  | .sweepDeadline h => Sys2Proof.Machine.execSweepDeadline h s
  | .keyRevoke who k => Sys2Proof.Machine.execKeyRevoke who k s
  | .dgcSubmit m a => Sys2Proof.Machine.execDgcSubmit m a s
  | .dgcResRel m k => Sys2Proof.Machine.execDgcResRel m k s
  | .dgcAbort m k => Sys2Proof.Machine.execDgcAbort m k s
  | .dgcResDin m k v => Sys2Proof.Machine.execDgcResDin m k v s
  | .dgcLastw m k v => Sys2Proof.Machine.execDgcLastw m k v s
  | .jobStart kat => Sys2Proof.Machine.execJobStart kat s
  | .jobComplete k => Sys2Proof.Machine.execJobComplete k s
  | .jobStall k => Sys2Proof.Machine.execJobStall k s
  | .sigVerifyStart => Sys2Proof.Machine.execSigVerifyStart s
  | .sigVerifyAbort => Sys2Proof.Machine.execSigVerifyAbort s
  | .sigVerifyDone => Sys2Proof.Machine.execSigVerifyDone s
  | .bundlePiece who data => Sys2Proof.Machine.execBundlePiece who data s
  | .checkingComplete writeErr => Sys2Proof.Machine.execCheckingComplete writeErr s
  | .activate who => Sys2Proof.Machine.execActivate who s
  | .discard who => Sys2Proof.Machine.execDiscard who s
  | .abandon who => Sys2Proof.Machine.execAbandon who s
  | .activation => Sys2Proof.Machine.execActivation s
  | .actWaitTimeout => Sys2Proof.Machine.execActWaitTimeout s
  | .trialDeadline => Sys2Proof.Machine.execTrialDeadline s
  | .confirmation => Sys2Proof.Machine.execConfirmation s
  | .patStart => Sys2Proof.Machine.execPatStart s
  | .patAbort => Sys2Proof.Machine.execPatAbort s
  | .patDone pages writeErr => Sys2Proof.Machine.execPatDone pages writeErr s
  | .archiveCreate who => Sys2Proof.Machine.execArchiveCreate who s
  | .sealNow who => Sys2Proof.Machine.execSealNow who s
  | .termBoundary => Sys2Proof.Machine.execTermBoundary s
  | .sealCompute => Sys2Proof.Machine.execSealCompute s
  | .pageFlushDone => Sys2Proof.Machine.execPageFlushDone s
  | .partnerAppend who data => Sys2Proof.Machine.execPartnerAppend who data s
  | .exportAck who data => Sys2Proof.Machine.execExportAck who data s
  | .pageSelect who n => Sys2Proof.Machine.execPageSelect who n s
  | .termSelect who n => Sys2Proof.Machine.execTermSelect who n s
  | .cardRequest who data => Sys2Proof.Machine.execCardRequest who data s
  | .utcSet who v => Sys2Proof.Machine.execUtcSet who v s
  | .sigScmdStart => Sys2Proof.Machine.execSigScmdStart s
  | .signatureDone => Sys2Proof.Machine.execSignatureDone s
  | .paceTokenRefill => Sys2Proof.Machine.execPaceTokenRefill s
  | .canFrameReceived k f => Sys2Proof.Machine.execCanFrameReceived k f s
  | .t1sFrameReceived k f => Sys2Proof.Machine.execT1sFrameReceived k f s
  | .rollcall m => Sys2Proof.Machine.execRollcall m s
  | .openReq m => Sys2Proof.Machine.execOpenReq m s
  | .openProof m => Sys2Proof.Machine.execOpenProof m s
  | .close m => Sys2Proof.Machine.execClose m s
  | .reqRead m => Sys2Proof.Machine.execReqRead m s
  | .reqWrite m => Sys2Proof.Machine.execReqWrite m s
  | .reqNop m => Sys2Proof.Machine.execReqNop m s
  | .segInit m => Sys2Proof.Machine.execSegInit m s
  | .segData m => Sys2Proof.Machine.execSegData m s
  | .segAck m => Sys2Proof.Machine.execSegAck m s
  | .segEnd m => Sys2Proof.Machine.execSegEnd m s
  | .abort m => Sys2Proof.Machine.execAbort m s
  | .rollcallInterval => Sys2Proof.Machine.execRollcallInterval s
  | .halfOpenTimeout k => Sys2Proof.Machine.execHalfOpenTimeout k s
  | .sessionIdleTimeout k => Sys2Proof.Machine.execSessionIdleTimeout k s
  | .gapAckTimer t => Sys2Proof.Machine.execGapAckTimer t s
  | .transferRetransmitTimer t => Sys2Proof.Machine.execTransferRetransmitTimer t s
  | .lockoutExpiry p addr => Sys2Proof.Machine.execLockoutExpiry p addr s
  | .apply who => Sys2Proof.Machine.execApply who s
  | .applyTakeEffect => Sys2Proof.Machine.execApplyTakeEffect s
  | .applyValidationTimeout => Sys2Proof.Machine.execApplyValidationTimeout s
  | .keyDerivation who data => Sys2Proof.Machine.execKeyDerivation who data s
  | .timetableWrite who h data => Sys2Proof.Machine.execTimetableWrite who h data s
  | .bellScheduleWrite who c data => Sys2Proof.Machine.execBellScheduleWrite who c data s
  | .gateSetWrite who data => Sys2Proof.Machine.execGateSetWrite who data s
  | .counterAdvance who data => Sys2Proof.Machine.execCounterAdvance who data s
  | .nvcWrite => Sys2Proof.Machine.execNvcWrite s
  | .nvWordWriteDone ok => Sys2Proof.Machine.execNvWordWriteDone ok s
  | .powerStateEntry p => Sys2Proof.Machine.execPowerStateEntry p s
  | .p1Exit => Sys2Proof.Machine.execP1Exit s
  | .hostSelectWake h => Sys2Proof.Machine.execHostSelectWake h s
  | .networkWake k => Sys2Proof.Machine.execNetworkWake k s
  | .wakeTimer => Sys2Proof.Machine.execWakeTimer s
  | .jobAdmission offers => Sys2Proof.Machine.execJobAdmission offers s
  | .sensorSample a b c d => Sys2Proof.Machine.execSensorSample a b c d s
  | .holdupSample vBall vbak => Sys2Proof.Machine.execHoldupSample vBall vbak s
  | .keyLoad m k => Sys2Proof.Machine.execKeyLoad m k s
  | .keyGenerate m k => Sys2Proof.Machine.execKeyGenerate m k s
  | .generateDone => Sys2Proof.Machine.execGenerateDone s
  | .keyCmdRevoke m k confirm => Sys2Proof.Machine.execKeyCmdRevoke m k confirm s
  | .ctrIncrement k => Sys2Proof.Machine.execCtrIncrement k s
  | .ctrAdvance k => Sys2Proof.Machine.execCtrAdvance k s
  | .entropyBlock raw => Sys2Proof.Machine.execEntropyBlock raw s
  | .rngGenStart => Sys2Proof.Machine.execRngGenStart s
  | .rngGenReseed start => Sys2Proof.Machine.execRngGenReseed start s
  | .drbgReseedDue => Sys2Proof.Machine.execDrbgReseedDue s
  | .drbgRequestDone => Sys2Proof.Machine.execDrbgRequestDone s
  | .gateClr m g => Sys2Proof.Machine.execGateClr m g s
  | .gateRegionWrite m g k r v => Sys2Proof.Machine.execGateRegionWrite m g k r v s
  | .lcTransitionRequest who data => Sys2Proof.Machine.execLcTransitionRequest who data s
  | .lccCmd m v => Sys2Proof.Machine.execLccCmd m v s
  | .fuseWriteDone a b c d => Sys2Proof.Machine.execFuseWriteDone a b c d s
  | .debugChallenge who => Sys2Proof.Machine.execDebugChallenge who s
  | .debugResponse who data => Sys2Proof.Machine.execDebugResponse who data s
  | .dbgLock => Sys2Proof.Machine.execDbgLock s
  | .dbgClrSticky => Sys2Proof.Machine.execDbgClrSticky s
  | .dbgChal => Sys2Proof.Machine.execDbgChal s
  | .dbgProvOpen => Sys2Proof.Machine.execDbgProvOpen s
  | .dbgProvClose => Sys2Proof.Machine.execDbgProvClose s
  | .dbgResponseSubmit v => Sys2Proof.Machine.execDbgResponseSubmit v s
  | .debugDurationExpiry => Sys2Proof.Machine.execDebugDurationExpiry s
  | .challengeExpiry session => Sys2Proof.Machine.execChallengeExpiry session s
  | .challengeSuspendEnd => Sys2Proof.Machine.execChallengeSuspendEnd s
  | .extest => Sys2Proof.Machine.execExtest s
  | .samplePreload => Sys2Proof.Machine.execSamplePreload s
  | .idcode => Sys2Proof.Machine.execIdcode s
  | .clamp => Sys2Proof.Machine.execClamp s
  | .highz => Sys2Proof.Machine.execHighz s
  | .dbgreg off wr => Sys2Proof.Machine.execDbgreg off wr s
  | .dbgmem a wr => Sys2Proof.Machine.execDbgmem a wr s
  | .bypass => Sys2Proof.Machine.execBypass s
  | .tapReset => Sys2Proof.Machine.execTapReset s
  | .tmpCfgWrite m v => Sys2Proof.Machine.execTmpCfgWrite m v s
  | .powerOnReset burnt => Sys2Proof.Machine.execPowerOnReset burnt s
  | .brownOutVdd burnt => Sys2Proof.Machine.execBrownOutVdd burnt s
  | .brownOutVddio burnt => Sys2Proof.Machine.execBrownOutVddio burnt s
  | .porstPin => Sys2Proof.Machine.execPorstPin s
  | .clockFailure cause => Sys2Proof.Machine.execClockFailure cause s
  | .vddWarn => Sys2Proof.Machine.execVddWarn s
  | .romColdStart c => Sys2Proof.Machine.execRomColdStart c s
  | .sysRestartWarm roll => Sys2Proof.Machine.execSysRestartWarm roll s
  | .sysRestartReady => Sys2Proof.Machine.execSysRestartReady s
  | .wdtEnable v => Sys2Proof.Machine.execWdtEnable v s
  | .wdtKick => Sys2Proof.Machine.execWdtKick s
  | .wdtExpiry => Sys2Proof.Machine.execWdtExpiry s
  | .cwdtExpiry => Sys2Proof.Machine.execCwdtExpiry s
  | .cwdtOff v => Sys2Proof.Machine.execCwdtOff v s
  | .sysRload m v => Sys2Proof.Machine.execSysRload m v s
  | .recoveryActivate who => Sys2Proof.Machine.execRecoveryActivate who s
  | .pllNetLoss => Sys2Proof.Machine.execPllNetLoss s
  | .clkNetpllRelock => Sys2Proof.Machine.execClkNetpllRelock s
  | .x32Fail => Sys2Proof.Machine.execX32Fail s
  | .clkUtcSet v => Sys2Proof.Machine.execClkUtcSet v s
  | .timeBaseFloorSave => Sys2Proof.Machine.execTimeBaseFloorSave s
  | .evlRaise v => Sys2Proof.Machine.execEvlRaise v s
  | .eventRecordWritten => Sys2Proof.Machine.execEventRecordWritten s
  | .sramPatrol corrected unc => Sys2Proof.Machine.execSramPatrol corrected unc s
  | .tamperChange k high => Sys2Proof.Machine.execTamperChange k high s
  | .hcsPwrenWrite v => Sys2Proof.Machine.execHcsPwrenWrite v s
  | .hcsRunWrite v => Sys2Proof.Machine.execHcsRunWrite v s
  | .hcsEgrWrite v => Sys2Proof.Machine.execHcsEgrWrite v s
  | .hcsPendExpiry h => Sys2Proof.Machine.execHcsPendExpiry h s
  | .writeRegister m a v => Sys2Proof.Machine.execWriteRegister m a v s
  | .vddWarnClear => Sys2Proof.Machine.execVddWarnClear s
  | .canErrorStateChange k st tec rec_ => Sys2Proof.Machine.execCanErrorStateChange k st tec rec_ s
  | .plcaStatusChange k ok foreign => Sys2Proof.Machine.execPlcaStatusChange k ok foreign s
  | .pllNetRelocked => Sys2Proof.Machine.execPllNetRelocked s
  | .x32Ok => Sys2Proof.Machine.execX32Ok s
  | .fcPwrenDrivenLow c => Sys2Proof.Machine.execFcPwrenDrivenLow c s
  | .drbgReseedForced => Sys2Proof.Machine.execDrbgReseedForced s

end Sys2Proof.Machine
end

