-- ==== Sys2Proof/Machine/Tick.lean ====
section
/-! DEFINITION. What the block does of itself when no command waits: one tick of its clocks (R460, R365, R470, R149). -/
namespace Sys2Proof.Machine

/-- The raise of the 16-bit fraction at each X32 tick (R460). -/
def fracStep : Nat := 33920

/-- Microseconds that a tick adds to the time base: 1 at a 1 MHz tick, 30 or 31 at an X32 tick in P4 (R460). -/
def State.tickUs (s : State) : Nat :=
  if s.power = .p4 then 30 + (s.clk.tbFrac.toNat + fracStep) / 65536 else 1

/-- µJ that the bucket gains in each ms: R_eff, and R in P4 (R365). -/
def State.refill (s : State) : Nat := if s.power = .p4 then s.pwr.rate else s.pwr.eff

/-- Whole units of `n` µs that end between two times. -/
def crossings (n t u : Nat) : Nat := u / n - t / n

/-- The time base, UTC and the bucket advance by one tick (R460, R365). -/
def State.advance (s : State) : State :=
  let t := s.timeBase.toNat
  let t' := t + s.tickUs
  { s with
    timeBase := BitVec.ofNat 64 t'
    utc := s.utc.map fun x => x + BitVec.ofNat 64 (crossings 1000000 t t')
    clk := if s.power = .p4 then { s.clk with tbFrac := s.clk.tbFrac + BitVec.ofNat 16 fracStep } else s.clk
    pwr := { s.pwr with level := min s.pwr.cap (s.pwr.level + crossings 1000 t t' * s.refill) } }

/-- The port clocks that have not ticked (R470): no frame in service, no transfer running, a network port that does not run. -/
def State.staleBits (s : State) : State :=
  { s with
    ports := s.ports.map fun (p : Port) => { p with stale := p.frame.isNone }
    chans := s.chans.map fun (c : Channel) => { c with stale := c.running.isNone }
    net := { s.net with ports := s.net.ports.map fun (p : NetPortState) => { p with stale := !(p.cfg.enabled && s.clk.netLock) } } }

/-- A page goes to every copy of its extent, in place (R138). -/
def State.pageToCopies (s : State) (e : Extent) (v : Nat) (content : Option Bytes) : State :=
  (e.copies ++ [e.target].filter Loc.valid).foldl (fun st l =>
    let d := l.dpage + (v - e.vbase)
    st.modPlc fun p =>
      let p1 := p.storePage l.index d content
      if (st.selAt l.index).nand then p1 else p1.setSpare l.index d (p.spareUsed l.index d + 1)) s

/-- One committed NOR shadow is copied into its extent's copies and freed (R149). -/
def State.copyShadow (s : State) : State :=
  if s.plc.scanning then s
  else match s.plc.shadows.find? fun x => x.nor && x.committed with
    | none => s
    | some x =>
      if hh : x.host < 24 then
        let s1 := (s.findExtent ⟨x.host, hh⟩ x.vpage).elim s fun e => s.pageToCopies e x.vpage x.data
        s1.modPlc fun p => { p with shadows := p.shadows.erase x }
      else s

/-- One tick. -/
def State.tick (s : State) : State := (s.advance.copyShadow).staleBits

end Sys2Proof.Machine
end

