-- ==== Sys2Proof/Safety.lean ====
section
/-! DEFINITION. What counts as a safe state of the block, and the terms that statements about commands use: when a port takes a
frame, and which parts of the state a command leaves alone. -/
namespace Sys2Proof.Machine

/-- The sidebands of HCS agree (R503): egress only where the host runs, running only where it is powered and no power-down is pending. -/
def Hcs.ok (c : Hcs) : Prop := c.egr &&& ~~~c.run = 0 ∧ c.run &&& ~~~c.pwren = 0 ∧ c.run &&& c.pend = 0

/-- The three byte memories are in canonical form: internal SRAM and the NV store over 0x00, flash over 0xFF. -/
def State.memOk (s : State) : Prop := Mem.wf 0 s.sram = true ∧ Mem.wf 0 s.nv = true ∧ Mem.wf 0xFF s.plc.flash = true

/-- The invariant that every step keeps. -/
def State.Inv (s : State) : Prop := s.hcs.ok ∧ s.memOk

/-! ## Host frames -/

/-- The command of a host frame with a standard opcode, or of a mailbox frame: its frame, opcode and shape (R33). -/
def frameCmd (i : Instr) : Option (Frame × Nat × Nat) :=
  match i with
  | .read f => some (f, 0x03, 0x01)
  | .read4 f => some (f, 0x13, 0x02)
  | .fast f => some (f, 0x0B, 0x03)
  | .fast4 f => some (f, 0x0C, 0x04)
  | .dualIo f => some (f, 0xBC, 0x05)
  | .quadIo f => some (f, 0xEC, 0x06)
  | .octalIo f => some (f, 0xCC, 0x07)
  | .ddrRead f => some (f, 0xEE, 0x08)
  | .pp4 f => some (f, 0x12, 0x09)
  | .pp f => some (f, 0x02, 0x0A)
  | .se4k4 f => some (f, 0x21, 0x0B)
  | .se4k f => some (f, 0x20, 0x0C)
  | .be64k4 f => some (f, 0xDC, 0x0D)
  | .be64k f => some (f, 0xD8, 0x0E)
  | .eraseAll f => some (f, 0xC7, 0x0F)
  | .wren f => some (f, 0x06, 0x10)
  | .wrdi f => some (f, 0x04, 0x11)
  | .rdsr f => some (f, 0x05, 0x12)
  | .rdfsr f => some (f, 0x70, 0x13)
  | .clfsr f => some (f, 0x50, 0x14)
  | .wrsr f => some (f, 0x01, 0x15)
  | .wrmr f => some (f, 0x81, 0x16)
  | .rdmr f => some (f, 0x85, 0x17)
  | .en4b f => some (f, 0xB7, 0x18)
  | .ex4b f => some (f, 0xE9, 0x19)
  | .rdid f => some (f, 0x9F, 0x1A)
  | .rdsfdp f => some (f, 0x5A, 0x1B)
  | .rsten f => some (f, 0x66, 0x1C)
  | .rst f => some (f, 0x99, 0x1D)
  | .dp f => some (f, 0xB9, 0x1E)
  | .res f => some (f, 0xAB, 0x1F)
  | .mbw f => some (f, 0xE3, 0x20)
  | .mbr f => some (f, 0xE4, 0x21)
  | _ => none

/-- The port decodes frames, in no power state that a frame must end, with no frame in service and no Timetable waiting for it. -/
def State.portIdle (s : State) (h : Host24) : Prop :=
  s.decodes h = true ∧ s.power ≠ .p3 ∧ (s.port h).frame = none ∧ (s.ttOf h).pend = false

/-- An 8D frame carries the opcode and its inverse (R32). -/
def State.inverseOk (s : State) (f : Frame) (op : Nat) : Prop :=
  (s.port f.port).cmd = .d8 → f.inverse = ~~~(BitVec.ofNat 8 op)

/-- An idle port takes the frame as one of opcode `op` and shape `shape`, and the frame has all its clocks. -/
def State.takes (s : State) (f : Frame) (op shape : Nat) : Prop :=
  s.portIdle f.port ∧ (s.port f.port).armed = none ∧ f.ending = .whole ∧ s.inverseOk f op ∧
    shapeIn (s.portTt f.port) (s.port f.port).cmd op shape = true

/-- The port right after an idle port took a frame. -/
def State.fresh (s : State) (h : Host24) : Port := 
  { s.port h with out := [], rstEn := false, stale := false, epochShown := (s.port h).epochNews, epochNews := false }

/-- The native-mode status byte in the frame that an idle port takes. -/
def State.freshStatus (s : State) (h : Host24) (ready err : Bool) : Byte := (s.modPort h fun _ => s.fresh h).nativeStatus h ready err

/-- The clause that a frame with address `a` (0 for a control frame) matches (R72, R75). -/
def State.clauseAt (s : State) (h : Host24) (op shape a : Nat) : Option (Nat × Clause) :=
  (s.portTt h).lookup op (ifaceMode (s.port h).cmd shape) a a

/-- No clause denies a control frame (R75). -/
def State.ctlPasses (s : State) (h : Host24) (op shape : Nat) : Prop :=
  ∀ i c, s.clauseAt h op shape 0 = some (i, c) → effAction (s.hallPass h) c ≠ 2

/-- No clause with LOG matches the frame. -/
def State.noLog (s : State) (h : Host24) (op shape a : Nat) : Prop :=
  ∀ i c, s.clauseAt h op shape a = some (i, c) → c.log = false

/-- `t` keeps the clause banks and the event log of `s`, but for what a LOG clause leaves (R79); with `quiet`, all of them. -/
def State.logOnly (s t : State) (quiet : Prop) : Prop :=
  (∀ h, t.ttOf h = { s.ttOf h with logTimes := (t.ttOf h).logTimes }) ∧ (quiet → t.tt = s.tt ∧ t.evl = s.evl)

/-- `t` is `s` with port `h` at `p`, and with what a LOG clause leaves. -/
def State.portTo (s : State) (h : Host24) (p : Port) (quiet : Prop) (t : State) : Prop :=
  t = { s with ports := s.ports.set h p, tt := t.tt, evl := t.evl } ∧ s.logOnly t quiet

/-- What an accepted program or erase leaves (R45, R46, R144): WEL clear, WIP set, and one pending write; the flash itself waits for
the devices. Beside the port, only requests join the queues of channels, and an open choice is taken. -/
def State.acceptsWrite (s : State) (h : Host24) (erase : Bool) (stage : List Nat) (pages : List (Nat × Option Bytes)) (bytes : Nat) (quiet : Prop)
    (t : State) : Prop :=
  t = { s with ports := t.ports, tt := t.tt, evl := t.evl, chans := t.chans, free := t.free
               pwr := { s.pwr with hbytes := s.pwr.hbytes + BitVec.ofNat 64 bytes } } ∧
  (∀ k, k ≠ h → t.port k = s.port k) ∧
  (∀ c, ∃ more, t.chan c = { s.chan c with queue := (s.chan c).queue ++ more }) ∧
  (∃ w, w.erase = erase ∧ w.stage = stage ∧ w.pages = pages ∧
    t.port h = { s.fresh h with wel := false, wip := true, pending := some w, prefetch := (t.port h).prefetch }) ∧
  s.logOnly t quiet

/-! ## The mailbox -/

/-- A mailbox request of service `code` with payload `b` waits for its service, which runs, and passes the checks of R64 that come before
the service's own: LEN, the Timetable's service mask, and the state of a host On Hall pass. -/
def State.asked (s : State) (h : Host24) (code : Nat) (b : Bytes) : Prop :=
  ∃ q, s.mbWaiting h code = some q ∧ q.payload = b ∧ q.len ≤ 1024 ∧ bit (s.committedTt h).serviceMask code = true ∧
    (s.hallPass h = true → code ≠ 1 ∧ code ≠ 2 ∧ code ≠ 3 ∧ code ≠ 5)

/-- `s` with the window of host `h` at `w`. -/
def State.putHpw (s : State) (h : Host24) (w : Hpw) : State := { s with ports := s.ports.set h { s.port h with hpw := w } }

/-- `s` with the service's result kept for host `h`, to be delivered when the service is done. -/
def State.result (s : State) (h : Host24) (code retry : Nat) (rsp : Bytes) : State :=
  s.putHpw h { (s.port h).hpw with result := some { code, retry, rsp } }

/-! ## Flash channels -/

/-- `s` with channel `c` at `x`. -/
def State.putChan (s : State) (c : Chan) (x : Channel) : State := { s with chans := s.chans.set c x }

/-- `s` with select `k` of channel `c` at `x`. -/
def State.putSel (s : State) (c : Chan) (k : Sel) (x : Select) : State :=
  s.putChan c { s.chan c with sels := (s.chan c).sels.set k x }

/-! ## Hosts -/

/-- HCn_PWREN, HCn_RST_N and HCn_EGR of a host. -/
def State.sides (s : State) (h : Host24) : Bool × Bool × Bool := (s.hcs.pwren.getLsbD h.val, s.hcs.run.getLsbD h.val, s.hcs.egr.getLsbD h.val)

/-- The levels of Table 1.7. -/
def levels (st : HostState) : Bool × Bool × Bool :=
  match st with
  | .off => (false, false, false)
  | .held | .measuring | .detention => (true, false, false)
  | .hallPass => (true, true, false)
  | .trial | .running => (true, true, true)

/-- The last event of `t` is EV `code`, stamped with the time base and boot count of `s`. -/
def State.lastEvent (s t : State) (code source : Nat) (params : Bytes) : Prop :=
  ∃ e : Evl, t.evl = e.accept { code, source, params, tb := s.timeBase, boot := s.netBoot }

/-- What a change of one host's state may touch: that host's own parts, the event log, the queues of channels, and the power state. No other
host's parts, no byte of flash and no register of another block. -/
def State.hostFrame (s : State) (h : Host24) (t : State) : Prop :=
  (∀ k, k ≠ h → t.imgOf k = s.imgOf k ∧ t.port k = s.port k ∧ t.ttOf k = s.ttOf k ∧ t.extents k = s.extents k ∧ t.sides k = s.sides k) ∧
  t = { s with
    img := t.img, lists := t.lists, hcs := t.hcs, ports := t.ports, tt := t.tt, chans := t.chans, evl := t.evl, free := t.free
    power := t.power, pwr := t.pwr, dgc := t.dgc, rng := t.rng, net := { s.net with lastAbort := t.net.lastAbort }
    plc := { s.plc with discard := t.plc.discard, extents := t.plc.extents, xepoch := t.plc.xepoch, registry := t.plc.registry } }

/-! ## The dictionary -/

/-- The dictionary is served, and a write of the entry passes the checks of R318 for this caller. -/
def State.allowed (s : State) (who : Caller) (idx sub : Nat) (b : Bytes) : Prop :=
  s.dictServed = true ∧ s.writeRefused who idx sub b = 0

/-- `s` with the abort code of a dictionary write (0 for none) kept. -/
def State.answered (s : State) (code : Nat) : State := { s with net := { s.net with lastAbort := BitVec.ofNat 32 code } }

/-- The gates of the entries that commands write, in normal operation: index, subindex, least role, life-cycle states, and type (chapters 6 to 15,
Table 11.1). The row of 0x2902 is SEAL_NOW's; CREATE has its own. -/
def writeRows (h : Host24) : List (Nat × Nat × Nat × List LcState × DTy) :=
  [(0x2300 + h.val, 0x10, 3, lcIFR, n4), (0x2400 + h.val, 0, 2, lcI, anyBlob), (0x2500 + h.val, 1, 2, lcIF, anyBlob), (0x2701, 1, 1, lcIF, n1),
   (0x2801, 0, 2, lcIFR, anyBlob), (0x2802, 1, 2, lcIFR, n1), (0x2903, 0, 3, lcIFR, .exact 20), (0x2905, 0, 3, lcIF, .blob 5 484),
   (0x2907, 0, 4, lcAny, n4), (0x2909, 0, 4, lcAny, n4), (0x2920, 0, 3, lcIFR, .exact 36), (0x3000, 2, 3, lcIFR, n8),
   (0x1110, 0x10, 2, lcIF, n1), (0x1210, 0, 2, lcIF, .exact 36), (0x2A00, 0, 1, lcI, anyBlob), (0x2C01, 0, 1, lcIF, n8),
   (0x2001, 0, 2, lcIFR, anyBlob), (0x2004, 0, 1, lcFR, anyBlob)]

/-- The dictionary write that a command stands for: entry, subindex and value. -/
def entryWrite (i : Instr) : Option (Caller × Nat × Nat × Bytes) :=
  match i with
  | .powerOn w h => some (w, 0x2300 + h.val, 0x10, p32 1)
  | .powerOff w h => some (w, 0x2300 + h.val, 0x10, p32 2)
  | .hold w h => some (w, 0x2300 + h.val, 0x10, p32 3)
  | .retry w h => some (w, 0x2300 + h.val, 0x10, p32 4)
  | .keyRevoke w k => some (w, 0x2701, 1, [k])
  | .bundlePiece w d => some (w, 0x2801, 0, d)
  | .discard w => some (w, 0x2802, 1, [2])
  | .abandon w => some (w, 0x2802, 1, [3])
  | .archiveCreate w => some (w, 0x2902, 1, [1])
  | .sealNow w => some (w, 0x2902, 1, [2])
  | .partnerAppend w d => some (w, 0x2905, 0, d)
  | .exportAck w d => some (w, 0x2903, 0, d)
  | .pageSelect w n => some (w, 0x2907, 0, p32 n.toNat)
  | .termSelect w n => some (w, 0x2909, 0, p32 n.toNat)
  | .cardRequest w d => some (w, 0x2920, 0, d)
  | .utcSet w v => some (w, 0x3000, 2, p64 v.toNat)
  | .apply w => some (w, 0x1110, 0x10, [1])
  | .keyDerivation w d => some (w, 0x1210, 0, d)
  | .timetableWrite w h d => some (w, 0x2400 + h.val, 0, d)
  | .bellScheduleWrite w c d => some (w, 0x2500 + c.val, 1, d)
  | .gateSetWrite w d => some (w, 0x2A00, 0, d)
  | .counterAdvance w d => some (w, 0x2C01, 0, d)
  | .lcTransitionRequest w d => some (w, 0x2001, 0, d)
  | .debugResponse w d => some (w, 0x2004, 0, d)
  | _ => none

/-- A register write by a master reaches its register: the debug port does not stop it, and the gates allow it (R404, R408). -/
def State.reaches (s : State) (m : Master) (a : Nat) : Prop := s.debugStopped m = false ∧ s.judge m a true s.lists false = none

/-- The open Term of the archive has ended with a cause, its seal is awaited, and the next Term is open; nothing else changed but what an upward
crossing of the warning logs (R271, R272). -/
def State.termClosed (s : State) (cause : Nat) (t : State) : Prop :=
  t = { s with arc := t.arc, evl := t.evl } ∧ t.arc.term = s.arc.term + 1 ∧ t.arc.next = s.arc.next + 2 ∧ t.arc.seals = s.arc.seals ∧
    t.arc.termTb = s.timeBase.toNat ∧ t.arc.termUtc = s.utc ∧ t.arc.termFirst = s.arc.next.toNat + 1 ∧
    ∃ x : ArcTerm, t.arc.awaiting = s.arc.awaiting ++ [x] ∧ x.term = s.arc.term.toNat ∧ x.cause = cause ∧ x.firstSeq = s.arc.termFirst ∧
      x.lastSeq = s.arc.next.toNat ∧ x.records = s.arc.next.toNat + 1 - s.arc.termFirst ∧ x.chainIn = s.arc.termChainIn ∧
      x.firstPage = s.arc.termPage

/-- A Term may end: the archive exists, the life cycle seals, and the tail and the SEQ space hold the two records. -/
def State.mayClose (s : State) : Prop :=
  s.arc.created = true ∧ s.lcSeals = true ∧ s.arc.mayClose = true ∧ s.arc.seqStuck = false ∧ s.arc.next.toNat + 1 < 2 ^ 64 - 1

/-- The bytes of the archive record (Table 9.1). -/
def archiveRecord (seq timeS src kind : Nat) (cont : Bool) (payload : Bytes) : Bytes :=
  p64 seq ++ p32 timeS ++ p8 src ++ p8 kind ++ p8 payload.length ++ p8 (b2n cont) ++ padTo 48 payload

/-! ## Messages of the Duner dictionary protocol -/

/-- The controller serves the port and takes the frame as a well-formed message of a type (R304). -/
def State.takesMsg (s : State) (m : DdpIn) (typ : Nat) (x : Msg) : Prop :=
  s.serves m.port = true ∧ Msg.parse m.port m.bytes = some x ∧ x.typ = typ

/-- The state right after a message was taken: its frame leaves the buffer, P2 and P3 end, and its sender's entry is fresh (R303, R308, R362). -/
def State.arrives (s : State) (m : DdpIn) : State :=
  let s0 := { s with net := { s.net with ports := updV s.net.ports m.port fun p => { p with rx := p.rx.erase m } } }
  (if s.power = .p2 ∨ s.power = .p3 then s0.wake 2 m.port.val else s0).touchPartner m.port.val m.addr

/-- The MAC that the partner must have used (R311). -/
def State.macOk (s : State) (y : Session) (x : Msg) : Prop := macOf (s.roleKey y.role) 0x50 y.np y.nc x.signed = x.mac

/-- The message is accepted in the open session `y` of its sender (R312, R313), and `a` is the state in which it is handled. -/
def State.inOpen (s : State) (m : DdpIn) (typ : Nat) (x : Msg) (y : Session) (a : State) : Prop :=
  s.takesMsg m typ x ∧ x.session ≠ 0 ∧ (s.arrives m).session x.session = some y ∧ y.boundTo m = true ∧ y.open_ = true ∧ (s.arrives m).macOk y x ∧
  ∃ hi seen, acceptSeq y.high y.seen x.seq = some (hi, seen) ∧ hi.toNat < 2 ^ 31 - 2 ∧
    a = (s.arrives m).modSession x.session fun z => { z with high := hi, seen := seen, lastHeard := s.timeBase.toNat }

/-- The message that the controller sends in session `k` (R311, R312). -/
def State.sessionMsg (s : State) (y : Session) (k typ flags xid : Nat) (body : Bytes) : TxMsg :=
  let b := msgBytes typ flags k xid y.seqOut.toNat body true
  { port := y.port, addr := y.addr, bytes := b ++ macOf (s.roleKey y.role) 0x43 y.np y.nc b }

/-- `t` is `s` with one more message sent in session `k`, whose numbers have not run out, and with what is kept of it (R312, R317). -/
def State.says (s : State) (y : Session) (k typ flags xid : Nat) (body : Bytes) (t : State) : Prop :=
  t.net.tx = s.net.tx ++ [s.sessionMsg y k typ flags xid body] ∧
  (∃ z, t.session k = some z ∧ z.seqOut = y.seqOut + 1 ∧ z.high = y.high ∧ z.open_ = y.open_ ∧ z.role = y.role) ∧
  (∀ j, j ≠ k → t.session j = s.session j) ∧ t = { s with net := t.net }

/-! ## Settings -/

/-- A block of the generation that the record in force selects holds `b` in `t`: a persistent write of it is complete (R344). -/
def State.holdsBlock (s t : State) (block : Nat) (b : Bytes) : Prop :=
  ∀ r, s.upd.inForce = some r → ∃ g, t.upd.generation r.settingsDir = some g ∧ g.blob block = some b

/-- The event of a persistent write (step 5 of R344): the next DIR_SEQ of the generation. -/
def State.storedEvent (s t : State) (idx sub role : Nat) : Prop :=
  s.lastEvent t 0x0303 srcFW (p16 idx ++ p8 sub ++ p8 role ++ p32 s.genNow.gen.toNat ++ p32 (s.genNow.dirSeq + 1).toNat)

/-- Sessions that `p` selects are closed in `t`, and every other session is as it was. -/
def State.closes (s t : State) (p : Session → Bool) : Prop :=
  ∀ k x, s.session k = some x → if p x then t.session k = none else t.session k = some x

/-- Which hosts of this part are fused. -/
def State.fusedHost (s : State) (h : Nat) : Bool := s.fused h

/-! ## Power -/

/-- A wake from P2, P3 or P4 into P0: PWR_WAKE tells its kind, port and the state left, the cores are on, and an exit from P4 is logged
(R362). -/
def State.wakes (s : State) (kind port : Nat) (t : State) : Prop :=
  t = { s with power := .p0, pwr := t.pwr, dgc := { s.dgc with on := 0xFFFF }, evl := t.evl } ∧
  t.pwr.wakeKind = BitVec.ofNat 3 kind ∧ t.pwr.wakePort = BitVec.ofNat 5 port ∧ t.pwr.wakeFrom = BitVec.ofNat 3 s.power.code ∧
  t.pwr.level = s.pwr.level ∧ t.pwr.since = s.timeBase.toNat ∧ (s.power ≠ .p4 → t.evl = s.evl) ∧
  (s.power = .p4 → s.lastEvent t 0x0D02 srcPWR (p32 t.pwr.wakeWord ++ p32 ((s.timeBase.toNat - s.pwr.since) / 1000)))

/-- The state may be entered (Table 12.2): from P0 or P1, deeper, permitted, and with none of its conditions open. -/
def State.mayEnter (s : State) (p : Fin 5) : Prop :=
  (s.power = .p0 ∨ s.power = .p1) ∧ s.power.code < p.val ∧ p.val ≤ s.permit.code ∧ s.holds p.val = 0 ∧ s.lcc.phase = .none ∧
    (p = 4 → s.clk.x32Fail = false)

/-- The offer that stands for its rank. -/
def standsFor (os : List JobOffer) (o : JobOffer) : Prop := os.find? (fun x => x.rank = o.rank) = some o

/-- A reading of a sensor that is in its range (R368). -/
def readingOk (r : Option Int) : Prop := ∃ x, r = some x ∧ -550 ≤ x ∧ x ≤ 1500

/-! ## Registers behind gates -/

/-- The masters' register writes that the gates judge by their address: the master, the address, and whether it is KEY_CMD with OP REVOKE. -/
def gatedWrite (i : Instr) : Option (Master × Nat × Bool) :=
  match i with
  | .keyLoad m _ => some (m, 0x40060010, false)
  | .keyGenerate m _ => some (m, 0x40060010, false)
  | .keyCmdRevoke m _ _ => some (m, 0x40060010, true)
  | .gateClr m g => some (m, 0x40040018 + g.val * 0x400, false)
  | .gateRegionWrite m g k r _ => some (m, 0x40040100 + g.val * 0x400 + 0x10 * k.val + 4 * r.val, false)
  | .lccCmd m _ => some (m, 0x40030004, false)
  | .tmpCfgWrite m _ => some (m, 0x40600000, false)
  | .sysRload m _ => some (m, 0x40000018, false)
  | _ => none

/-- KEY_CMD is reached with OP REVOKE. -/
def State.reachesRevoke (s : State) (m : Master) : Prop := s.debugStopped m = false ∧ s.judge m 0x40060010 true s.lists true = none

/-- A key command has ended with a result. -/
def State.keyEnds (s : State) (r : BitVec 4) : State :=
  { s with keys := { s.keys with busy := false, done := true, result := r, loadData := [] } }

/-- A reseed of the working state `w` with entropy `e` (R396). -/
def State.reseeded (s : State) (w : Drbg.Work) (e : Bytes) (t : State) : Prop :=
  t.rng.drbg = some (w.reseed e (p64 s.timeBase.toNat ++ p32 s.netBoot.toNat)) ∧ t.rng.lastReseed = s.timeBase.toNat ∧ t.rng.sinceReseed = 0 ∧
  t.rng.dueSince = none ∧ t.rng.reqs = {} ∧ t.rng.reseeds = s.rng.reseeds.inc ∧
  s.lastEvent t 0x0723 srcRNG (p8 1 ++ p32 s.rng.reqs.word.toNat) ∧ t = { s with rng := t.rng, free := t.free, evl := t.evl }

/-! ## Life cycle and debug -/

/-- A transition to `target` has begun (steps 2 to 5 of R422): no session, no provisioning session and no open debug master is left, hosts that
were Measuring, On Hall pass or Running are Held, and the fuses are as they were. -/
def State.transitionBegun (s : State) (target : Nat) (t : State) : Prop :=
  t.lcc = { s.lcc with
    phase := .sample, target := target, rec2002 := target * 256 + 1, xStatus := 1, xCause := 0, xTarget := target
    heldHosts := all24.filter fun h => decide ((s.imgOf h).state ∈ [HostState.measuring, .hallPass, .running]) } ∧
  (∀ k, t.session k = none) ∧ t.dbg.prov = false ∧ t.dbg.open_ = false ∧ t.power = .p0 ∧
  (∀ h, (t.imgOf h).state = if (s.imgOf h).state ∈ [HostState.measuring, .hallPass, .running] then .held else (s.imgOf h).state) ∧
  t.keys.slots = s.keys.slots ∧ t.plc.flash = s.plc.flash ∧ t.nv = s.nv ∧ t.sram = s.sram ∧ t.ctr = s.ctr ∧ t.upd = s.upd ∧ t.gates = s.gates

/-- The form of an unlock response for a challenge issued at `issued` (Table 15.8, R431): in time, whole, for 60 s to 24 h, in a state that takes it. -/
def State.responseOk (s : State) (issued : Nat) (b : Bytes) : Prop :=
  s.timeBase.toNat < issued + 300000000 ∧ b.length = 40 ∧ u8 b 0 = 1 ∧ allZero (field b 1 3) = true ∧ 60 ≤ u32 b 4 ∧ u32 b 4 ≤ 86400 ∧
    (s.lcc.state = .fielded ∨ s.lcc.state = .returned)

/-- The MAC over challenge `c` by the owner's key in slot 1 matches the response. -/
def State.responseMacOk (s : State) (c b : Bytes) : Prop :=
  (s.slot 1).state = 1 ∧ Hash.hmac 1 (s.slot 1).key (ascii "KRDU" ++ c ++ unitIdBytes ++ field b 0 1 ++ field b 4 4) = field b 8 32

/-- The debug port's instruction is selected. -/
def State.jtag (s : State) (r : JtagReg) (p : PinDrive) : State := { s with dbg := { s.dbg with ir := r, pins := p } }

/-- The open debug master is locked: a provisioning session closes with it, and its key load buffer clears (R432). -/
def State.locks (s : State) (cause : Nat) (t : State) : Prop :=
  t.dbg = { s.dbg with open_ := false, until_ := none, prov := false } ∧
  t.keys = (if s.dbg.prov then { s.keys with loadData := [] } else s.keys) ∧ s.lastEvent t 0x0F06 srcFW (p8 cause) ∧
  t = { s with dbg := t.dbg, keys := t.keys, evl := t.evl }

/-! ## Resets and start-up -/

/-- A cold reset with a cause (bit of CLK_RSTCAUSE, 0 power-on) has left `t` (R471, Table 17.4): the NV store, the pool, the fuses and, but at power-on, the
always-on domain keep what they hold, and every other part is at its reset value. The values that a part has no reset value for in the spec
are the model's (log entry 3). -/
def State.isReset (s : State) (cause : Nat) (t : State) : Prop :=
  t.clk.rstCause = (if cause = 0 then 1 else s.clk.rstCause ||| BitVec.ofNat 7 (2 ^ cause)) ∧ t.clk.floor = s.clk.floor ∧ t.clk.heldReset = none ∧
  t.timeBase = (if cause = 0 then s.clk.floor + 60000000 else s.timeBase) ∧ t.utc = (if cause = 0 then none else s.utc) ∧
  t.tmp = (if cause = 0 then { s.tmp with latch := 0 } else s.tmp) ∧
  t.pending = s.pending ∧ t.part = s.part ∧ t.netBoot = s.netBoot ∧ t.boot = s.boot ∧ t.sram = s.sram ∧
  (s.nvc.write = none → t.nv = s.nv) ∧ t.plc.flash = s.plc.flash ∧ t.plc.extents = s.plc.extents ∧ t.plc.journal = s.plc.journal ∧
  t.plc.shadows = s.plc.shadows ∧ t.keys.slots = s.keys.slots ∧ (∀ k, t.counter k = s.counter k) ∧ t.lcc.state = s.lcc.state ∧ t.lcc.phase = .none ∧
  t.signer.ring = s.signer.ring ∧ t.arc.seals = s.arc.seals ∧ t.arc.pages = s.arc.pages ∧ t.arc.next = s.arc.next ∧ t.arc.chain = s.arc.chain ∧
  t.upd.gens = s.upd.gens ∧ t.upd.rec0 = s.upd.rec0 ∧ t.upd.rec1 = s.upd.rec1 ∧ t.upd.actSel = s.upd.actSel ∧ t.evl.ring = s.evl.ring ∧
  t.power = .p0 ∧ (∀ h, (t.imgOf h).state = .off ∧ t.port h = {} ∧ t.ttOf h = {}) ∧ t.hcs = {} ∧ (∀ g, t.gates.get g = {}) ∧ t.dbg = {} ∧ t.dgc = {} ∧
  t.sig = {} ∧ t.sys = {} ∧ t.nvc = {} ∧ t.latches = [] ∧ t.lists = [] ∧ (∀ k, t.session k = none) ∧ (∀ k, (t.net.ports.get k).cfg = NetCfg.off)

/-- A warm restart of the processor with no Trial in force has left `t` (R16, R452 to R454, R446): no session and no transfer is left, mailbox requests are
answered BUSY with 20,000 µs, and what the restart does not touch stays. With a firmware the hosts go on as they were and NET_BOOT counts
it; with none the ROM listens and the hosts that are on are Held. -/
def State.restarted (s : State) (kind : BitVec 2) (t : State) : Prop :=
  t.restarting = true ∧ t.sys.kind = kind ∧ (∀ k, t.session k = none) ∧ t.net.transfers = [] ∧ t.sys.wdtEn = false ∧
  (∀ h, (s.port h).hpw.mbPending = true → (t.port h).hpw.mbDone = true ∧ (t.port h).hpw.mbPending = false ∧ (t.port h).hpw.mbCode = 1 ∧
    (t.port h).hpw.mbRetry = 20000) ∧
  t.plc.flash = s.plc.flash ∧ t.nv = s.nv ∧ t.gates = s.gates ∧ t.lcc = s.lcc ∧ t.keys = s.keys ∧ t.ctr = s.ctr ∧ t.clk = s.clk ∧ t.timeBase = s.timeBase ∧
  (t.sys.inRom = false → t.netBoot = (if s.netBoot = BitVec.allOnes 32 then s.netBoot else s.netBoot + 1) ∧
    ∀ h, (t.imgOf h).state = (s.imgOf h).state ∧ t.sides h = s.sides h) ∧
  (t.sys.inRom = true → t.sys.listen = 1 ∧ t.netBoot = s.netBoot ∧
    ∀ h, (t.imgOf h).state = if (s.imgOf h).state = .off then .off else .held)

/-- The recovery bundle's image is whole and matches its digest list (check 8 of Table 16.4). -/
def State.recoveryWhole (s : State) : Prop :=
  (recoveryImage s.rBundle).length = envLength (recoveryEnv s.rBundle) ∧ imageMatches (recoveryEnv s.rBundle) (recoveryImage s.rBundle) = true

/-- The ROM has started the recovery firmware (R451): it runs on its cold path, no session of the ROM is left, and the scan is to come. -/
def State.recovered (s t : State) : Prop :=
  t.sys.inRom = false ∧ t.sys.listen = 0 ∧ t.sys.recovery = true ∧ t.restarting = false ∧ t.plc.scanning = true ∧ t.hcs.alertBoot = false ∧
  (∀ k, t.session k = none) ∧ t.clk.rstCause = 0 ∧ t.netBoot = (if s.netBoot = BitVec.allOnes 32 then s.netBoot else s.netBoot + 1) ∧
  t.plc.flash = s.plc.flash ∧ t.lcc = s.lcc ∧ t.keys = s.keys

/-! ## Events, sidebands and gates -/

/-- A refused access to address `a` is recorded at its gate, as the first violation or in the count (R408 to R410); the debug port sees its
sticky error. -/
def State.refused (s : State) (m : Master) (a access rule : Nat) (t : State) : Prop :=
  t = { s with gates := t.gates, evl := t.evl, dbg := t.dbg } ∧
  t.dbg = (if m = .debug then { s.dbg with sticky := true } else s.dbg) ∧
  (∀ g, g ≠ recordGate a → t.gates.get g = s.gates.get g) ∧
  ((s.gates.get (recordGate a)).valid = true →
    t.gates.get (recordGate a) = { s.gates.get (recordGate a) with vcount := (s.gates.get (recordGate a)).vcount.inc }) ∧
  ((s.gates.get (recordGate a)).valid = false →
    t.gates.get (recordGate a) = { s.gates.get (recordGate a) with
      valid := true, firstAddr := BitVec.ofNat 32 a, master := BitVec.ofNat 8 (masterId m), access := BitVec.ofNat 2 access
      rule := BitVec.ofNat 4 rule, firstTime := s.timeBase } ∧
    s.lastEvent t 0x0E01 srcGATE (p8 (recordGate a).val ++ p32 a ++ p8 (masterId m) ++ p8 access ++ p8 rule))

/-- HCn_RST_N has fallen for exactly the hosts of `m`: their ports are reset and their frames end (R31, R47); other ports are as they were. -/
def State.resetsPorts (s t : State) (m : BitVec 24) : Prop :=
  (∀ h : Host24, m.getLsbD h.val = false → t.port h = s.port h ∧ t.ttOf h = s.ttOf h ∧ t.extents h = s.extents h) ∧
  (∀ h : Host24, m.getLsbD h.val = true → (t.port h).frame = none ∧ (t.port h).cmd = .s1 ∧ (t.port h).wel = false ∧ (t.port h).armed = none ∧
    (t.port h).rstEn = false ∧ (t.port h).prefetch = none ∧ (t.port h).pending = (s.port h).pending ∧ (t.port h).stat = (s.port h).stat)

/-- The SRAM word at byte offset `o` is found uncorrectable by the patrol (R480, R481). -/
def State.patrolHit (s : State) (corrected o : Nat) (t : State) : Prop :=
  t = { s with evl := t.evl } ∧ t.evl.sramUnc = s.evl.sramUnc.inc ∧ t.evl.sramUncAddr = BitVec.ofNat 24 (o % 0x1000000 / 8 * 8) ∧
  t.evl.sramBad = s.evl.sramBad.filter (· ≠ 0x10000000 + o % 0x1000000 / 8 * 8) ++ [0x10000000 + o % 0x1000000 / 8 * 8] ∧
  t.evl.sramCorr = (List.range corrected).foldl (fun c _ => c.inc) s.evl.sramCorr ∧ t.evl.ring = s.evl.ring ∧
  s.lastEvent t 0x0011 srcSYS (p8 0x3F ++ p32 (0x10000000 + o % 0x1000000 / 8 * 8))

end Sys2Proof.Machine
end

