-- ==== Sys2Proof/Certificates/Slice0/Obligations.lean ====
section
/-! DEFINITION. The statements for the provers, one for each rule or group of rules of the spec, by chapter. -/
section Statements
open Sys2Proof Sys2Proof.Machine

/-! ## The queue and the step -/

/-- A step takes the command at the front of the queue and answers what that command does to the state with the rest of the queue. -/
def Obligations.StepRunsFront : Prop :=
  ∀ (c : Instr) (cs : List Instr) (s : State), s.pending = c :: cs → step s = exec c { s with pending := cs }

/-- With no command waiting a step is a tick of the block's clocks (the model's choice, log entry 1). -/
def Obligations.EmptyQueueTicks : Prop :=
  ∀ s : State, s.pending = [] → step s = .next s.tick

/-! ## Host frames (chapter 2) -/

/-- R31, R33, R43, R44: control frames without a data phase, on a port that takes them and under no clause that denies them, change
the port as the rules say and nothing else; RST resets the port only right after Reset Enable; DP and RES do nothing.
R31: Write Mode Register without WEL is ignored; with WEL a value that the Timetable permits becomes the command state and clears
WEL, a value with no command state sets HPC_STAT.DENIED and changes nothing else, and one that the Timetable forbids is denied. -/
def Obligations.ControlFrames : Prop :=
  (∀ (f : Frame) (s : State),
     (s.takes f 0x06 0x10 → s.ctlPasses f.port 0x06 0x10 →
       ∃ t, exec (.wren f) s = .next t ∧ s.portTo f.port { s.fresh f.port with wel := true } (s.noLog f.port 0x06 0x10 0) t) ∧
     (s.takes f 0x04 0x11 → s.ctlPasses f.port 0x04 0x11 →
       ∃ t, exec (.wrdi f) s = .next t ∧ s.portTo f.port { s.fresh f.port with wel := false } (s.noLog f.port 0x04 0x11 0) t) ∧
     (s.takes f 0x50 0x14 → s.ctlPasses f.port 0x50 0x14 →
       ∃ t, exec (.clfsr f) s = .next t ∧
         s.portTo f.port { s.fresh f.port with eraseErr := false, progErr := false, prot := false } (s.noLog f.port 0x50 0x14 0) t) ∧
     (s.takes f 0x01 0x15 → s.ctlPasses f.port 0x01 0x15 →
       ∃ t, exec (.wrsr f) s = .next t ∧ s.portTo f.port { s.fresh f.port with wel := false } (s.noLog f.port 0x01 0x15 0) t) ∧
     (s.takes f 0xB7 0x18 → s.ctlPasses f.port 0xB7 0x18 →
       ∃ t, exec (.en4b f) s = .next t ∧ s.portTo f.port { s.fresh f.port with addr4 := true } (s.noLog f.port 0xB7 0x18 0) t) ∧
     (s.takes f 0xE9 0x19 → s.ctlPasses f.port 0xE9 0x19 →
       ∃ t, exec (.ex4b f) s = .next t ∧ s.portTo f.port { s.fresh f.port with addr4 := false } (s.noLog f.port 0xE9 0x19 0) t) ∧
     (s.takes f 0x66 0x1C → s.ctlPasses f.port 0x66 0x1C →
       ∃ t, exec (.rsten f) s = .next t ∧ s.portTo f.port { s.fresh f.port with rstEn := true } (s.noLog f.port 0x66 0x1C 0) t) ∧
     (s.takes f 0x99 0x1D → s.ctlPasses f.port 0x99 0x1D → (s.port f.port).rstEn = true →
       ∃ t, exec (.rst f) s = .next t ∧ s.portTo f.port
         { s.fresh f.port with cmd := .s1, addr4 := 4096 < (s.portTt f.port).vsizePages, wel := false, armed := none, prefetch := none }
         (s.noLog f.port 0x99 0x1D 0) t) ∧
     (s.takes f 0x99 0x1D → s.ctlPasses f.port 0x99 0x1D → (s.port f.port).rstEn = false →
       ∃ t, exec (.rst f) s = .next t ∧ s.portTo f.port (s.fresh f.port) (s.noLog f.port 0x99 0x1D 0) t) ∧
     (s.takes f 0xB9 0x1E → s.ctlPasses f.port 0xB9 0x1E →
       ∃ t, exec (.dp f) s = .next t ∧ s.portTo f.port (s.fresh f.port) (s.noLog f.port 0xB9 0x1E 0) t) ∧
     (s.takes f 0xAB 0x1F → s.ctlPasses f.port 0xAB 0x1F →
       ∃ t, exec (.res f) s = .next t ∧ s.portTo f.port (s.fresh f.port) (s.noLog f.port 0xAB 0x1F 0) t)) ∧
  (∀ (f : Frame) (s : State), s.takes f 0x81 0x16 →
     ((s.port f.port).wel = false → ∃ t, exec (.wrmr f) s = .next t ∧ s.portTo f.port (s.fresh f.port) True t) ∧
     ((s.port f.port).wel = true → s.ctlPasses f.port 0x81 0x16 →
       (∀ cs b, modeOfByte (f.data.headD 0xFF) = some (cs, b) → bit (s.portTt f.port).modesPermitted b = true →
         ∃ t, exec (.wrmr f) s = .next t ∧
           s.portTo f.port { s.fresh f.port with cmd := cs, wel := false } (s.noLog f.port 0x81 0x16 0) t) ∧
       (modeOfByte (f.data.headD 0xFF) = none →
         ∃ t, exec (.wrmr f) s = .next t ∧
           s.portTo f.port { s.fresh f.port with stat := (s.port f.port).stat ||| 0x080 } (s.noLog f.port 0x81 0x16 0) t) ∧
       (∀ cs b, modeOfByte (f.data.headD 0xFF) = some (cs, b) → bit (s.portTt f.port).modesPermitted b = false →
         s.noLog f.port 0x81 0x16 0 →
         exec (.wrmr f) s = .next (State.raise
           { s with ports := s.ports.set f.port { s.fresh f.port with stat := (s.port f.port).stat ||| 0x080, prot := true } }
           0x0128 srcTTB (p8 f.port.val ++ p8 0x81 ++ p32 0)))))

/-- R43, R44, R31, R50: the frames that read a status answer its byte to the end of the frame, and Write Status Register only clears WEL; Read ID answers the ID bytes of the
Timetable and then zeros, Read SFDP the table from the frame's address, after a status byte in native mode (R40). -/
def Obligations.StatusFrames : Prop :=
  ∀ (f : Frame) (s : State),
    (s.takes f 0x05 0x12 → s.ctlPasses f.port 0x05 0x12 →
      ∃ t, exec (.rdsr f) s = .next t ∧ s.portTo f.port
        { s.fresh f.port with out := List.replicate f.want (BitVec.ofNat 8 (b2n (s.port f.port).wip + 2 * b2n (s.port f.port).wel)) }
        (s.noLog f.port 0x05 0x12 0) t) ∧
    (s.takes f 0x01 0x15 → s.ctlPasses f.port 0x01 0x15 →
      ∃ t, exec (.wrsr f) s = .next t ∧ s.portTo f.port { s.fresh f.port with wel := false } (s.noLog f.port 0x01 0x15 0) t) ∧
    (s.takes f 0x70 0x13 → s.ctlPasses f.port 0x70 0x13 →
      ∃ t, exec (.rdfsr f) s = .next t ∧ s.portTo f.port
        { s.fresh f.port with
          out := List.replicate f.want (BitVec.ofNat 8 (128 * b2n (!(s.port f.port).wip) + 32 * b2n (s.port f.port).eraseErr +
            16 * b2n (s.port f.port).progErr + 2 * b2n (s.port f.port).prot)) }
        (s.noLog f.port 0x70 0x13 0) t) ∧
    (s.takes f 0x85 0x17 → s.ctlPasses f.port 0x85 0x17 →
      ∃ t, exec (.rdmr f) s = .next t ∧ s.portTo f.port
        { s.fresh f.port with out := List.replicate f.want (match (s.port f.port).cmd with | .s1 => 0x00 | .s4 => 0x04 | .d8 => 0x08) }
        (s.noLog f.port 0x85 0x17 0) t) ∧
    (s.takes f 0x9F 0x1A → s.ctlPasses f.port 0x9F 0x1A →
      ∃ t, exec (.rdid f) s = .next t ∧ s.portTo f.port
        { s.fresh f.port with
          out := (s.portTt f.port).idBytes.take f.want ++ List.replicate (f.want - (s.portTt f.port).idBytes.length) 0 }
        (s.noLog f.port 0x9F 0x1A 0) t) ∧
    (s.takes f 0x5A 0x1B → s.ctlPasses f.port 0x5A 0x1B → cfgNativeCrc (s.port f.port).cfg.toNat = false →
      ∃ t, exec (.rdsfdp f) s = .next t ∧ s.portTo f.port
        { s.fresh f.port with
          out := (if cfgNative (s.port f.port).cfg.toNat then [s.freshStatus f.port true false] else []) ++
            sfdpRead (s.portTt f.port) (if (s.port f.port).cmd = .s1 then f.addr.toNat % 2 ^ 24 else f.addr.toNat) f.want }
        (s.noLog f.port 0x5A 0x1B 0) t)

/-- R36, R53, Table 3.7: a read whose bytes lie in one page of the host's virtual flash drives them in order, after a status byte in
native mode, and arms or disarms continuous read by its mode byte; an address-first frame on an armed port does the same in the
arming opcode's span. Placement, flash, write state and every other port stay. -/
def Obligations.ReadFrames : Prop :=
  ∀ (i : Instr) (f : Frame) (op k a : Nat) (c : Clause) (pg : Bytes) (s : State),
    ((∃ shape, frameCmd i = some (f, op, shape) ∧ 1 ≤ shape ∧ shape ≤ 8 ∧ s.takes f op shape ∧ a = frameAddr (s.port f.port) shape f) ∨
      (i = .contReadFrame f ∧ s.portIdle f.port ∧ (s.port f.port).armed = some op ∧ f.ending = .whole ∧ a = f.addr.toNat)) →
    s.clauseAt f.port op (standardShape op) a = some (k, c) → effAction (s.hallPass f.port) c ≤ 1 →
    s.readPage f.port ((a + c.arg0) % 2 ^ 32 / 4096) true = some pg →
    f.want + (a + c.arg0) % 2 ^ 32 % 4096 ≤ pg.length → f.want ≤ f.avail →
    cfgNativeCrc (s.port f.port).cfg.toNat = false →
    (cfgNative (s.port f.port).cfg.toNat = true → pg.length ≤ f.avail + (a + c.arg0) % 2 ^ 32 % 4096) →
    ∃ t, exec i s = .next t ∧
      t = { s with ports := t.ports, tt := t.tt, evl := t.evl, img := t.img
                   pwr := { s.pwr with hbytes := s.pwr.hbytes + BitVec.ofNat 64 f.want } } ∧
      (∀ h, h ≠ f.port → t.port h = s.port h ∧ t.imgOf h = s.imgOf h) ∧
      t.imgOf f.port = { s.imgOf f.port with
        tap := (t.imgOf f.port).tap, tapDone := (t.imgOf f.port).tapDone, sweepQueue := (t.imgOf f.port).sweepQueue } ∧
      t.port f.port = { s.fresh f.port with
        out := (if cfgNative (s.port f.port).cfg.toNat then [s.freshStatus f.port true false] else []) ++
          (pg.drop ((a + c.arg0) % 2 ^ 32 % 4096)).take f.want
        armed := if standardShape op = 5 ∨ standardShape op = 6 ∨ (standardShape op = 8 ∧ (s.port f.port).cmd = .s4) then
            (if f.mode.toNat / 16 = 0xA ∧ cfgContEn (s.port f.port).cfg.toNat = true ∧ c.cont = true then some op else none)
          else (s.port f.port).armed
        prefetch := (t.port f.port).prefetch, frame := (t.port f.port).frame } ∧
      (f.keepsSelect = false → (t.port f.port).frame = none) ∧ s.logOnly t (c.log = false)

/-- R56, R74, Table 3.7: a read within one page that its clause denies, or that no clause matches under a default of deny, drives fill,
sets READ_FILLED, keeps the first address of the run in HPC_FILLADDR and logs EV 0x0124; a fill clause drives its fill byte and a
substitute clause the pool's bytes, and neither leaves a flag. -/
def Obligations.ReadsNotFromFlash : Prop :=
  ∀ (i : Instr) (f : Frame) (op shape : Nat) (s : State),
    frameCmd i = some (f, op, shape) → 1 ≤ shape → shape ≤ 8 → s.takes f op shape →
    cfgNative (s.port f.port).cfg.toNat = false → f.keepsSelect = false → 1 ≤ f.want →
    f.want + frameAddr (s.port f.port) shape f % 4096 ≤ 4096 →
    (s.clauseAt f.port op shape (frameAddr (s.port f.port) shape f) = none → (s.portTt f.port).defaultAction ≠ 4 →
      ∃ t, exec i s = .next t ∧
        (t.port f.port).out = List.replicate f.want (cfgFill (s.port f.port).cfg.toNat) ∧
        (t.port f.port).stat = (s.port f.port).stat ||| 0x004 ∧
        (t.port f.port).fillAddr = (if (s.port f.port).stat.getLsbD 2 then (s.port f.port).fillAddr
          else BitVec.ofNat 32 (frameAddr (s.port f.port) shape f)) ∧
        t.evl = (s.raise 0x0124 srcHPC (p8 f.port.val ++ p32 (frameAddr (s.port f.port) shape f))).evl ∧
        t = { s with ports := t.ports, evl := t.evl } ∧ ∀ h, h ≠ f.port → t.port h = s.port h) ∧
    (s.clauseAt f.port op shape (frameAddr (s.port f.port) shape f) = none → (s.portTt f.port).defaultAction = 4 →
      ∃ t, exec i s = .next t ∧ (t.port f.port).out = List.replicate f.want (cfgFill (s.portTt f.port).cfg) ∧
        (t.port f.port).stat = (s.port f.port).stat ∧ t = { s with ports := t.ports } ∧ ∀ h, h ≠ f.port → t.port h = s.port h) ∧
    (∀ k c, s.clauseAt f.port op shape (frameAddr (s.port f.port) shape f) = some (k, c) → c.log = false →
      (effAction (s.hallPass f.port) c = 2 →
        ∃ t, exec i s = .next t ∧
          (t.port f.port).out = List.replicate f.want (cfgFill (s.port f.port).cfg.toNat) ∧
          (t.port f.port).stat = (s.port f.port).stat ||| 0x004 ∧
          t.evl = (s.raise 0x0124 srcHPC (p8 f.port.val ++ p32 (frameAddr (s.port f.port) shape f))).evl ∧
          t = { s with ports := t.ports, evl := t.evl } ∧ ∀ h, h ≠ f.port → t.port h = s.port h) ∧
      (effAction (s.hallPass f.port) c = 3 →
        ∃ t, exec i s = .next t ∧
          (t.port f.port).out = substBytes (s.portTt f.port) c (frameAddr (s.port f.port) shape f) f.want ∧
          (t.port f.port).stat = (s.port f.port).stat ∧
          t = { s with ports := t.ports, pwr := { s.pwr with hbytes := s.pwr.hbytes + BitVec.ofNat 64 f.want } } ∧
          ∀ h, h ≠ f.port → t.port h = s.port h) ∧
      (effAction (s.hallPass f.port) c = 4 →
        ∃ t, exec i s = .next t ∧
          (t.port f.port).out = List.replicate f.want
            (if bit c.arg0 8 then BitVec.ofNat 8 c.arg0 else cfgFill (s.portTt f.port).cfg) ∧
          (t.port f.port).stat = (s.port f.port).stat ∧
          t = { s with ports := t.ports } ∧ ∀ h, h ≠ f.port → t.port h = s.port h))

/-- R45, R46, R140: with WEL set, WIP clear, the data within one program unit and a clause that passes it, a program frame becomes the
host's pending write: the page's present content with the data ANDed in at its offset.
R48, R74: an erase of 4 KiB or 64 KiB covers its aligned block; one clause must match the whole of it. Erase-all covers the ranges of
every clause of its span in the port's mode. -/
def Obligations.ProgramAndEraseFrames : Prop :=
  (∀ (i : Instr) (f : Frame) (op shape k a : Nat) (c : Clause) (data : Bytes) (s : State),
     frameCmd i = some (f, op, shape) → (shape = 0x09 ∨ shape = 0x0A) → s.takes f op shape →
     (s.port f.port).wel = true → (s.port f.port).wip = false → a = frameAddr (s.port f.port) shape f →
     splitCrc (cfgNativeCrc (s.port f.port).cfg.toNat) ((s.port f.port).cmd = .d8) (BitVec.ofNat 32 a) f.data = (data, true) →
     ((s.port f.port).cmd = .d8 → f.data.length % 2 = 0 ∧ a % 2 = 0) →
     data ≠ [] → a % cfgProgUnit (s.port f.port).cfg.toNat + data.length ≤ cfgProgUnit (s.port f.port).cfg.toNat →
     s.clauseAt f.port op shape a = some (k, c) → effAction (s.hallPass f.port) c ≤ 1 →
     ∃ t, exec i s = .next t ∧
       s.acceptsWrite f.port false (if effAction (s.hallPass f.port) c = 1 then [(a + c.arg0) % 2 ^ 32 / 4096] else [])
         [((a + c.arg0) % 2 ^ 32 / 4096,
           some (programPage (s.oldPage f.port ((a + c.arg0) % 2 ^ 32 / 4096) true) ((a + c.arg0) % 2 ^ 32 % 4096) data))]
         data.length (c.log = false) t) ∧
  ((∀ (i : Instr) (f : Frame) (op shape size k lo : Nat) (c : Clause) (s : State),
     frameCmd i = some (f, op, shape) → ((shape = 0x0B ∨ shape = 0x0C) ∧ size = 4096 ∨ (shape = 0x0D ∨ shape = 0x0E) ∧ size = 65536) →
     s.takes f op shape → f.data = [] → (s.port f.port).wel = true → (s.port f.port).wip = false →
     lo = frameAddr (s.port f.port) shape f / size * size →
     (s.portTt f.port).lookup op (ifaceMode (s.port f.port).cmd shape) lo (lo + size - 1) = some (k, c) →
     effAction (s.hallPass f.port) c ≤ 1 →
     ∃ t, exec i s = .next t ∧
       s.acceptsWrite f.port true
         (if effAction (s.hallPass f.port) c = 1 then (List.range (size / 4096)).map fun j => (lo + c.arg0) % 2 ^ 32 / 4096 + j else [])
         ((List.range (size / 4096)).map fun j => ((lo + c.arg0) % 2 ^ 32 / 4096 + j, none)) 0 (c.log = false) t) ∧
   (∀ (f : Frame) (s : State) (ms : List (Nat × Clause)), s.takes f 0xC7 0x0F → (s.port f.port).wel = true → (s.port f.port).wip = false →
     ms = ((s.portTt f.port).span 0xC7).filter (fun x => opTest 0xC7 x.2 && bit x.2.modes (ifaceMode (s.port f.port).cmd 0x0F)) →
     ms ≠ [] → (s.hallPass f.port = true → ∀ x ∈ ms, x.2.hall = true) →
     ∃ t, exec (.eraseAll f) s = .next t ∧
       s.acceptsWrite f.port true ((ms.filter fun x => x.2.action = 1).flatMap fun x => rangePages (s.portTt f.port) x.2)
         ((ms.flatMap fun x => rangePages (s.portTt f.port) x.2).eraseDups.map fun v => (v, none)) 0 (∀ x ∈ ms, x.2.log = false) t))

/-- R28, R29, R32, R33, R39, R57: a port that does not decode ignores every frame; in P3 a frame wakes the controller, and a host that does not
honour HPn_RDY loses that frame; a frame cut in its command phase is torn; an 8D frame with a wrong inverse byte is CMD_BAD; an opcode
without a shape in the port's command state is ignored with DENIED.
Table 3.7: a control frame that its clause denies sets HPC_STAT.DENIED, drives fill in a data phase and logs EV 0x0128; it has no
other effect. Write Mode Register, whose denial also sets PROT, has its own statement. -/
def Obligations.FramesTurnedAway : Prop :=
  ((∀ (i : Instr) (f : Frame) (op shape : Nat) (s : State), frameCmd i = some (f, op, shape) →
     (s.decodes f.port = false → exec i s = .next s) ∧
     (s.decodes f.port = true → s.power = .p3 → f.honoursRdy = false → exec i s = .next (s.wake wkHost f.port.val)) ∧
     (s.decodes f.port = true → s.power = .p3 → f.honoursRdy = true → exec i s = exec i (s.wake wkHost f.port.val)) ∧
     (s.portIdle f.port → (s.port f.port).armed = none → f.ending = .inCommand →
       exec i s = .next (State.raise
         { s with ports := s.ports.set f.port { s.fresh f.port with
             stat := (s.port f.port).stat ||| 0x001, torn := (s.port f.port).torn.inc } }
         0x0121 srcHPC (p8 f.port.val ++ p8 0 ++ p8 (Config.eventCode 0x0121 0).toNat))) ∧
     (s.portIdle f.port → (s.port f.port).armed = none → f.ending ≠ .inCommand → (s.port f.port).cmd = .d8 →
       f.inverse ≠ ~~~(BitVec.ofNat 8 op) →
       exec i s = .next ((State.raise
         { s with ports := s.ports.set f.port { s.fresh f.port with
             stat := (s.port f.port).stat ||| 0x008, torn := (s.port f.port).torn.inc } }
         0x0121 srcHPC (p8 f.port.val ++ p8 3 ++ p8 op)).raise 0x0122 srcHPC (p8 f.port.val ++ p8 op ++ p8 f.inverse.toNat))) ∧
     (s.portIdle f.port → (s.port f.port).armed = none → f.ending ≠ .inCommand → s.inverseOk f op →
       shapeIn (s.portTt f.port) (s.port f.port).cmd op shape = false →
       exec i s = .next { s with ports := s.ports.set f.port { s.fresh f.port with stat := (s.port f.port).stat ||| 0x080 } })) ∧
   (∀ (f : Frame) (s : State), s.portIdle f.port → (s.port f.port).armed = none → f.ending ≠ .inCommand → s.inverseOk f f.lead.toNat →
     idxShape ((s.portTt f.port).entry f.lead.toNat) = 0 →
     exec (.unknownOpcode f) s = .next { s with ports := s.ports.set f.port { s.fresh f.port with stat := (s.port f.port).stat ||| 0x080 } })) ∧
  (∀ (i : Instr) (f : Frame) (op shape k : Nat) (c : Clause) (s : State),
     frameCmd i = some (f, op, shape) → 0x10 ≤ shape → shape ≤ 0x1F → shape ≠ 0x16 → s.takes f op shape →
     s.clauseAt f.port op shape 0 = some (k, c) → effAction (s.hallPass f.port) c = 2 → c.log = false →
     exec i s = .next (State.raise
       { s with ports := s.ports.set f.port { s.fresh f.port with
           stat := (s.port f.port).stat ||| 0x080
           out := if shape = 0x12 ∨ shape = 0x13 ∨ shape = 0x17 ∨ shape = 0x1A ∨ shape = 0x1B then
             List.replicate f.want (cfgFill (s.port f.port).cfg.toNat) else [] } }
       0x0128 srcTTB (p8 f.port.val ++ p8 op ++ p32 0)))

/-! ## The mailbox (R59 to R64) -/

/-- R59, R60: a mailbox write that its clause serves, aligned and of whole words within the request buffer, stores its bytes there. A
mailbox read answers the frame status and then the words of the window from its offset; reading HPW_TIME_LO latches HPW_TIME_HI. A
frame that no clause serves is denied. -/
def Obligations.MailboxFrames : Prop :=
  ∀ (f : Frame) (k : Nat) (c : Clause) (s : State),
    (s.takes f 0xE3 0x20 → s.clauseAt f.port 0xE3 0x20 0 = some (k, c) → effAction (s.hallPass f.port) c = 5 →
      bit (s.portTt f.port).hpwDeny 15 = false → f.addr.toNat % 4 = 0 → f.data.length % 4 = 0 → 0x100 ≤ f.addr.toNat →
      f.addr.toNat + f.data.length ≤ 0x500 →
      ∃ t, exec (.mbw f) s = .next t ∧ s.portTo f.port
        { s.fresh f.port with hpw := { (s.port f.port).hpw with
            mbReq := (s.port f.port).hpw.mbReq.writeN 0 (f.addr.toNat - 0x100) f.data } } (c.log = false) t) ∧
    (s.takes f 0xE4 0x21 → s.clauseAt f.port 0xE4 0x21 0 = some (k, c) → effAction (s.hallPass f.port) c = 5 →
      f.addr.toNat % 4 = 0 → 1 ≤ f.want → f.addr.toNat + (f.want - 1) ≤ 0x1000 → f.addr.toNat < 0x1000 →
      (∀ i, i < (f.want - 1 + 3) / 4 ∨ i = 0 → s.hpwAllowed f.port (f.addr.toNat + 4 * i) = true) →
      (0x18 < f.addr.toNat ∨ f.addr.toNat + (f.want - 1) ≤ 0x18 →
        ∃ t, exec (.mbr f) s = .next t ∧ s.portTo f.port
          { s.fresh f.port with out := (0x80 :: (List.range ((f.want - 1 + 3) / 4)).flatMap fun i =>
              p32 ((s.modPort f.port fun _ => s.fresh f.port).hpwWord f.port (f.addr.toNat + 4 * i))).take f.want } (c.log = false) t) ∧
      (f.addr.toNat = 0x18 → f.want = 9 →
        ∃ t, exec (.mbr f) s = .next t ∧ s.portTo f.port
          { s.fresh f.port with
            out := 0x80 :: p64 s.timeBase.toNat
            hpw := { (s.port f.port).hpw with timeHi := BitVec.ofNat 32 (s.timeBase.toNat / 2 ^ 32) } } (c.log = false) t)) ∧
    (s.takes f 0xE3 0x20 → s.clauseAt f.port 0xE3 0x20 0 = none →
      exec (.mbw f) s = .next { s with ports := s.ports.set f.port { s.fresh f.port with stat := (s.port f.port).stat ||| 0x080 } }) ∧
    (s.takes f 0xE4 0x21 → s.clauseAt f.port 0xE4 0x21 0 = none → 1 ≤ f.want →
      exec (.mbr f) s = .next { s with ports := s.ports.set f.port { s.fresh f.port with out := 0x83 :: List.replicate (f.want - 1) 0 } })

/-- R60, R61, R62, R63, R248: one word written into the window by a host whose port decodes and whose Timetable lets it through. GO copies the
request and sets PENDING, or while PENDING only MB_REJECT; while the firmware is away the service answers BUSY at once. -/
def Obligations.WindowWrites : Prop :=
  ∀ (h : Host24) (v : Word) (s : State), s.decodes h = true →
    (s.hpwAllowed h 0x10 = true →
      exec (.hpwAttnWrite h v) s = .next (s.putHpw h { (s.port h).hpw with
        attnCause := (s.port h).hpw.attnCause &&& ~~~(v.setWidth 8), attnEn := (v >>> 8).setWidth 8 })) ∧
    (s.hpwAllowed h 0x28 = true →
      exec (.hpwStatClear h v) s = .next { s with ports := s.ports.set h { s.port h with stat := (s.port h).stat &&& ~~~(v.setWidth 9) } }) ∧
    (s.hpwAllowed h 0x08 = true →
      ((s.putHpw h { (s.port h).hpw with ltv := v.setWidth 16 }).permit.code < s.power.code →
        exec (.hpwLtvWrite h v) s = .next ((s.putHpw h { (s.port h).hpw with ltv := v.setWidth 16 }).wake wkInternal 0)) ∧
      (s.power.code ≤ (s.putHpw h { (s.port h).hpw with ltv := v.setWidth 16 }).permit.code →
        exec (.hpwLtvWrite h v) s = .next (s.putHpw h { (s.port h).hpw with ltv := v.setWidth 16 }))) ∧
    (s.hpwAllowed h 0x0C = true →
      exec (.hpwHealthWrite h v) s = .next { s.putHpw h { (s.port h).hpw with health := v } with
        upd := if (s.imgOf h).state = .trial ∧ s.upd.recOf.trialHosts.getLsbD h.val = true ∧
            (if (s.upd.recOf.hosts.get h).token = 0 then v ≠ 0 else v = (s.upd.recOf.hosts.get h).token)
          then { s.upd with met := s.upd.met ||| BitVec.ofNat 24 (2 ^ h.val) } else s.upd }) ∧
    (s.hpwAllowed h 0x44 = true → v.getLsbD 0 = true →
      ((s.port h).hpw.mbPending = true →
        exec (.hpwMbGo h v) s = .next { s with ports := s.ports.set h { s.port h with stat := (s.port h).stat ||| 0x100 } }) ∧
      ((s.port h).hpw.mbPending = false → s.fwRuns = true →
        ∃ t, exec (.hpwMbGo h v) s = .next t ∧
          t = (if s.power = .p2 then (fun u : State => u.wake wkInternal 0) else id) (s.putHpw h { (s.port h).hpw with
            mbDone := false, mbPending := true
            request := some {
              service := bits (s.port h).hpw.mbCmd.toNat 0 8
              len := bits (s.port h).hpw.mbCmd.toNat 8 11
              tag := bits (s.port h).hpw.mbCmd.toNat 24 8
              payload := (s.port h).hpw.mbReq.readN 0 0 (min (bits (s.port h).hpw.mbCmd.toNat 8 11) 1024) } })) ∧
      ((s.port h).hpw.mbPending = false → s.fwRuns = false →
        ∃ t, exec (.hpwMbGo h v) s = .next t ∧ (t.port h).hpw.mbDone = true ∧ (t.port h).hpw.mbPending = false ∧
          (t.port h).hpw.mbCode = 1 ∧ (t.port h).hpw.mbRetry = 20000 ∧ t = { s with ports := t.ports } ∧
          ∀ k, k ≠ h → t.port k = s.port k)) ∧
    (s.hpwAllowed h 0x10 = false → (s.gates.get 21).valid = false →
      ∃ t, exec (.hpwAttnWrite h v) s = .next t ∧ t.port h = { s.port h with stat := (s.port h).stat ||| 0x080 } ∧
        (t.gates.get 21).valid = true ∧ (t.gates.get 21).firstAddr = 0x10 ∧ (t.gates.get 21).rule = 0xA ∧
        t = { s with ports := t.ports, gates := t.gates, evl := t.evl } ∧ ∀ k, k ≠ h → t.port k = s.port k)

/-- Table 2.15: the services that read answer the value that the spec names, and change nothing else; a counter that is met with
an unreadable word is logged.
R64: checks that every service shares, in order: a LEN above 1,024, the Timetable's service mask, and a host On Hall pass asking for
an effect outside itself. When a service is done its result, code, tag, length and retry hint are delivered, with CAUSE.MB_DONE; a service that
does not exist ends with BAD_ARG. -/
def Obligations.MailboxReads : Prop :=
  (∀ (h : Host24) (b : Bytes) (s : State),
     (s.asked h 8 [] → exec (.timeRead h) s = .next (s.result h 0 0 (p64 (s.utc.elim (2 ^ 64 - 1) BitVec.toNat) ++ p64 s.timeBase.toNat))) ∧
     (s.asked h 4 b → b.length = 4 → u8 b 0 < 64 → allZero (field b 1 3) = true →
       ∃ t, exec (.counterRead h) s = .next t ∧ t.ports = (s.result h 0 0 (p32 (s.counter (u8 b 0)))).ports ∧
         t = { s with ports := t.ports, ctr := t.ctr, evl := t.evl } ∧ ((s.ring (u8 b 0)).bad = [] → t.evl = s.evl)) ∧
     (s.asked h 10 b → b.length = 4 → allZero (field b 1 3) = true → u8 b 0 < 64 →
       exec (.keySlotStatusRead h) s = .next (s.result h 0 0 (s.slotEntry (u8 b 0)))) ∧
     (s.asked h 10 b → b.length = 4 → allZero (field b 1 3) = true → u8 b 0 = 0xFF →
       exec (.keySlotStatusRead h) s = .next (s.result h 0 0 ((List.range 64).flatMap s.slotEntry))) ∧
     (s.asked h 7 b → b.length = 12 → 1 ≤ u16 b 8 → u16 b 8 ≤ 42 → u16 b 10 = 0 → (∀ r ∈ s.evl.ring.head?, r.seq ≤ u64 b 0) →
       exec (.eventLogRead h) s = .next (s.result h 0 0 (p64 (u64 b 0) ++
         p16 ((s.evl.ring.filter fun r => u64 b 0 ≤ r.seq).take (u16 b 8)).length ++ List.replicate 6 0 ++
         ((s.evl.ring.filter fun r => u64 b 0 ≤ r.seq).take (u16 b 8)).flatMap EventRec.bytes))) ∧
     (s.asked h 9 b → b.length = 12 → 1 ≤ u16 b 8 → u16 b 8 ≤ 31 → u16 b 10 = 0 → u64 b 0 < s.arc.next.toNat →
       ((∀ p r, s.arc.recordAt (u64 b 0) = some (p, r) → p.lost = false →
         exec (.archiveRead h) s = .next (s.result h 0 0
           (p64 (u64 b 0) ++ p16 (s.arc.records (u64 b 0) (min (u16 b 8) (s.arc.next.toNat - u64 b 0))).length ++ List.replicate 6 0 ++
             (s.arc.records (u64 b 0) (min (u16 b 8) (s.arc.next.toNat - u64 b 0))).flatten))) ∧
       (s.arc.recordAt (u64 b 0) = none → exec (.archiveRead h) s = .next (s.result h 6 0 [])))) ∧
     (s.asked h 2 b → b.length = 8 → u8 b 0 = 1 → allZero (field b 1 3) = true →
       (∀ c, s.arc.cards.get h = some c → u32 b 4 < c.length →
         exec (.cardRead h) s = .next (s.result h 0 0 ((c.drop (u32 b 4)).take 2048))) ∧
       (s.arc.cards.get h = none → exec (.cardRead h) s = .next (s.result h 6 0 [])))) ∧
  ((∀ (h : Host24) (q : MbRequest) (r : MbResult) (s : State),
     (s.port h).hpw.request = some q → (s.port h).hpw.result = some r →
     exec (.mailboxServiceDone h) s = .next (s.putHpw h { (s.port h).hpw with
       mbCode := BitVec.ofNat 3 r.code, mbDone := true, mbPending := false, mbTag := BitVec.ofNat 8 q.tag
       mbRlen := BitVec.ofNat 12 r.rsp.length, mbRetry := if r.code = 1 then BitVec.ofNat 32 r.retry else 0
       mbRsp := (s.port h).hpw.mbRsp.writeN 0 0 r.rsp, request := none, result := none
       attnCause := (s.port h).hpw.attnCause ||| 1 })) ∧
   (∀ (h : Host24) (q : MbRequest) (s : State),
     (s.port h).hpw.request = some q → (s.port h).hpw.result = none → s.fwRuns = true → q.service = 0 ∨ 11 ≤ q.service →
     ∃ t, exec (.mailboxServiceDone h) s = .next t ∧ (t.port h).hpw.mbCode = 4 ∧ (t.port h).hpw.mbDone = true ∧
       (t.port h).hpw.mbPending = false ∧ t = { s with ports := t.ports } ∧ ∀ k, k ≠ h → t.port k = s.port k) ∧
   (∀ (i : Instr) (h : Host24) (code : Nat) (q : MbRequest) (s : State),
     (i, code) ∈ [(Instr.archiveAppend h, 1), (.cardMake h, 2), (.cardRead h, 2), (.counterIncrement h, 3), (.counterRead h, 4), (.keyedDigest h, 5),
       (.plainDigest h, 6), (.eventLogRead h, 7), (.timeRead h, 8), (.archiveRead h, 9), (.keySlotStatusRead h, 10)] →
     s.mbWaiting h code = some q →
     (1024 < q.len → exec i s = .next (s.result h 4 0 [])) ∧
     (q.len ≤ 1024 → bit (s.committedTt h).serviceMask code = false →
       ∃ c, (c = 3 ∨ c = 4) ∧ exec i s = .next (s.result h c 0 [])) ∧
     (q.len ≤ 1024 → bit (s.committedTt h).serviceMask code = true → s.hallPass h = true → (code = 1 ∨ code = 2 ∨ code = 3 ∨ code = 5) →
       ∃ c, (c = 2 ∨ c = 4) ∧ exec i s = .next (s.result h c 0 []))))

/-- R267, R389, R216, R287: the services that change the controller. An append writes its records of 48 bytes and extends the hash chain; the
host's own counter goes up by one; a digest of inline data is computed; a card request joins the queue of cards and spends a pace
token when it is to be signed. -/
def Obligations.MailboxEffects : Prop :=
  ∀ (h : Host24) (b : Bytes) (s : State),
    (s.asked h 1 b → appendOk b = true → s.arc.created = true → s.lcAppends = true → s.arc.retire = false →
      s.arc.next.toNat + (b.length - 4 + 47) / 48 ≤ 2 ^ 64 - 1 → s.arc.onlyReserve = false → s.arc.tail < 32 →
      s.arc.tail + s.arc.newPages ((b.length - 4 + 47) / 48) ≤ 32 →
      ∃ t, exec (.archiveAppend h) s = .next t ∧
        t.arc.next = s.arc.next + BitVec.ofNat 64 ((b.length - 4 + 47) / 48) ∧
        t.ports = (s.result h 0 0 (p64 s.arc.next.toNat ++ p64 (s.arc.next.toNat + (b.length - 4 + 47) / 48 - 1) ++ t.arc.chain)).ports ∧
        t.arc.chain = ((splitAppend h.val (u8 b 0) (b.drop 4)).zipIdx).foldl
          (fun ch r => Hash.sha256 (ch ++ r.1.bytes (s.arc.next.toNat + r.2) (s.timeBase.toNat / 1000000))) s.arc.chain ∧
        t = { s with ports := t.ports, arc := t.arc, evl := t.evl }) ∧
    (s.asked h 3 [] → s.counter (32 + h.val) < 0xFFFFFFFF →
      ∃ t, exec (.counterIncrement h) s = .next t ∧ s.counter (32 + h.val) < t.counter (32 + h.val) ∧
        ((s.ring (32 + h.val)).bad = [] → t.counter (32 + h.val) = s.counter (32 + h.val) + 1) ∧
        (∀ k, k ≠ 32 + h.val → t.ring k = s.ring k) ∧
        t.ports = (s.result h 0 0 (p32 (t.counter (32 + h.val)))).ports ∧ t = { s with ports := t.ports, ctr := t.ctr, evl := t.evl }) ∧
    (s.asked h 3 [] → s.counter (32 + h.val) = 0xFFFFFFFF →
      ∃ t, exec (.counterIncrement h) s = .next t ∧ (∀ k, t.counter k = s.counter k) ∧
        s.lastEvent t 0x0711 srcCTR (p8 (32 + h.val) ++ p8 srcService) ∧ t.ports = (s.result h 5 0 []).ports ∧
        t = { s with ports := t.ports, ctr := t.ctr, evl := t.evl }) ∧
    (s.asked h 6 b → digestLen b = true → digestOk false b = true → dgFlash b = false → s.dgc.queue.length < 64 →
      s.freeSet.isSome = true → (s.coresOn.filter s.coreFree).length ≠ 0 →
      (s.verifying = true → s.dgc.reserve.toNat < (s.coresOn.filter s.coreFree).length) →
      exec (.plainDigest h) s = .next (s.result h 0 0
        (digestAnswer b (Hash.digest (dgAlg b) (dgOut b) (b.drop (16 + dgExpect b)))))) ∧
    (s.asked h 5 b → digestLen b = true → digestOk true b = true → dgFlash b = false → u8 b 3 < 64 → (s.slot (u8 b 3)).revoked = false →
      s.keyedAdmit (u8 b 3) .mgpPriv (some (h, 3)) (b2n (dgCompare b)) 0 = true → s.dgc.queue.length < 64 →
      s.freeSet.isSome = true → (s.coresOn.filter s.coreFree).length ≠ 0 →
      (s.verifying = true → s.dgc.reserve.toNat < (s.coresOn.filter s.coreFree).length) →
      exec (.keyedDigest h) s = .next (s.result h 0 0
        (digestAnswer b ((Hash.hmac (dgAlg b) (s.slot (u8 b 3)).key (b.drop (16 + dgExpect b))).take (dgOut b))))) ∧
    (s.asked h 2 b → b.length = 40 → u8 b 0 = 0 → (u8 b 1 = 1 ∨ u8 b 1 = 2) → allZero (field b 3 5) = true →
      s.arc.cardWait.contains h.val = false → s.arc.cardWait.length < 8 →
      (u8 b 1 = 1 → 1 ≤ s.arc.tokens ∧ s.signOk = true) →
      (u8 b 1 = 2 → s.cardPolicy h (u8 b 2) = true ∧ s.macSlotOk (u8 b 2) 4 (some h) = true) →
      s.fwRuns = false ∨ s.pwr.fits (s.jobCost 5 (waiterHost ((s.arc.cardWait ++ [h.val]).headD 0))) (s.reservedAbove 7) = false →
      exec (.cardMake h) s = .next { s with arc := { s.arc with
        cards := s.arc.cards.set h none, cardWait := s.arc.cardWait ++ [h.val]
        tokens := if u8 b 1 = 1 then s.arc.tokens - 1 else s.arc.tokens } })

/-! ## A port's timers and fills, and the end of a write (chapters 2 and 5) -/

/-- R37, R39, R41: a waiting frame whose page holds the rest of it goes on: with its data when the line buffer is filled, or with fill after
its timeout, which sets RDY_TIMEOUT and logs EV 0x0126 at the first address not served (after a status byte with ERR in native
mode). A timer of the other kind, or one that meets no waiting frame, does nothing.
R54, R106: a prefetch fill becomes valid when its CRC matches and is dropped when no copy gives a matching page. -/
def Obligations.PortTimersAndPrefetch : Prop :=
  (∀ (h : Host24) (fr : InFrame) (s : State), (s.port h).frame = some fr → (s.ttOf h).pend = false →
     (fr.waiting = .rdy → cfgNative (s.port h).cfg.toNat = false →
       fr.left ≤ (if fr.page = [] then 4096 - fr.addr % 4096 else fr.page.length) →
       ∃ t, exec (.rdyTimeout h) s = .next t ∧
         (t.port h).out = (s.port h).out ++ List.replicate fr.left (cfgFill (s.port h).cfg.toNat) ∧
         (t.port h).stat = (s.port h).stat ||| 0x040 ∧ (fr.keepsSelect = false → (t.port h).frame = none) ∧
         t.evl = (s.raise 0x0126 srcHPC (p8 h.val ++ p32 fr.addr)).evl ∧
         t = { s with ports := t.ports, evl := t.evl } ∧ ∀ k, k ≠ h → t.port k = s.port k) ∧
     (fr.waiting = .native → cfgNative (s.port h).cfg.toNat = true → cfgNativeCrc (s.port h).cfg.toNat = false →
       fr.left ≤ (if fr.page = [] then 4096 - fr.addr % 4096 else fr.page.length) →
       ∃ t, exec (.nativeTimeout h) s = .next t ∧
         (t.port h).out = (s.port h).out ++ [s.nativeStatus h true true] ++ List.replicate fr.left (cfgFill (s.port h).cfg.toNat) ∧
         (t.port h).stat = (s.port h).stat ||| 0x040 ∧ (fr.keepsSelect = false → (t.port h).frame = none) ∧
         t.evl = (s.raise 0x0126 srcHPC (p8 h.val ++ p32 fr.addr)).evl ∧
         t = { s with ports := t.ports, evl := t.evl } ∧ ∀ k, k ≠ h → t.port k = s.port k) ∧
     (fr.waiting ≠ .none → cfgNativeCrc (s.port h).cfg.toNat = false → fr.page ≠ [] → fr.filling = false → fr.left ≤ fr.page.length →
       ∀ n, fr.left ≤ n →
       ∃ t, exec (.lineBufferFilled h n) s = .next t ∧
         (t.port h).out = (s.port h).out ++ fr.page.take fr.left ∧ (fr.keepsSelect = false → (t.port h).frame = none) ∧
         (∀ c, t.chan c = { s.chan c with queue := (s.chan c).queue.filter fun q => !(q.host = h.val && q.kind = .demand) }) ∧
         t = { s with ports := t.ports, chans := t.chans, img := t.img, pwr := t.pwr } ∧
         ∀ k, k ≠ h → t.port k = s.port k ∧ t.imgOf k = s.imgOf k) ∧
     (fr.waiting ≠ .rdy → exec (.rdyTimeout h) s = .next s) ∧
     (fr.waiting ≠ .native → exec (.nativeTimeout h) s = .next s) ∧
     (fr.waiting = .none → ∀ n, exec (.lineBufferFilled h n) s = .next s)) ∧
  (∀ (h : Host24) (v : Nat) (s : State), (s.port h).prefetch = some { vpage := v, valid := false } →
     exec (.prefetchFillDone h false) s = .next { s with ports := s.ports.set h { s.port h with prefetch := none } } ∧
     ∃ t, exec (.prefetchFillDone h true) s = .next t ∧
       t = { s with ports := s.ports.set h { s.port h with prefetch := some { vpage := v, valid := true } }, img := t.img } ∧
       ∀ k, k ≠ h → t.imgOf k = s.imgOf k)

/-- R45, R141, R145, R147, R148, R160: a write all of whose destinations are settled ends. With a durable destination for every page it lands:
WIP clears, its staged pages become the versions of their pages and lost pages are readable again; no device page changes. Else
it is unrecoverable: the error flag sets and EV 0x0608 names the first page that failed. A write still waiting stays.
R45, R46, R49, R42: a program or erase without WEL is ignored; one while WIP only counts in HPC_IGNCNT; a program over its unit is torn with
PROG_OVERLONG (EV 0x0121); a wrong CRC byte sets CRC_BAD, counts in HPC_CRCCNT and logs EV 0x0125. Nothing else changes. -/
def Obligations.WriteEnds : Prop :=
  (∀ (h : Host24) (w : PendingWrite) (s : State), (s.port h).pending = some w →
     (w.settled = false → exec (.writeDurable h) s = .next s) ∧
     (w.settled = true → w.lands = true →
       ∃ t, exec (.writeDurable h) s = .next t ∧ (t.port h).wip = false ∧ (t.port h).pending = none ∧
         (t.port h).wel = (s.port h).wel ∧ (t.port h).progErr = (s.port h).progErr ∧ (t.port h).eraseErr = (s.port h).eraseErr ∧
         t.plc.flash = s.plc.flash ∧
         (∀ q ∈ w.pages, t.plc.isLost h.val q.1 = false) ∧
         ((w.pages.map Prod.fst).Nodup → ∀ q ∈ w.pages, ∀ d ∈ w.dests, d.vpage = q.1 → d.state = .durable →
           ((d.kind = .journal0 ∨ d.kind = .journal1) → ∃ x ∈ t.plc.journal, x.host = h.val ∧ x.vpage = q.1 ∧ x.data = q.2) ∧
           ((d.kind = .shadow0 ∨ d.kind = .shadow1) → ∃ x ∈ t.plc.shadows, x.host = h.val ∧ x.vpage = q.1 ∧ x.data = q.2)) ∧
         t = { s with ports := t.ports, tt := t.tt, plc := t.plc, chans := t.chans, evl := t.evl }) ∧
     (w.settled = true → w.lands = false →
       ∃ t, exec (.writeDurable h) s = .next t ∧
         t.ports = s.ports.set h { s.port h with
           wip := false, pending := none, eraseErr := (s.port h).eraseErr || w.erase, progErr := (s.port h).progErr || !w.erase } ∧
         (∀ c, t.chan c = { s.chan c with queue := (s.chan c).queue.filter fun q => !(q.host = h.val && q.dest.isSome) }) ∧
         (∀ v, (w.pages.find? fun q => !w.dests.any fun d => d.vpage = q.1 && d.state = .durable).map Prod.fst = some v →
           t.evl = (s.raise 0x0608 srcPLC (p8 h.val ++ p32 v)).evl) ∧
         t = { s with ports := t.ports, chans := t.chans, evl := t.evl })) ∧
  (∀ (i : Instr) (f : Frame) (op shape : Nat) (s : State),
     frameCmd i = some (f, op, shape) → 0x09 ≤ shape → shape ≤ 0x0F → s.takes f op shape →
     ((shape ≤ 0x0A → f.data ≠ [] ∧ ((s.port f.port).cmd = .d8 → f.data.length % 2 = 0 ∧ frameAddr (s.port f.port) shape f % 2 = 0)) →
       (0x0B ≤ shape → f.data = []) →
       (shape ≤ 0x0A → ∀ d ok, splitCrc (cfgNativeCrc (s.port f.port).cfg.toNat) ((s.port f.port).cmd = .d8)
         (BitVec.ofNat 32 (frameAddr (s.port f.port) shape f)) f.data = (d, ok) →
         d ≠ [] ∧ frameAddr (s.port f.port) shape f % cfgProgUnit (s.port f.port).cfg.toNat + d.length ≤ cfgProgUnit (s.port f.port).cfg.toNat) →
       ((s.port f.port).wel = false →
         exec i s = .next { s with ports := s.ports.set f.port (s.fresh f.port) }) ∧
       ((s.port f.port).wel = true → (s.port f.port).wip = true →
         exec i s = .next { s with ports := s.ports.set f.port { s.fresh f.port with ign := (s.port f.port).ign.inc } }) ∧
       (shape ≤ 0x0A → (s.port f.port).wel = true → (s.port f.port).wip = false →
         (∀ d, splitCrc (cfgNativeCrc (s.port f.port).cfg.toNat) ((s.port f.port).cmd = .d8)
           (BitVec.ofNat 32 (frameAddr (s.port f.port) shape f)) f.data ≠ (d, true)) →
         exec i s = .next (State.raise
           { s with ports := s.ports.set f.port { s.fresh f.port with
               stat := (s.port f.port).stat ||| 0x020, crc := (s.port f.port).crc.inc } }
           0x0125 srcHPC (p8 f.port.val ++ p32 (frameAddr (s.port f.port) shape f))))) ∧
     (shape ≤ 0x0A → ((s.port f.port).cmd = .d8 → f.data.length % 2 = 0 ∧ frameAddr (s.port f.port) shape f % 2 = 0) →
       (∀ d ok, splitCrc (cfgNativeCrc (s.port f.port).cfg.toNat) ((s.port f.port).cmd = .d8)
         (BitVec.ofNat 32 (frameAddr (s.port f.port) shape f)) f.data = (d, ok) →
         d ≠ [] ∧ cfgProgUnit (s.port f.port).cfg.toNat < frameAddr (s.port f.port) shape f % cfgProgUnit (s.port f.port).cfg.toNat + d.length) →
       exec i s = .next (State.raise
         { s with ports := s.ports.set f.port { s.fresh f.port with
             stat := (s.port f.port).stat ||| 0x002, torn := (s.port f.port).torn.inc } }
         0x0121 srcHPC (p8 f.port.val ++ p8 1 ++ p8 op))))

/-! ## Timetables (chapter 3) -/

/-- R83, R88: a 0 in TTB_READY clears a host's READY; a 1 sets it only where the staged bank passes every check, is ignored while PEND, and a bank
that fails is logged with EV 0x0311. Banks, epochs and every other field stay.
R83, R85: a commit flips the bank of every named host at once, or with one of them not READY of none, and sets REFUSED. A port with no
frame in service runs under its new Timetable at once; another waits with PEND. Named hosts here are neither Held nor in Detention,
where Table 6.4 adds a change of state.
R85, R86: at the switch point the port takes the committed Timetable; a commit whose PEND has lasted TTB_PEND_TMO sets PEND_LONG with the
host and logs EV 0x0127, once. -/
def Obligations.TimetableCommits : Prop :=
  (∀ (v : Word) (s : State),
     ∃ t, exec (.ttbReadyWrite v) s = .next t ∧ t = { s with tt := t.tt, evl := t.evl } ∧
       ∀ h, t.ttOf h = { s.ttOf h with
         ready := if s.maskBits.getLsbD h.val = false then (s.ttOf h).ready
           else if v.getLsbD h.val = false then false
           else if (s.ttOf h).pend = true then (s.ttOf h).ready
           else (s.ttOf h).ready || decide (s.stagedFailed h = 0) }) ∧
  (∀ (v : Word) (s : State),
     ((∃ h ∈ s.hostsOf v.toNat, (s.ttOf h).ready = false) →
       exec (.ttbCommit v) s = .next { s with ttb := { s.ttb with refused := true } }) ∧
     ((∀ h ∈ s.hostsOf v.toNat, (s.ttOf h).ready = true ∧ (s.imgOf h).state ≠ .held ∧ (s.imgOf h).state ≠ .detention) →
       ∃ t, exec (.ttbCommit v) s = .next t ∧
         t = { s with tt := t.tt, ports := t.ports, plc := { s.plc with
           extents := t.plc.extents, xepoch := t.plc.xepoch, registry := t.plc.registry } } ∧
         (∀ h, h ∉ s.hostsOf v.toNat → t.ttOf h = s.ttOf h ∧ t.port h = s.port h ∧ t.extents h = s.extents h) ∧
         (∀ h, h ∈ s.hostsOf v.toNat →
           t.ttOf h = { s.ttOf h with
             active := !(s.ttOf h).active, epoch := (s.ttOf h).epoch + 1, ready := false, pendLogged := false
             pend := (s.port h).frame.isSome
             portBank := if (s.port h).frame.isSome then (s.ttOf h).portBank else !(s.ttOf h).active
             logTimes := if (s.port h).frame.isSome then (s.ttOf h).logTimes else [] } ∧
           ((s.port h).frame.isSome = true → t.port h = s.port h) ∧
           (∀ x, (s.port h).frame = none → (s.ttOf h).inactiveTt = some x →
             (t.port h).cfg = BitVec.ofNat 32 x.cfg ∧ (t.port h).rdyTmo = BitVec.ofNat 16 x.rdyTmo ∧
             (t.port h).hpw.epochTt = (s.ttOf h).epoch + 1 ∧ (t.port h).hpw.attnCause = (s.port h).hpw.attnCause ||| 2 ∧
             (t.port h).prefetch = none ∧ (t.port h).epochNews = true)))) ∧
  (∀ (h : Host24) (s : State), (s.ttOf h).pend = true →
     (∀ x, (s.ttOf h).activeTt = some x → (s.ttOf h).waiting = none →
       ∃ t, exec (.ttSwitchPoint h) s = .next t ∧
         t.ttOf h = { s.ttOf h with pend := false, portBank := (s.ttOf h).active, pendLogged := false, logTimes := [] } ∧
         (t.port h).frame = none ∧ (t.port h).cfg = BitVec.ofNat 32 x.cfg ∧ (t.port h).rdyTmo = BitVec.ofNat 16 x.rdyTmo ∧
         (t.port h).hpw = { (s.port h).hpw with epochTt := (s.ttOf h).epoch, attnCause := (s.port h).hpw.attnCause ||| 2 } ∧
         (t.port h).wel = (s.port h).wel ∧ (t.port h).stat = (s.port h).stat ∧
         (∀ k, k ≠ h → t.port k = s.port k ∧ t.ttOf k = s.ttOf k) ∧
         t = { s with ports := t.ports, tt := t.tt, plc := { s.plc with
           extents := t.plc.extents, xepoch := t.plc.xepoch, registry := t.plc.registry } }) ∧
     ((s.ttOf h).pendLogged = false →
       exec (.pendLong h) s = .next (State.raise
         { s with tt := s.tt.set h { s.ttOf h with pendLogged := true }
                  ttb := { s.ttb with pendLong := true, pendHost := BitVec.ofNat 5 h.val } }
         0x0127 srcTTB (p8 h.val ++ p16 (s.ttOf h).epoch.toNat))) ∧
     ((s.ttOf h).pendLogged = true → exec (.pendLong h) s = .next s))

/-! ## Flash channels (chapter 4) -/

/-- R94 to R97: discovery leaves a parked channel's selects PARKED and a FAILED one alone; else it loads the select's descriptor and keeps what the
device answered. A class 3 descriptor, or an ID of all zeros or all ones, is no device; an ID or density that differs, an SFDP table that is
missing for a NOR class or incomplete, or a label that reads two ways is MISMATCH; a device under ADMIT is FORMATTING; and the label decides
the rest. Nothing is written to the device. -/
def Obligations.Discovery : Prop :=
  ∀ (c : Chan) (k : Sel) (a : DeviceAnswers) (s : State),
    ((s.chan c).parked = true →
      exec (.selectDiscovery c k a) s = .next (s.putSel c k { (s.chan c).sels.get k with state := .parked })) ∧
    ((s.chan c).parked = false → ((s.chan c).sels.get k).state = .failed → exec (.selectDiscovery c k a) s = .next s) ∧
    ((s.chan c).parked = false → ((s.chan c).sels.get k).state ≠ .failed →
      ∃ t x, exec (.selectDiscovery c k a) s = .next t ∧ t = { s.putSel c k x with evl := t.evl } ∧
        x.idBytes = a.idBytes ∧ x.nand = decide ((s.descOf c k).cls = 2) ∧ x.busy = none ∧ x.timeouts = 0 ∧
        x.badBlocks = ((s.chan c).sels.get k).badBlocks ∧ x.admitWord = ((s.chan c).sels.get k).admitWord ∧
        ((s.descOf c k).cls = 3 ∨ (∀ b ∈ a.idBytes, b = 0) ∨ (∀ b ∈ a.idBytes, b = 0xFF) → x.state = .absent) ∧
        ((s.descOf c k).cls ≠ 3 → (∃ b ∈ a.idBytes, b ≠ 0) → (∃ b ∈ a.idBytes, b ≠ 0xFF) →
          ((s.descOf c k).idBytes ≠ [] ∧ field a.idBytes 0 (s.descOf c k).idBytes.length ≠ (s.descOf c k).idBytes → x.state = .mismatch) ∧
          ((s.descOf c k).idBytes = [] ∨ field a.idBytes 0 (s.descOf c k).idBytes.length = (s.descOf c k).idBytes →
            ((s.descOf c k).cls = 0 → a.sfdp = false → x.state = .absent) ∧
            ((s.descOf c k).cls = 1 → a.sfdp = false → x.state = .mismatch) ∧
            ((s.descOf c k).cls = 2 ∨ (a.sfdp = true ∧ a.sfdpComplete = true) →
              (s.descOf c k).densityMbit = 0 ∨ a.sfdp = false ∨ a.densityMbit = (s.descOf c k).densityMbit →
              (a.label ≠ a.label2 → x.state = .mismatch) ∧
              (a.label = a.label2 →
                (((s.chan c).sels.get k).admitWord ≠ 0 → x.state = .formatting) ∧
                (((s.chan c).sels.get k).admitWord = 0 →
                  ((∀ b ∈ a.label, b = 0xFF) → x.state = .unformatted) ∧
                  ((∃ b ∈ a.label, b ≠ 0xFF) → labelValid a.label = false → x.state = .unformatted) ∧
                  ((∃ b ∈ a.label, b ≠ 0xFF) → labelValid a.label = true →
                    (labelMine s c k a.label = true → x.state = .ready) ∧ (labelMine s c k a.label = false → x.state = .foreign))))))))

/-- R109, R122, R123, R499: RETIRE of a select that is READY and can be emptied makes it RETIRING and queues a relocation of its copies; a
RETIRING select with nothing left is RETIRED. PARK is refused while a select is READY or RETIRING; else the channel stops, its selects are
PARKED and its supply switch goes off 1 ms later. UNPARK powers it again. A refused command leaves its result code alone. -/
def Obligations.ChannelCommands : Prop :=
  ∀ (c : Chan) (k : Sel) (s : State),
    (((s.chan c).sels.get k).state ≠ .ready →
      exec (.retire c k) s = .next (s.putChan c { s.chan c with lastCmd := 1, lastResult := 2 })) ∧
    (((s.chan c).sels.get k).state = .ready → s.canRetire (4 * c.val + k.val) = false →
      exec (.retire c k) s = .next (s.putChan c { s.chan c with lastCmd := 1, lastResult := 3 })) ∧
    (((s.chan c).sels.get k).state = .ready → s.canRetire (4 * c.val + k.val) = true →
      ∃ t, exec (.retire c k) s = .next t ∧
        t.chan c = { s.chan c with
          lastCmd := 1, lastResult := 1
          sels := (s.chan c).sels.set k { (s.chan c).sels.get k with state := .retiring } } ∧
        (∀ d, d ≠ c → t.chan d = s.chan d) ∧ t = { s with chans := t.chans, plc := { s.plc with queued := t.plc.queued } } ∧
        (∀ r ∈ s.plc.queued, r ∈ t.plc.queued) ∧
        ∀ he ∈ s.copiesOn (4 * c.val + k.val), ∃ r ∈ t.plc.queued ++ t.plc.relocs, r.host = he.1.val ∧ r.extent = he.2.index ∧ r.fold = false) ∧
    (((s.chan c).sels.get k).state = .retiring → s.usedRuns (4 * c.val + k.val) = [] →
      (∀ x ∈ s.plc.journal ++ s.plc.shadows, x.sel0 ≠ 4 * c.val + k.val ∧ (x.two = true → x.sel1 ≠ 4 * c.val + k.val)) →
      exec (.retireComplete c k) s = .next (s.putChan c { s.chan c with
        lastCmd := 1, lastResult := 0, sels := (s.chan c).sels.set k { (s.chan c).sels.get k with state := .retired } })) ∧
    (((s.chan c).sels.get k).state ≠ .retiring → exec (.retireComplete c k) s = .next s) ∧
    (((s.chan c).sels.get k).state = .ready ∨ ((s.chan c).sels.get k).state = .retiring →
      exec (.park c) s = .next (s.putChan c { s.chan c with lastCmd := 2, lastResult := 2 })) ∧
    ((∀ j : Sel, ((s.chan c).sels.get j).state ≠ .ready ∧ ((s.chan c).sels.get j).state ≠ .retiring) →
      exec (.park c) s = .next ((s.putChan c { s.chan c with
        parked := true, pwrenFalling := true, queue := [], running := none, lastCmd := 2, lastResult := 0
        sels := (s.chan c).sels.map fun sl => { sl with state := .parked, busy := none } }).raise 0x041B srcFCC (p8 c.val ++ p8 0))) ∧
    ((s.chan c).parked = false → exec (.unpark c) s = .next (s.putChan c { s.chan c with lastCmd := 3, lastResult := 2 })) ∧
    ((s.chan c).parked = true →
      exec (.unpark c) s = .next ((s.putChan c { s.chan c with
        parked := false, pwren := true, pwrenFalling := false, lastCmd := 3, lastResult := 0
        sels := (s.chan c).sels.map fun sl => { sl with state := if sl.admitWord ≠ 0 then .formatting else .absent } }).raise 0x041B srcFCC
          (p8 c.val ++ p8 1))) ∧
    ((s.chan c).pwrenFalling = true → (s.chan c).parked = true →
      exec (.fcPwrenDrivenLow c) s = .next (s.putChan c { s.chan c with pwren := false, pwrenFalling := false })) ∧
    ((s.chan c).pwrenFalling = false → exec (.fcPwrenDrivenLow c) s = .next s)

/-- R96, R123: ADMIT of a select that is UNFORMATTED, FOREIGN or RETIRED scans its bad blocks, erases every page of it and nothing else, and waits
for its label; a label that reads back makes it READY with EV 0x0410, and the first label of all draws POOL_ID from the DRBG; where the DRBG
refuses, no label is written. A select in another state is refused. -/
def Obligations.Admission : Prop :=
  ∀ (c : Chan) (k : Sel) (bad : List Nat) (s : State),
    (((s.chan c).sels.get k).state ∈ [SelState.unformatted, .foreign, .retired] →
      ∃ t, exec (.admitSelect c k bad) s = .next t ∧
        t.chan c = { s.chan c with
          lastCmd := 4, lastResult := 1
          sels := (s.chan c).sels.set k { (s.chan c).sels.get k with
            state := .formatting, admitWord := 3, scrubAsked := [], formatSeq := ((s.chan c).sels.get k).formatSeq + 1
            badBlocks := if ((s.chan c).sels.get k).nand then sortNats bad else [] } } ∧
        (∀ d, d ≠ c → t.chan d = s.chan d) ∧
        t = { s with chans := t.chans, plc := { s.plc with flash := t.plc.flash, spare := t.plc.spare } } ∧
        ∀ a, t.plc.flash.read 0xFF a =
          if (4 * c.val + k.val) * 2 ^ 36 ≤ a ∧ a < (4 * c.val + k.val + 1) * 2 ^ 36 then 0xFF else s.plc.flash.read 0xFF a) ∧
    (((s.chan c).sels.get k).state ∉ [SelState.unformatted, .foreign, .retired, .formatting] →
      exec (.admitSelect c k bad) s = .next (s.putChan c { s.chan c with lastCmd := 4, lastResult := 2 })) ∧
    (((s.chan c).sels.get k).state ≠ .formatting → ∀ b, exec (.admitComplete c k b) s = .next s) ∧
    (((s.chan c).sels.get k).state = .formatting → ((s.chan c).sels.get k).admitWord = 3 →
      (((s.chan c).sels.get k).nand = true ∧ 0 ∈ ((s.chan c).sels.get k).badBlocks → ∀ b,
        ∃ t, exec (.admitComplete c k b) s = .next t ∧ ((t.chan c).sels.get k).state = .failed ∧ t.rng = s.rng) ∧
      (((s.chan c).sels.get k).nand = false ∨ 0 ∉ ((s.chan c).sels.get k).badBlocks →
        ∀ u : State, (s.plc.poolId ≠ 0 ∧ u = s) ∨
            (s.plc.poolId = 0 ∧ ∃ (out : Bytes) (v : State), s.draw 8 true conPool = (some out, v) ∧
              u = { v with plc := { v.plc with poolId := BitVec.ofNat 64 (leNat out) } }) →
          exec (.admitComplete c k true) s = .next ((u.putChan c { s.chan c with
            lastCmd := 4, lastResult := 0
            sels := (s.chan c).sels.set k { (s.chan c).sels.get k with state := .ready, admitWord := 0 } }).raise 0x0410 srcFCC
              (p8 c.val ++ p8 k.val ++ p32 ((s.chan c).sels.get k).densityMbit)) ∧
          ∃ t, exec (.admitComplete c k false) s = .next t ∧ ((t.chan c).sels.get k).state = .failed) ∧
      (((s.chan c).sels.get k).nand = false ∨ 0 ∉ ((s.chan c).sels.get k).badBlocks → s.plc.poolId = 0 →
        ∀ (b : Bool) (u : State), s.draw 8 true conPool = (none, u) → exec (.admitComplete c k b) s = .next u))

/-- R114 to R116, Table 4.14: a channel that is free, enabled and not parked starts, of the requests whose select serves and is not busy (a
program or erase: and whose pair partner does not write, R138), one of the
lowest row that the slot of the Bell schedule gives, and of the first order within it; without one it starts none. A request of a lower row cuts the running transfer,
which goes back to the head of its queue. Slots follow the time base at 2 µs each. -/
def Obligations.Transfers : Prop :=
  (∀ (c : Chan) (w : Nat × Nat) (s : State), (s.chan c).en = true → (s.chan c).parked = false → (s.chan c).running = none →
    s.power ≠ .p3 → s.power ≠ .p4 → w = ((s.chan c).activeBell.getD (factoryBell c.val)).slotAt (s.timeBase.toNat / 2 % 64) →
    ((∀ q ∈ (s.chan c).queue, s.mayStart c q = true → reqRow w (s.chan c).lastGuest q = none) →
      exec (.transferStart c) s = .next s) ∧
    ((∃ q ∈ (s.chan c).queue, s.mayStart c q = true ∧ reqRow w (s.chan c).lastGuest q ≠ none) →
      ∃ t r row o, exec (.transferStart c) s = .next t ∧
        r ∈ (s.chan c).queue ∧ s.mayStart c r = true ∧ reqRow w (s.chan c).lastGuest r = some (row, o) ∧
        (∀ q ∈ (s.chan c).queue, s.mayStart c q = true → ∀ y, reqRow w (s.chan c).lastGuest q = some y →
          row < y.1 ∨ row = y.1 ∧ o ≤ y.2) ∧
        t.chan c = { s.chan c with
          queue := (s.chan c).queue.erase r
          running := some { r with op := if r.op = .read ∧ (s.selAt (4 * c.val + r.sel)).nand = true then .pageRead else r.op }
          lastGuest := if row = 6 then r.host else (s.chan c).lastGuest, stale := false } ∧
        (∀ d, d ≠ c → t.chan d = s.chan d) ∧ t = { s with chans := t.chans, evl := t.evl, plc := { s.plc with spare := t.plc.spare } })) ∧
  (∀ (c : Chan) (n : Nat) (r : Request) (row o : Nat) (q : Request) (s : State), (s.chan c).running = some r →
    (s.chan c).next (((s.chan c).activeBell.getD (factoryBell c.val)).slotAt (s.timeBase.toNat / 2 % 64)) (s.mayStart c) = some ((row, o), q) →
    (row < (reqRow (((s.chan c).activeBell.getD (factoryBell c.val)).slotAt (s.timeBase.toNat / 2 % 64)) (s.chan c).lastGuest r).elim 8 Prod.fst →
      ∃ t, exec (.transferCut c n) s = .next t ∧
        t.chan c = { s.chan c with
          running := none, sels := (t.chan c).sels
          queue := { r with wasCut := true, bytesDone := if r.kind = .demand then 0 else r.bytesDone + n } :: (s.chan c).queue } ∧
        (r.op ≠ .program → (t.chan c).sels = (s.chan c).sels) ∧
        (∀ d, d ≠ c → t.chan d = s.chan d) ∧ t = { s with chans := t.chans }) ∧
    ((reqRow (((s.chan c).activeBell.getD (factoryBell c.val)).slotAt (s.timeBase.toNat / 2 % 64)) (s.chan c).lastGuest r).elim 8 Prod.fst ≤ row →
      exec (.transferCut c n) s = .next s)) ∧
  (∀ s : State, exec .bellSlotBoundary s = .next { s with chans := s.chans.map fun ch => { ch with slot := s.timeBase.toNat / 2 % 64 } })

/-- R102, R142, R145: an operation of a host's write that the device completes well stores the page's new content on that device page and
nowhere else, counts its spare record, and makes the destination durable. Work that is no host's write only frees the device.
R102, R105: a poll notes every select with an operation outstanding, unless RDY says first that none has completed; the rise of FCc_RDY_N
makes it high and polls at once; a channel that polls by RDY and sees it low too long sets TIMEOUT, logs EV 0x0412 and polls as if RDY_EN
were 0. An operation whose data phase is over is outstanding on its device. -/
def Obligations.DeviceCompletes : Prop :=
  (∀ (c : Chan) (k : Sel) (r : Request) (s : State), (s.chan c).running = none → ((s.chan c).sels.get k).busy = some r →
     (r.dest = none →
       exec (.deviceOperationComplete c k .ok) s = .next (s.putSel c k { (s.chan c).sels.get k with busy := none, timeouts := 0 })) ∧
     (∀ (h : Host24) (d : DestKind) (w : PendingWrite) (q : Nat × Option Bytes), r.dest = some d → r.host = h.val →
       (s.port h).pending = some w → w.pages.find? (fun x => x.1 = r.vpage) = some q → (contentBytes q.2).length = 4096 →
       ∃ t, exec (.deviceOperationComplete c k .ok) s = .next t ∧
         ((t.chan c).sels.get k).busy = none ∧
         (∃ w', (t.port h).pending = some w' ∧ w'.pages = w.pages ∧
           w'.dests = w.dests.map fun x => if x.vpage = r.vpage ∧ x.kind = d ∧ x.state = .waiting then { x with state := .durable } else x) ∧
         (d = .copy0 ∨ d = .copy1 ∨ d = .target →
           (∀ a, t.plc.flash.read 0xFF a =
             if flashKey (4 * c.val + k.val) r.dpage ≤ a ∧ a < flashKey (4 * c.val + k.val) r.dpage + 4096
             then (contentBytes q.2).getD (a - flashKey (4 * c.val + k.val) r.dpage) 0xFF else s.plc.flash.read 0xFF a) ∧
           t.plc.spareUsed (4 * c.val + k.val) r.dpage = s.plc.spareUsed (4 * c.val + k.val) r.dpage + 1) ∧
         (d ≠ .copy0 → d ≠ .copy1 → d ≠ .target → t.plc = s.plc) ∧
         t = { s with ports := t.ports, chans := t.chans, plc := { s.plc with flash := t.plc.flash, spare := t.plc.spare } } ∧
         ∀ j, j ≠ h → t.port j = s.port j)) ∧
  (∀ (c : Chan) (s : State),
     (((s.chan c).rdyEn = true ∧ (s.chan c).ignoreRdy = false ∧ (s.chan c).retireRunning.rdyLevel = false) →
       exec (.statusPoll c) s = .next (s.putChan c (s.chan c).retireRunning)) ∧
     (((s.chan c).rdyEn = false ∨ (s.chan c).ignoreRdy = true ∨ (s.chan c).retireRunning.rdyLevel = true) →
       exec (.statusPoll c) s = .next (s.putChan c { (s.chan c).retireRunning with polled := (s.chan c).retireRunning.busySels })) ∧
     exec (.fcRdyRise c) s = .next (s.putChan c { (s.chan c).retireRunning with
       rdyLevel := true, polled := if (s.chan c).rdyEn then (s.chan c).retireRunning.busySels else (s.chan c).polled }) ∧
     ((s.chan c).rdyEn = true → (s.chan c).ignoreRdy = false →
       exec (.fcRdyTimeout c) s = .next ((s.putChan c { s.chan c with
         rdyLevel := false, ignoreRdy := true, stat := (s.chan c).stat ||| 1 }).raise 0x0412 srcFCC (p8 c.val))) ∧
     ((s.chan c).rdyEn = false ∨ (s.chan c).ignoreRdy = true → exec (.fcRdyTimeout c) s = .next s) ∧
     (∀ (r : Request) (k : Sel), (s.chan c).running = some r → r.sel = k.val → r.op ≠ .read →
       (s.chan c).retireRunning = { s.chan c with
         running := none, rdyLevel := if (s.chan c).rdyEn then false else (s.chan c).rdyLevel
         sels := (s.chan c).sels.set k { (s.chan c).sels.get k with busy := some r } }) ∧
     ((s.chan c).running = none → (s.chan c).retireRunning = s.chan c))

/-- Table 4.8, R106, R108, R109: operations that do not complete well. An uncorrectable page is read once more, then counted in ECCCNT with EV
0x0415; a page at its threshold asks for a scrub of its block once (EV 0x0416); a parity error sets its flag and is retried once (EV
0x041D); a failed program or erase sets its flag and lists the block or fails the select; a page that misses its CRC is retried
once, then counted in CRCCNT with EV 0x0417; a timeout is counted and retried once, and a device with another ID has FAILED. -/
def Obligations.DeviceErrors : Prop :=
  ∀ (c : Chan) (k : Sel) (r : Request) (s : State), (s.chan c).running = none → ((s.chan c).sels.get k).busy = some r →
    (r.retried = false →
      exec (.deviceOperationComplete c k .uncorrectable) s = .next (s.putChan c { s.chan c with
        queue := { r with retried := true } :: (s.chan c).queue
        sels := (s.chan c).sels.set k { (s.chan c).sels.get k with busy := none, timeouts := 0 } })) ∧
    (r.retried = true → ((s.chan c).sels.get k).pageErrors = [] →
      exec (.deviceOperationComplete c k .uncorrectable) s = .next ({ (s.raise 0x0415 srcFCC (p8 c.val ++ p8 k.val ++ p32 r.dpage)) with
        chans := s.chans.set c { s.chan c with
          stat := (s.chan c).stat ||| 8
          sels := (s.chan c).sels.set k { (s.chan c).sels.get k with
            busy := none, timeouts := 0, eccCnt := ((s.chan c).sels.get k).eccCnt.inc, pageErrors := [s.timeBase.toNat] } } })) ∧
    (((s.chan c).sels.get k).blockOf r.dpage ∈ ((s.chan c).sels.get k).scrubAsked →
      exec (.deviceOperationComplete c k .atThreshold) s = .next (s.putSel c k { (s.chan c).sels.get k with busy := none, timeouts := 0 })) ∧
    (((s.chan c).sels.get k).blockOf r.dpage ∉ ((s.chan c).sels.get k).scrubAsked →
      exec (.deviceOperationComplete c k .atThreshold) s = .next ((s.putSel c k { (s.chan c).sels.get k with
        busy := none, timeouts := 0
        scrubAsked := ((s.chan c).sels.get k).scrubAsked ++ [((s.chan c).sels.get k).blockOf r.dpage] }).raise 0x0416 srcFCC
          (p8 c.val ++ p8 k.val ++ p32 (((s.chan c).sels.get k).blockOf r.dpage)))) ∧
    (∀ p : Fin 3, ∃ t, exec (.deviceOperationComplete c k (.parity p)) s = .next t ∧
      t.chan c = { s.chan c with
        stat := (s.chan c).stat ||| 0x40
        queue := if r.retried then (s.chan c).queue else { r with retried := true } :: (s.chan c).queue
        sels := (s.chan c).sels.set k { (s.chan c).sels.get k with busy := none, timeouts := 0 } } ∧
      t.evl = (s.raise 0x041D srcFCC (p8 c.val ++ p8 p.val)).evl ∧ t = { s with chans := t.chans, evl := t.evl } ∧ ∀ d, d ≠ c → t.chan d = s.chan d) ∧
    (∃ t, exec (.deviceOperationComplete c k .programFail) s = .next t ∧ (t.chan c).stat.getLsbD 4 = true ∧
      (((t.chan c).sels.get k).state = .failed ∨ ((s.chan c).sels.get k).blockOf r.dpage ∈ ((t.chan c).sels.get k).badBlocks)) ∧
    (∃ t, exec (.deviceOperationComplete c k .eraseFail) s = .next t ∧ (t.chan c).stat.getLsbD 5 = true ∧
      (((t.chan c).sels.get k).state = .failed ∨ ((s.chan c).sels.get k).blockOf r.dpage ∈ ((t.chan c).sels.get k).badBlocks)) ∧
    (r.op = .pageRead →
      exec (.pageReadDone c k true) s = .next (s.putSel c k { (s.chan c).sels.get k with busy := none, timeouts := 0 }) ∧
      (r.retried = false →
        exec (.pageReadDone c k false) s = .next (s.putChan c { s.chan c with
          queue := { r with retried := true } :: (s.chan c).queue
          sels := (s.chan c).sels.set k { (s.chan c).sels.get k with busy := none, timeouts := 0 } })) ∧
      (r.retried = true → ((s.chan c).sels.get k).pageErrors = [] →
        exec (.pageReadDone c k false) s = .next ({ (s.raise 0x0417 srcFCC (p8 c.val ++ p8 k.val ++ p32 r.dpage)) with
          chans := s.chans.set c { s.chan c with
            stat := (s.chan c).stat ||| 4
            sels := (s.chan c).sels.set k { (s.chan c).sels.get k with
              busy := none, timeouts := 0, crcCnt := ((s.chan c).sels.get k).crcCnt.inc, pageErrors := [s.timeBase.toNat] } } }))) ∧
    (r.retried = false → ((s.chan c).sels.get k).timeouts < 2 →
      ∃ t, exec (.commandTimeout c k true) s = .next t ∧
        t.chan c = { s.chan c with
          stat := (s.chan c).stat ||| 2, queue := { r with retried := true } :: (s.chan c).queue
          sels := (s.chan c).sels.set k { (s.chan c).sels.get k with
            busy := none, timeouts := ((s.chan c).sels.get k).timeouts + 1, tmoCnt := ((s.chan c).sels.get k).tmoCnt.inc } } ∧
        t = { s with chans := t.chans, evl := t.evl } ∧ ∀ d, d ≠ c → t.chan d = s.chan d) ∧
    (∃ t, exec (.commandTimeout c k false) s = .next t ∧ ((t.chan c).sels.get k).state = .failed)

/-- R119, R120, Table 4.10: FCC_BELL.READY sets only where the staged schedule passes its checks, and a failed check is logged; a commit takes every
named channel or none; at the cycle boundary the bank flips, the epoch counts and the schedule's registers load. -/
def Obligations.BellSchedules : Prop :=
  (∀ (c : Chan) (s : State),
    exec (.fccBellReadyWrite c false) s = .next (s.putChan c { s.chan c with ready := false }) ∧
    ((s.chan c).inactiveBell = none → exec (.fccBellReadyWrite c true) s = .next (s.raise 0x0418 srcFCC (p8 c.val ++ p8 1))) ∧
    (∀ b, (s.chan c).inactiveBell = some b →
      (s.bellStagedFailed c b true = 0 → exec (.fccBellReadyWrite c true) s = .next (s.putChan c { s.chan c with ready := true })) ∧
      (s.bellStagedFailed c b true ≠ 0 → exec (.fccBellReadyWrite c true) s = .next (s.raise 0x0418 srcFCC
        (p8 c.val ++ p8 (s.bellStagedFailed c b true)))))) ∧
  (∀ (v : Word) (s : State),
    ((∀ c : Chan, v.getLsbD c.val = true → s.maskBits.getLsbD c.val = true → (s.chan c).ready = true) →
      ∃ t, exec (.fccBellCommit v) s = .next t ∧ t = { s with chans := t.chans } ∧
        ∀ c : Chan, t.chan c = { s.chan c with commitPending := (s.chan c).commitPending || (v.getLsbD c.val && s.maskBits.getLsbD c.val) }) ∧
    ((∃ c : Chan, v.getLsbD c.val = true ∧ s.maskBits.getLsbD c.val = true ∧ (s.chan c).ready = false) →
      ∃ c : Chan, v.getLsbD c.val = true ∧ (s.chan c).ready = false ∧
        exec (.fccBellCommit v) s = .next (s.raise 0x0418 srcFCC (p8 c.val ++ p8 0)))) ∧
  (∀ s : State, ∃ t, exec .bellCommitTakeEffect s = .next t ∧ t = { s with chans := t.chans } ∧
    ∀ c : Chan, ((s.chan c).commitPending = false → t.chan c = s.chan c) ∧
      ∀ b, (s.chan c).commitPending = true → (s.chan c).inactiveBell = some b →
        (t.chan c).active = !(s.chan c).active ∧ (t.chan c).epoch = (s.chan c).epoch + 1 ∧ (t.chan c).ready = false ∧
        (t.chan c).commitPending = false ∧ (t.chan c).en = true ∧ (t.chan c).rdyTmo = BitVec.ofNat 20 b.rdyTmoUs ∧
        (t.chan c).poll = BitVec.ofNat 16 b.pollNs ∧ (t.chan c).queue = (s.chan c).queue ∧ (t.chan c).running = (s.chan c).running)

/-! ## Placement (chapter 5) -/

/-- R151, R153, Table 5.4: a relocation that may start takes an unused slot and START_WSEQ and gives the extent its TARGET; each page that is
copied is stored on the TARGET and nowhere else; the commit puts TARGET in its position, counts GEN and the extent epoch, and lets
the old run drain; when it has drained the relocation is gone. A deadline that passes marks what is waited on as overdue. -/
def Obligations.Relocations : Prop :=
  ∀ (h : Host24) (e : Nat) (x : Extent) (s : State), s.extentAt h e = some x →
    (∀ (target : CopyLoc) (p : Fin 3) (fold : Bool), x.state = .live → x.moving = false → s.relocOf h e = none → s.plc.relocs.length < 8 →
      s.plc.steady = false → (p = 0 → x.copy0.valid = true) → (p = 1 → x.copy1.valid = true) → (p = 2 → x.copies.length < 2) →
      s.targetOk h x target p.val fold = true →
      ∃ t r j, exec (.relocationStart h e target p fold) s = .next t ∧
        t.plc.relocs = s.plc.relocs ++ [r] ∧ r.host = h.val ∧ r.extent = e ∧ r.fold = fold ∧ r.startWseq = s.plc.wseq.toNat ∧
        (∀ q ∈ s.plc.relocs, q.slot ≠ r.slot) ∧
        t.extentAt h e = some { x with
          target := { valid := true, chan := target.chan.val, sel := target.sel.val, dpage := target.dpage.toNat }
          rrec := r.slot, replaces := p.val, copied := 0, moving := true, journal := j } ∧
        (∀ k, k ≠ h → t.extents k = s.extents k) ∧
        t = { s with plc := { s.plc with extents := t.plc.extents, relocs := t.plc.relocs, queued := t.plc.queued } }) ∧
    (∀ (r : Reloc) (b : Bytes), s.relocOf h e = some r → r.draining = none → x.moving = true → x.copied < x.pages →
      (s.selAt x.target.index).state = .ready → s.copySource h x (x.vbase + x.copied) = some b → b.length = 4096 →
      ∃ t, exec (.relocationPageCopied h e) s = .next t ∧ t.extentAt h e = some { x with copied := x.copied + 1 } ∧
        (∀ a, t.plc.flash.read 0xFF a =
          if flashKey x.target.index (x.target.dpage + x.copied) ≤ a ∧ a < flashKey x.target.index (x.target.dpage + x.copied) + 4096
          then b.getD (a - flashKey x.target.index (x.target.dpage + x.copied)) 0xFF else s.plc.flash.read 0xFF a) ∧
        t = { s with
          ports := t.ports, chans := t.chans, free := t.free
          plc := { s.plc with extents := t.plc.extents, flash := t.plc.flash, spare := t.plc.spare } } ∧
        ∀ k, k ≠ h → t.port k = s.port k ∧ t.extents k = s.extents k) ∧
    (∀ r : Reloc, s.relocOf h e = some r → r.draining = none → x.moving = true → x.copied = x.pages → (s.port h).pending = none →
      (s.ttOf h).waiting = none →
      ∃ t y, exec (.relocationCommit h e) s = .next t ∧ t.extentAt h e = some y ∧
        y.copy0 = (if x.replaces = 0 ∨ (x.replaces ≠ 1 ∧ x.copy0.valid = false) then x.target else x.copy0) ∧
        y.copy1 = (if x.replaces = 1 ∨ (x.replaces ≠ 0 ∧ x.copy0.valid = true) then x.target else x.copy1) ∧
        y.moving = false ∧ y.target = {} ∧ y.gen = x.gen + 1 ∧ y.vbase = x.vbase ∧ y.pages = x.pages ∧
        t.plc.xepoch.get h = s.plc.xepoch.get h + 1 ∧ (t.port h).epochNews = true ∧ (t.port h).prefetch = none ∧
        (∃ q ∈ t.plc.relocs, q.host = h.val ∧ q.extent = e ∧ q.draining = some x.replaced) ∧ t.plc.flash = s.plc.flash ∧
        t = { s with ports := t.ports, tt := t.tt, plc := t.plc, evl := t.evl }) ∧
    (∀ (r : Reloc) (l : Loc), s.relocOf h e = some r → r.draining = some l →
      ∃ t, exec (.relocationDrainDone h e) s = .next t ∧ (∀ q ∈ t.plc.relocs, ¬(q.host = h.val ∧ q.extent = e)) ∧
        t.plc.flash = s.plc.flash ∧ t = { s with ports := t.ports, tt := t.tt, plc := t.plc, evl := t.evl }) ∧
    (s.plc.steady = true →
      ∃ t, exec (.relocationDeadline h e) s = .next t ∧
        t.plc.relocs = s.plc.relocs.map (fun q =>
          if q.host = h.val ∧ q.extent = e ∧ q.waitedOn = true ∧ q.draining = none then { q with overdue := true } else q) ∧
        t.plc.queued = s.plc.queued.map (fun q =>
          if q.host = h.val ∧ q.extent = e ∧ q.waitedOn = true ∧ q.draining = none then { q with overdue := true } else q) ∧
        t = { s with plc := { s.plc with
          relocs := t.plc.relocs, queued := t.plc.queued, mirrorLost := t.plc.mirrorLost, stagingLow := t.plc.stagingLow
          overdue := t.plc.overdue } })

/-- R149, R150, R154, R161, R162: the root block switches to the checkpoint just written; PLC_DISCARD only sets; a discard frees the host's
uncommitted shadows and no committed one; a write that waited too long for staging room is unrecoverable with EV 0x0609; one for which room is
found gets its destinations; and Steady mode ends when no reason holds, which every host is told. -/
def Obligations.Staging : Prop :=
  (∀ s : State,
    (s.plc.registry.ckptRunning = true →
      exec .checkpointDone s = .next { s with plc := { s.plc with registry := { s.plc.registry with
        ckptSlot := !s.plc.registry.ckptSlot, rootSeq := s.plc.registry.rootSeq + 1, ckptRunning := false
        logUsed := s.plc.registry.logUsed - s.plc.registry.ckptCover } } }) ∧
    (s.plc.registry.ckptRunning = false → exec .checkpointDone s = .next s) ∧
    (∀ v : Word, exec (.plcDiscardWrite v) s = .next { s with plc := { s.plc with
      discard := s.plc.discard ||| (v.setWidth 24 &&& s.maskBits) } }) ∧
    (s.plc.steady = true → reasonBits s.updReasons.plc = 0 →
      ∃ t, exec .steadyExit s = .next t ∧ t.plc.steady = false ∧
        (∀ h, t.port h = { s.port h with hpw := { (s.port h).hpw with attnCause := (s.port h).hpw.attnCause ||| 4 } }) ∧
        t.evl = (s.raise 0x0602 srcPLC (p32 ((s.timeBase.toNat - s.plc.steadySince) / 1000000))).evl ∧
        t = { s with ports := t.ports, evl := t.evl, plc := { s.plc with
          steady := false, mirrorLost := t.plc.mirrorLost, stagingLow := t.plc.stagingLow, overdue := t.plc.overdue } }) ∧
    (s.plc.steady = true → reasonBits s.updReasons.plc ≠ 0 → ∃ t, exec .steadyExit s = .next t ∧ t.plc.steady = true)) ∧
  (∀ (h : Host24) (s : State),
    (s.plc.discard.getLsbD h.val = true →
      ∃ t, exec (.shadowDiscardDone h) s = .next t ∧
        t.plc.shadows = s.plc.shadows.filter (fun x => x.host ≠ h.val || x.committed) ∧ t.plc.discard.getLsbD h.val = false ∧
        (∀ k : Host24, k ≠ h → t.plc.discard.getLsbD k.val = s.plc.discard.getLsbD k.val) ∧
        t.plc.flash = s.plc.flash ∧ t.plc.journal = s.plc.journal ∧
        t = { s with ports := t.ports, tt := t.tt, plc := t.plc, evl := t.evl }) ∧
    (s.plc.discard.getLsbD h.val = false → exec (.shadowDiscardDone h) s = .next s) ∧
    (∀ w, (s.port h).pending = some w → w.waitsStaging = true →
      ∃ t, exec (.stgWaitTimeout h) s = .next t ∧
        t.port h = { s.port h with
          wip := false, pending := none, eraseErr := (s.port h).eraseErr || w.erase, progErr := (s.port h).progErr || !w.erase } ∧
        (∀ k, k ≠ h → t.port k = s.port k) ∧ t = { s with ports := t.ports, chans := t.chans, evl := t.evl }) ∧
    (∀ w, (s.port h).pending = some w → w.waitsStaging = true → s.writeHeld h w.pages = false → s.noStagingRoom h w.stage w.pages = false →
      ∃ t, exec (.journalSpaceAvailable h) s = .next t ∧
        t.port h = { s.port h with pending := some { w with
          held := false, waitsStaging := false, dests := w.pages.flatMap fun q => s.pageDests h (w.stage.contains q.1) q.1 } } ∧
        (∀ k, k ≠ h → t.port k = s.port k) ∧ t = { s with ports := t.ports, chans := t.chans, free := s.free + 1 }) ∧
    ((s.port h).pending = none → exec (.journalSpaceAvailable h) s = .next s ∧ exec (.stgWaitTimeout h) s = .next s))

/-- R89, R129, R133, R156, R160, R164: after the Registrar's power-up steps every host that the part has leaves Off; the end of the scan clears SCANNING;
RELEASE removes a DORMANT or staged extent and is refused for any other; RECREATE gives a lost extent new, erased runs and changes no
other byte of flash. -/
def Obligations.PlacementLife : Prop :=
  (∀ (torn : List TornPage) (s : State),
    (s.plc.scanning = true → s.fwRuns = true → s.sys.recovery = false →
      ∃ t, exec (.registrarPowerUp torn) s = .next t ∧ ∀ h : Host24, s.fused h.val = false → (t.imgOf h).state ≠ .off) ∧
    (s.plc.scanning = false ∨ s.fwRuns = false → exec (.registrarPowerUp torn) s = .next s ∧ exec .scanComplete s = .next s) ∧
    (s.plc.scanning = true → s.fwRuns = true → s.upd.state ≠ .trial →
      ∃ t, exec .scanComplete s = .next t ∧ t.plc.scanning = false ∧ t.plc.flash = s.plc.flash ∧
        t = { s with ports := t.ports, tt := t.tt, plc := t.plc, evl := t.evl })) ∧
  (∀ (h : Host24) (e : Nat) (s : State),
    (s.extentAt h e = none →
      exec (.placementRelease h e) s = .next { s with plc := { s.plc with lastCmd := 1, lastResult := 2 } } ∧
      exec (.placementRecreate h e) s = .next { s with plc := { s.plc with lastCmd := 2, lastResult := 2 } }) ∧
    (∀ x, s.extentAt h e = some x →
      (x.dormant = false → x.staged = false →
        exec (.placementRelease h e) s = .next { s with plc := { s.plc with lastCmd := 1, lastResult := 2 } }) ∧
      (x.dormant = true ∨ x.staged = true →
        ∃ t, exec (.placementRelease h e) s = .next t ∧ (∀ y ∈ t.extents h, y.index ≠ e) ∧
          (∀ j ∈ t.plc.journal ++ t.plc.shadows, ¬(j.host = h.val ∧ j.extent = e)) ∧
          t.plc.xepoch.get h = s.plc.xepoch.get h + 1 ∧ t.plc.flash = s.plc.flash ∧ t.plc.lastCmd = 1 ∧ t.plc.lastResult = 0 ∧
          t = { s with ports := t.ports, tt := t.tt, plc := t.plc, evl := t.evl }) ∧
      (x.state = .live → exec (.placementRecreate h e) s = .next { s with plc := { s.plc with lastCmd := 2, lastResult := 2 } }) ∧
      (x.state = .lost → s.choosePlaces (s.committedTt h) h x.pinned x.mirror x.writable x.pages = none →
        exec (.placementRecreate h e) s = .next { s with plc := { s.plc with lastCmd := 2, lastResult := 3 } }) ∧
      (∀ a b, x.state = .lost → s.choosePlaces (s.committedTt h) h x.pinned x.mirror x.writable x.pages = some [a, b] →
        a.valid = true → b.valid = true →
        ∃ t y, exec (.placementRecreate h e) s = .next t ∧ t.extentAt h e = some y ∧ y.state = .live ∧ y.copy0 = a ∧ y.copy1 = b ∧
          y.gen = x.gen + 1 ∧ y.degraded = false ∧ t.plc.lastCmd = 2 ∧ t.plc.lastResult = 0 ∧
          t.plc.xepoch.get h = s.plc.xepoch.get h + 1 ∧
          (∀ n, t.plc.flash.read 0xFF n =
            if (flashKey a.index a.dpage ≤ n ∧ n < flashKey a.index a.dpage + x.pages * 4096) ∨
              (flashKey b.index b.dpage ≤ n ∧ n < flashKey b.index b.dpage + x.pages * 4096) then 0xFF else s.plc.flash.read 0xFF n) ∧
          t = { s with ports := t.ports, tt := t.tt, plc := t.plc, evl := t.evl, free := s.free + 1 })))

/-! ## Hosts (chapter 6) -/

/-- R177, R178, Tables 1.7, 6.4 and 6.6: POWER_ON takes a host from Off to Held, or to Detention where its Timetable has DETAIN; POWER_OFF takes any
other host to Off; HOLD takes a released or measured host to Held; RETRY ends a Detention that is not NO_TIMETABLE or
NO_ACCEPTABLE_IMAGE. Sidebands follow the state, EV 0x0239 is logged, verification starts afresh and shadows are discarded. A command
that the state does not allow reports 2 and does nothing else. POWER_OFF or HOLD of a Trial host reverts the Trial with reason HELD. -/
def Obligations.HostCommands : Prop :=
  ∀ (who : Caller) (h : Host24) (s : State),
    (s.allowed who (0x2300 + h.val) 0x10 (p32 1) →
      ((s.imgOf h).state ≠ .off → exec (.powerOn who h) s = .next ((s.hostResult h 1 2).answered 0)) ∧
      ((s.imgOf h).state = .off → ((s.ttOf h).activeTt).elim true Timetable.detain = false →
        ∃ t, exec (.powerOn who h) s = .next t ∧ s.hostFrame h t ∧ t.sides h = levels .held ∧
          t.imgOf h = { s.imgOf h with state := .held, reason := 0, settled := false, lastCmd := 1, lastResult := 0 } ∧
          t.evl = (s.raise 0x0239 srcFW (p8 h.val ++ p8 0 ++ p8 1)).evl) ∧
      ((s.imgOf h).state = .off → ((s.ttOf h).activeTt).elim true Timetable.detain = true →
        ∃ t, exec (.powerOn who h) s = .next t ∧ s.hostFrame h t ∧ t.sides h = levels .detention ∧
          t.imgOf h = { (s.imgOf h).dropVerify with state := .detention, reason := 1, settled := false, lastCmd := 1, lastResult := 0 } ∧
          s.lastEvent t 0x0236 srcFW (p8 h.val ++ p8 1))) ∧
    (s.allowed who (0x2300 + h.val) 0x10 (p32 2) →
      ((s.imgOf h).state = .off → exec (.powerOff who h) s = .next ((s.hostResult h 2 2).answered 0)) ∧
      ((s.imgOf h).state ≠ .off → (s.upd.inTrial = false ∨ s.upd.recOf.trialHosts.getLsbD h.val = false) →
        ∃ t, exec (.powerOff who h) s = .next t ∧ s.hostFrame h t ∧ t.sides h = levels .off ∧
          t.imgOf h = { (s.imgOf h).dropVerify with state := .off, reason := 0, settled := false, lastCmd := 2, lastResult := 0 } ∧
          t.lists = s.lists.filter (fun x => x.1 ≠ h.val) ∧ t.plc.discard = s.plc.discard ||| BitVec.ofNat 24 (2 ^ h.val) ∧
          s.lastEvent t 0x0239 srcFW (p8 h.val ++ p8 (s.imgOf h).state.code ++ p8 0)) ∧
      ((s.imgOf h).state ≠ .off → s.upd.inTrial = true → s.upd.recOf.trialHosts.getLsbD h.val = true →
        ∃ t, exec (.powerOff who h) s = .next t ∧ t.upd.state = .idle ∧ t.upd.lastRevert = 7 ∧ t.upd.outcome = 12 ∧
          (t.imgOf h).lastCmd = 2 ∧ (t.imgOf h).lastResult = 0)) ∧
    (s.allowed who (0x2300 + h.val) 0x10 (p32 3) →
      ((s.imgOf h).state ∈ [HostState.off, .held, .detention] → exec (.hold who h) s = .next ((s.hostResult h 3 2).answered 0)) ∧
      ((s.imgOf h).state ∉ [HostState.off, .held, .detention] → (s.upd.inTrial = false ∨ s.upd.recOf.trialHosts.getLsbD h.val = false) →
        ∃ t, exec (.hold who h) s = .next t ∧ s.hostFrame h t ∧ t.sides h = levels .held ∧
          t.imgOf h = { (s.imgOf h).dropVerify with state := .held, reason := 0, lastCmd := 3, lastResult := 0 } ∧
          t.lists = s.lists.filter (fun x => x.1 ≠ h.val) ∧ t.plc.discard = s.plc.discard ||| BitVec.ofNat 24 (2 ^ h.val) ∧
          s.lastEvent t 0x0239 srcFW (p8 h.val ++ p8 (s.imgOf h).state.code ++ p8 1))) ∧
    (s.allowed who (0x2300 + h.val) 0x10 (p32 4) →
      ((s.imgOf h).state ≠ .detention ∨ (s.imgOf h).reason = 1 ∨ (s.imgOf h).reason = 2 →
        exec (.retry who h) s = .next ((s.hostResult h 4 2).answered 0)) ∧
      ((s.imgOf h).state = .detention → (s.imgOf h).reason ≠ 1 → (s.imgOf h).reason ≠ 2 →
        ∃ t, exec (.retry who h) s = .next t ∧ s.hostFrame h t ∧ t.sides h = levels .held ∧
          t.imgOf h = { (s.imgOf h).dropVerify with state := .held, reason := 0, lastCmd := 4, lastResult := 0 } ∧
          t.evl = (s.raise 0x0239 srcFW (p8 h.val ++ p8 6 ++ p8 1)).evl))

/-- R167, R172, R173, R176, R182: a host that is not Held, whose selection is made, or whose Timetable has yet to switch keeps its state. The first
candidate not yet tried that passes checks 1 to 6 is selected, and its Timetable is the committed one. A host with no candidate left, and
one whose every candidate fails check 1 outside a Trial, enters Detention with the reason of R182. SETTLE_MS ends only for a host that is on.
R177, R179, R180, R183, R191: a Held host whose candidate passed, that has settled, and for which no scan runs is released: to Trial or Running
where every block is verified, On Hall pass where R179 allows it and its list fits, with the list in the list area, and else to
Measuring. HCn_RST_N and HCn_EGR follow Table 1.7 and .07 takes the time. -/
def Obligations.HostSelection : Prop :=
  (∀ (h : Host24) (s : State),
     exec (.settleMsElapsed h) s = .next (if (s.imgOf h).state = .off then s else s.modImg h fun i => { i with settled := true }) ∧
     ((s.imgOf h).state ≠ .held ∨ (s.imgOf h).selected.isSome = true ∨ (s.ttOf h).pend = true ∨ s.lcReleases = false ∨ s.fwRuns = false ∨
         h ∈ s.lcc.heldHosts → exec (.imageSelection h) s = .next s) ∧
     ((s.imgOf h).state = .held → (s.imgOf h).selected = none → (s.ttOf h).pend = false → s.lcReleases = true → s.fwRuns = true →
       h ∉ s.lcc.heldHosts → s.fused h.val = false →
       (∀ (k : Fin 3) (e : Bytes) (x : Timetable) (s1 : State),
         (s.candidateSlots h).find? (fun j => !(s.imgOf h).tried.contains j) = some k → s.slotEnv h k = some e → s.envFailed e h k = 0 →
         ((s.imgOf h).slots.get k).timetable = some x → s.slotFits e x h k = true → (s.tieEvent h).prepareSlot x h = some (true, s1) →
         x.detain = false →
         ∃ t, exec (.imageSelection h) s = .next t ∧ (t.imgOf h).state = .held ∧ (t.imgOf h).selected = some k ∧ (t.imgOf h).passed = true ∧
           (t.imgOf h).verified = [] ∧ (t.imgOf h).slots = (s.imgOf h).slots ∧ (t.ttOf h).activeTt = some x ∧ t.plc.flash = s.plc.flash ∧
           t.hcs = s.hcs ∧ (∀ j, j ≠ h → t.imgOf j = s.imgOf j ∧ t.ttOf j = s.ttOf j)) ∧
       ((∀ k ∈ s.candidateSlots h, k ∉ (s.imgOf h).tried → (∃ e, s.slotEnv h k = some e ∧ envCheck1 e = false) ∧ s.slotTrial h k = false) →
         ∃ t, exec (.imageSelection h) s = .next t ∧ (t.imgOf h).state = .detention ∧ t.sides h = levels .detention ∧
           (t.imgOf h).reason = (if (s.committedTt h).detain then 1 else if (s.imgOf h).acceptable then 3 else 2) ∧
           s.lastEvent t 0x0236 srcFW (p8 h.val ++ p8 (t.imgOf h).reason) ∧ s.hostFrame h t))) ∧
  (∀ (h : Host24) (k : Fin 3) (e : Bytes) (s : State), (s.imgOf h).selected = some k → ((s.imgOf h).slots.get k).envelope = some e →
     ((s.imgOf h).state ≠ .held ∨ (s.imgOf h).passed = false ∨ (s.imgOf h).settled = false ∨ s.plc.scanning = true ∨ s.lcReleases = false →
       exec (.hostRelease h) s = .next s) ∧
     ((s.imgOf h).state = .held → (s.imgOf h).passed = true → (s.imgOf h).settled = true → s.plc.scanning = false → s.lcReleases = true →
       s.fwRuns = true → h ∉ s.lcc.heldHosts →
       (envBlocks e ≤ (s.imgOf h).verified.length → s.slotTrial h k = true →
         ∃ t, exec (.hostRelease h) s = .next t ∧ s.hostFrame h t ∧ t.sides h = levels .trial ∧
           t.imgOf h = { s.imgOf h with state := .trial, reason := 0, releaseTime := s.timeBase, verified := [] } ∧
           (t.port h).hpw.health = 0 ∧ (t.port h).hpw.attnCause.getLsbD 3 = true) ∧
       (envBlocks e ≤ (s.imgOf h).verified.length → s.slotTrial h k = false →
         ∃ t u, exec (.hostRelease h) s = .next t ∧ s.hostFrame h u ∧ u.sides h = levels .running ∧
           u.imgOf h = { s.imgOf h with state := .running, reason := 0, releaseTime := s.timeBase } ∧
           t = if k = 2 then (u.confirmKey h).stagedEval else u) ∧
       (∀ a, (s.imgOf h).verified.length < envBlocks e → s.mayHallPass h e = true → s.listPlace (envListLen e) = some a →
         s.bitmapUsed + envBlocks e ≤ 16384 →
         ∃ t, exec (.hostRelease h) s = .next t ∧ s.hostFrame h { t with sram := s.sram } ∧ t.sides h = levels .hallPass ∧
           t.imgOf h = { s.imgOf h with
             state := .hallPass, reason := 0, releaseTime := s.timeBase, listLoaded := true, deadlinePaused := false, hallRun := true } ∧
           t.lists = s.lists ++ [(h.val, a, envListLen e)] ∧
           ∀ n, t.sram.read 0 n = if a ≤ n ∧ n < a + (field e 0x80 (envListLen e)).length
             then (field e 0x80 (envListLen e)).getD (n - a) 0 else s.sram.read 0 n) ∧
       ((s.imgOf h).verified.length < envBlocks e → s.mayHallPass h e = false →
         ∃ t, exec (.hostRelease h) s = .next t ∧ s.hostFrame h t ∧ t.sides h = levels .measuring ∧
           t.imgOf h = { s.imgOf h with state := .measuring, reason := 0 } ∧
           s.lastEvent t 0x0239 srcFW (p8 h.val ++ p8 1 ++ p8 2))))

/-- R180, R184 to R186: a block that matches its list entry becomes verified. A mismatch while Measuring sends the host back to Held with the
slot passed over; On Hall pass it holds reset in hardware, discards shadows, bars Hall pass for the image, and detains. When all blocks are
verified and the pending write is durable the host runs, with its shadows committed. A sweep deadline that passes goes back to Measuring. -/
def Obligations.HallPass : Prop :=
  ∀ (h : Host24) (k : Fin 3) (e : Bytes) (s : State), (s.imgOf h).selected = some k → ((s.imgOf h).slots.get k).envelope = some e →
    (∀ (b : Nat) (readable : Bool), (s.imgOf h).passed = true → b < envBlocks e → b ∉ (s.imgOf h).verified →
      (s.imgOf h).releasing = false → s.fwRuns = true →
      ((s.imgOf h).state ∈ [HostState.held, .measuring, .hallPass] → s.blockGood h e b readable = true →
        (insertNat b (s.imgOf h).verified).length < envBlocks e →
        ∃ t, exec (.blockVerified h b readable) s = .next t ∧
          t.imgOf h = { s.imgOf h with
            verified := insertNat b (s.imgOf h).verified, tapDone := (s.imgOf h).tapDone.filter (fun x => x ≠ b)
            sweepQueue := (s.imgOf h).sweepQueue.filter (fun x => x ≠ b) } ∧
          t = { s with img := s.img.set h (t.imgOf h), pwr := { s.pwr with exempt := t.pwr.exempt } }) ∧
      ((s.imgOf h).state = .measuring → s.blockGood h e b readable = false → s.slotTrial h k = false →
        ∃ t, exec (.blockVerified h b readable) s = .next t ∧ s.hostFrame h t ∧ t.sides h = levels .held ∧
          t.imgOf h = { (s.imgOf h).dropVerify with
            state := .held, reason := 0, tried := (s.imgOf h).tried ++ [k], acceptable := true }) ∧
      ((s.imgOf h).state = .hallPass → s.blockGood h e b readable = false →
        ∃ t, exec (.blockVerified h b readable) s = .next t ∧ s.hostFrame h t ∧ t.sides h = levels .detention ∧
          t.imgOf h = { (s.imgOf h).dropVerify with
            state := .detention, reason := 4, barred := (s.imgOf h).barred ++ [envDigest e] } ∧
          t.hcs.hold.getLsbD h.val = true ∧ t.plc.discard.getLsbD h.val = true)) ∧
    ((s.imgOf h).state = .hallPass → (s.imgOf h).releasing = true →
      ((∃ w, (s.port h).pending = some w ∧ w.held = false) → exec (.hallRelease h) s = .next s) ∧
      ((s.port h).pending = none →
        ∃ t, exec (.hallRelease h) s = .next t ∧ t.sides h = levels .running ∧
          t.imgOf h = { s.imgOf h with state := .running, reason := 0, releasing := false, listLoaded := false } ∧
          t.lists = s.lists.filter (fun x => x.1 ≠ h.val) ∧
          (∀ x ∈ t.plc.shadows, x.host = h.val → x.committed = true) ∧
          (∀ x ∈ s.plc.shadows, x.host ≠ h.val → x ∈ t.plc.shadows) ∧ t.plc.flash = s.plc.flash ∧
          s.hostFrame h { t with plc := { t.plc with journal := s.plc.journal, shadows := s.plc.shadows, registry := s.plc.registry } })) ∧
    ((s.imgOf h).state = .hallPass → (s.imgOf h).deadlinePaused = false → (s.imgOf h).releasing = false →
      ∃ t, exec (.sweepDeadline h) s = .next t ∧ s.hostFrame h t ∧ t.sides h = levels .measuring ∧
        t.imgOf h = { s.imgOf h with
          state := .measuring, reason := 0, tap := none, tapDone := [], sweepQueue := [], listLoaded := false } ∧
        t.lists = s.lists.filter (fun x => x.1 ≠ h.val) ∧ t.plc.discard.getLsbD h.val = true) ∧
    ((s.imgOf h).state ≠ .hallPass → exec (.hallRelease h) s = .next s ∧ exec (.sweepDeadline h) s = .next s)

/-! ## Digests and signatures (chapter 7) -/

/-- R197, R201, Table 7.3: a submission is judged by its alignment, its reading, its descriptor, its key and its room, in that order, and DGC_LASTSUB
tells its outcome. An accepted job waits last in the queue with a fresh result set, and ends P2. A refused one changes nothing else, but
that a full cluster counts BUSY. Releasing a DONE set frees it; an abort ends the job with ABORTED; for another master neither does anything.
R206, R208: words of a PUSH job join its message, cut at LEN and up to 64 of them while it waits; excess words set TRUNCATED; DGC_LASTW ends a
KR1208-mode message, dropping the bytes of the last word that do not count, and is ignored with LASTW_IGN on another job. A word for a
set of another master, for one that takes no push, or for a full one meets a bus error, which sets the sticky error of the debug port. -/
def Obligations.DigestJobs : Prop :=
  ((∀ (m : Master) (a : Word) (s : State), s.reaches m 0x4009000C →
     (a.toNat % 32 ≠ 0 → exec (.dgcSubmit m a) s = .next (s.setLastSub m { code := 2 })) ∧
     (∀ (b : Bytes) (d : Desc), a.toNat % 32 = 0 → s.memRead m a.toNat 32 = (some b, s) →
       d = { w := (List.range 8).map fun i => u32 b (4 * i) } →
       (s.descOk m d = false → exec (.dgcSubmit m a) s = .next (s.setLastSub m { code := 2 })) ∧
       (s.descOk m d = true → s.keyOk m d = false → exec (.dgcSubmit m a) s = .next (s.setLastSub m { code := 3 })) ∧
       (s.descOk m d = true → s.keyOk m d = true → (s.freeSet = none ∨ 64 ≤ s.dgc.queue.length) →
         ∃ n, exec (.dgcSubmit m a) s = .next
           (({ s with dgc := { s.dgc with busyCnt := s.dgc.busyCnt.inc } }).setLastSub m { code := 1, set := 0, retry := n })) ∧
       (∀ k : Fin 64, s.descOk m d = true → s.keyOk m d = true → s.freeSet = some k → s.dgc.queue.length < 64 →
         ∃ t, exec (.dgcSubmit m a) s = .next t ∧ t.power = .p0 ∧
           t.dgc.queue = s.dgc.queue ++ [{ set := k.val, master := m, desc := d, fed := [], ended := false, buffered := 0, started := 0 }] ∧
           t.dgc.sets = s.dgc.sets.set k { alloc := true, queued := true, alg := BitVec.ofNat 3 d.alg, tag := BitVec.ofNat 32 (d.word 5)
                                           owner := some m, push := d.src = 1, lenMode := d.lenMode } ∧
           t.dgc.lastSubs = s.dgc.lastSubs.filter (fun x => x.1 ≠ masterId m) ++
             [(masterId m, { code := 0, set := BitVec.ofNat 6 k.val, retry := 0 })] ∧
           t = { s with dgc := t.dgc, power := t.power, pwr := t.pwr, rng := t.rng, evl := t.evl }))) ∧
   (∀ (m : Master) (k : Fin 64) (s : State),
     (s.reaches m 0x40090014 →
       ((s.resSet k.val).done = true → (s.resSet k.val).owner = some m →
         exec (.dgcResRel m k) s = .next { s with dgc := { s.dgc with sets := s.dgc.sets.set k {} } }) ∧
       ((s.resSet k.val).done = false ∨ (s.resSet k.val).owner ≠ some m → exec (.dgcResRel m k) s = .next s)) ∧
     (s.reaches m 0x40090018 →
       ((s.resSet k.val).owner = some m → (s.resSet k.val).queued = true ∨ (s.resSet k.val).running = true → (s.resSet k.val).orphan = false →
         exec (.dgcAbort m k) s = .next { s with dgc := { s.dgc with
           running := s.dgc.running.filter (fun x => x.2.set ≠ k.val), queue := s.dgc.queue.filter (fun j => j.set ≠ k.val)
           sets := s.dgc.sets.set k { s.resSet k.val with
             aborted := true, queued := false, running := false, done := true, dinWords := 64 } } }) ∧
       ((s.resSet k.val).owner ≠ some m ∨ ((s.resSet k.val).queued = false ∧ (s.resSet k.val).running = false) →
         exec (.dgcAbort m k) s = .next s)) ∧
     (∀ (a : Nat) (r : Nat) (v : Word), s.debugStopped m = false →
       (s.judge m 0x40090014 true s.lists false = some r → exec (.dgcResRel m k) s = .next (s.refuseAccess m 0x40090014 1 r)) ∧
       (s.judge m 0x40090018 true s.lists false = some r → exec (.dgcAbort m k) s = .next (s.refuseAccess m 0x40090018 1 r)) ∧
       (a = 0x40091050 + k.val * 0x80 → s.judge m a true s.lists false = some r →
         exec (.dgcResDin m k v) s = .next (s.refuseAccess m a 1 r))))) ∧
  (∀ (m : Master) (k : Fin 64) (v : Word) (j : DgcJob) (s : State), s.reaches m (0x40091050 + k.val * 0x80) →
     s.reaches m (0x40091054 + k.val * 0x80) →
     ((s.resSet k.val).alloc = false ∨ (s.resSet k.val).push = false ∨ (s.resSet k.val).owner ≠ some m →
       exec (.dgcResDin m k v) s = .next (s.stickyIf m) ∧ exec (.dgcLastw m k v) s = .next s) ∧
     ((s.resSet k.val).alloc = true → (s.resSet k.val).push = true → (s.resSet k.val).owner = some m → (s.resSet k.val).done = false →
       s.jobOfSet k.val = some j →
       (j.desc.lenMode = false → j.fed.length < j.desc.len → (s.resSet k.val).queued = false →
         exec (.dgcResDin m k v) s = .next ((s.modJob k.val fun x => { x with
           fed := j.fed ++ (leBytes 4 v.toNat).take (j.desc.len - j.fed.length), buffered := 0 }).modSet k.val fun r => { r with
             dinFull := false, dinWords := 64 })) ∧
       (j.desc.lenMode = false → j.desc.len ≤ j.fed.length →
         exec (.dgcResDin m k v) s = .next ((s.modSet k.val fun r => { r with truncated := true, excess := true }).raiseIf
           (!(s.resSet k.val).excess) 0x0503 srcDGC (p8 k.val ++ p8 (masterId m)))) ∧
       (j.desc.lenMode = true → j.ended = false → (s.resSet k.val).queued = true → j.buffered < 64 →
         exec (.dgcResDin m k v) s = .next ((s.modJob k.val fun x => { x with
           fed := j.fed ++ leBytes 4 v.toNat, buffered := j.buffered + 1 }).modSet k.val fun r => { r with
             dinFull := false, dinWords := BitVec.ofNat 7 (64 - (j.buffered + 1)) })) ∧
       ((s.resSet k.val).queued = true → 64 ≤ j.buffered → (j.desc.lenMode = true → j.ended = false) →
         (j.desc.lenMode = false → j.fed.length < j.desc.len) →
         exec (.dgcResDin m k v) s = .next ((s.modSet k.val fun r => { r with dinFull := true }).stickyIf m))) ∧
     ((s.resSet k.val).alloc = true → (s.resSet k.val).push = true → (s.resSet k.val).owner = some m →
       ((s.resSet k.val).lenMode = false → exec (.dgcLastw m k v) s = .next (s.modSet k.val fun r => { r with lastwIgn := true })) ∧
       ((s.resSet k.val).lenMode = true →
         exec (.dgcLastw m k v) s = .next (s.modJob k.val fun x =>
           if x.ended then x
           else { x with ended := true, fed := if x.fed.isEmpty || v.toNat % 4 = 0 then x.fed else x.fed.take (x.fed.length - (4 - v.toNat % 4)) }))))

/-- R195, R198, R199, R207, R210, R213: the first waiting job by priority takes the lowest free core, unless verification needs the cores that are left;
a core that fails its test is excluded with EV 0x0501; a job whose key is no longer admitted ends with KEY_REFUSED. A job that has its data
ends with its digest, and with CMP_FAIL where the expected bytes differ; one that stalls ends with LENGTH_SHORT. -/
def Obligations.DigestRuns : Prop :=
  (∀ (s : State),
    (s.dgc.queue = [] → exec (.jobStart []) s = .next s) ∧
    (∀ j, firstJob s.dgc.queue = some j →
      (s.coresOn.filter s.coreFree = [] → exec (.jobStart []) s = .next s) ∧
      (∀ c cs, s.coresOn.filter s.coreFree = c :: cs →
        (s.verifying = true → cs.length + 1 ≤ s.dgc.reserve.toNat → exec (.jobStart []) s = .next s) ∧
        (s.verifying = false ∨ s.dgc.reserve.toNat < cs.length + 1 →
          (s.keyOk j.master j.desc = true →
            exec (.jobStart []) s = .next (({ s with dgc := { s.dgc with
              queue := s.dgc.queue.erase j, ok := s.dgc.ok ||| BitVec.ofNat 16 (2 ^ c)
              running := s.dgc.running ++ [(c, { j with buffered := 0, started := s.timeBase.toNat })] } } : State).modSet j.set fun r =>
                { r with queued := false, running := true, dinWords := 64 })) ∧
          (s.keyOk j.master j.desc = false →
            exec (.jobStart []) s = .next ((s.endJob j.set fun r => { r with keyRefused := true }).raise 0x0505 srcDGC
              (p8 j.desc.keySlot ++ p8 j.whom)))))) ∧
    (∀ c a, c < 16 → s.dgc.ok.getLsbD c = false → s.dgc.excluded.getLsbD c = false → s.dgc.queue = [] →
      exec (.jobStart [(c, a)]) s = .next (({ s with dgc := { s.dgc with
        excluded := s.dgc.excluded ||| BitVec.ofNat 16 (2 ^ c) } } : State).raise 0x0501 srcDGC (p8 c ++ p8 a)))) ∧
  (∀ (k : Fin 64) (c : Nat) (j : DgcJob) (s : State), s.dgc.running.find? (fun x => x.2.set = k.val) = some (c, j) → j.set = k.val →
    (s.resSet k.val).orphan = false →
    (j.complete = false → exec (.jobComplete k) s = .next s) ∧
    (∀ m out n, j.complete = true → s.jobData j = (some m, s) → j.desc.stateIn = false →
      jobOutput j.desc (s.slot j.desc.keySlot).key none m = some (out, n) →
      (j.desc.dest = 0 →
        exec (.jobComplete k) s = .next (s.endJob k.val fun r => { r with
          count := BitVec.ofNat 64 n, out := out, outLen := BitVec.ofNat 7 out.length })) ∧
      (∀ e, j.desc.dest = 1 → s.memRead j.master j.desc.aux j.desc.outBytes = (some e, s) →
        exec (.jobComplete k) s = .next (s.endJob k.val fun r => { r with count := BitVec.ofNat 64 n, cmpFail := out ≠ e })) ∧
      (j.desc.dest = 2 →
        ∃ t, exec (.jobComplete k) s = .next t ∧ (j.desc.dstSlot < 64 → (t.slot j.desc.dstSlot).key = out ∧ (t.slot j.desc.dstSlot).typ = 1) ∧
          (t.resSet k.val).done = true ∧ (t.resSet k.val).out = (s.resSet k.val).out)) ∧
    (∀ s1, j.complete = true → s.jobData j = (none, s1) →
      exec (.jobComplete k) s = .next ((s1.endJob k.val fun r => { r with readErr := true }).raise 0x0504 srcDGC
        (p8 k.val ++ p8 (if j.desc.src = 2 then j.desc.host else masterId j.master) ++ p32 (s.failAddr j)))) ∧
    (j.complete = true → exec (.jobStall k) s = .next s) ∧
    (j.complete = false →
      ∃ t, exec (.jobStall k) s = .next t ∧ (t.resSet k.val).done = true ∧ (t.resSet k.val).lengthShort = true ∧
        (t.resSet k.val).count = BitVec.ofNat 64 j.fed.length ∧ t.dgc.shortCnt = s.dgc.shortCnt.inc ∧
        (∀ x ∈ t.dgc.running, x.2.set ≠ k.val) ∧ t = { s with dgc := t.dgc, evl := t.evl }))

/-- R218 to R221: START makes the sequencer busy, and ends at once with MALFORMED for a length outside 1 to 16,384; ABORT ends it with ABORTED; the
verification of a slot that is not admitted ends with KEY_SLOT and one whose signature cannot be read with READ_ERR; else HSS decides.
Every outcome but PASS logs EV 0x0506. Only SIG changes. -/
def Obligations.Signatures : Prop :=
  ∀ s : State,
    (s.sig.busy = true → exec .sigVerifyStart s = .next s) ∧
    (s.sig.busy = false → exec .sigVerifyAbort s = .next s ∧ exec .sigVerifyDone s = .next s) ∧
    (s.sig.busy = false → 1 ≤ s.sig.sigLen.toNat → s.sig.sigLen.toNat ≤ 16384 →
      exec .sigVerifyStart s = .next { s with sig := { s.sig with
        busy := true, done := false, pass := false, reason := 0, level := 0, start := s.timeBase.toNat } }) ∧
    (∀ r l : Nat,
      ((s.sig.busy = false ∧ (s.sig.sigLen.toNat = 0 ∨ 16384 < s.sig.sigLen.toNat) ∧ r = 1 ∧ l = 0) →
        ∃ t, exec .sigVerifyStart s = .next t ∧ t.sig.busy = false ∧ t.sig.done = true ∧ t.sig.pass = false ∧ t.sig.reason = 1 ∧
          t = { s with sig := t.sig, evl := (s.raise 0x0506 srcSIG (p8 s.sig.slot.toNat ++ p8 1 ++ p8 0)).evl, free := s.free + 1 }) ∧
      (s.sig.busy = true → r = 7 → l = 0 →
        ∃ t, exec .sigVerifyAbort s = .next t ∧ t.sig = { s.sig with
            busy := false, done := true, pass := false, reason := 7, level := 0, time := t.sig.time } ∧
          t = { s with sig := t.sig, evl := (s.raise 0x0506 srcSIG (p8 s.sig.slot.toNat ++ p8 7 ++ p8 0)).evl, free := s.free + 1 }) ∧
      (s.sig.busy = true →
        (s.slotVerifies s.sig.slot.toNat s.sig.cls.toNat = false ∧ r = 6 ∧ l = 0) ∨
        (∃ sg msg, s.slotVerifies s.sig.slot.toNat s.sig.cls.toNat = true ∧
          s.memRead (.hw 1) s.sig.sigAddr.toNat s.sig.sigLen.toNat = (some sg, s) ∧ s.sigMessage = (msg, s) ∧
          (r, l) = Lms.verify (s.slot s.sig.slot.toNat).key sg msg) →
        ∃ t, exec .sigVerifyDone s = .next t ∧ t.sig = { s.sig with
            busy := false, done := true, pass := decide (r = 0), reason := BitVec.ofNat 4 r, level := BitVec.ofNat 3 l, time := t.sig.time } ∧
          t = { s with
            sig := t.sig, free := s.free + 1
            evl := (s.raiseIf (r ≠ 0) 0x0506 srcSIG (p8 s.sig.slot.toNat ++ p8 r ++ p8 l)).evl }))

/-! ## Updates (chapter 8) -/

/-- R237 to R241, R235, R244, Tables 8.8 and 8.9: pieces join the bundle in order, and the last one begins CHECKING; a piece at another offset is
refused, and one at offset 0 while a Trial or an activation runs or a refusal cause stands; a first piece takes the place of a bundle held.
CHECKING ends as STAGED, with EV 0x0806, or rejected with the step, item and outcome in EV 0x0804. ACTIVATE of a STAGED Syllabus
starts the wait, or is refused; DISCARD and ABANDON do what the state allows, or report BUSY. -/
def Obligations.Bundles : Prop :=
  (∀ (who : Caller) (b : Bytes) (s : State), s.allowed who 0x2801 0 b → s.sys.listen = 0 →
    (b.length < 4 → exec (.bundlePiece who b) s = .next (s.answered 0x08000001)) ∧
    (4 ≤ b.length → u32 b 0 ≠ 0 →
      (s.upd.state ∈ [UpdState.activating, .trial, .reverting] → exec (.bundlePiece who b) s = .next (s.answered 0x08000005)) ∧
      (s.upd.state ∈ [UpdState.idle, .checking, .staged] → exec (.bundlePiece who b) s = .next (s.answered 0x08000001)) ∧
      (s.upd.state = .receiving → u32 b 0 ≠ s.upd.resume → exec (.bundlePiece who b) s = .next (s.answered 0x08000001)) ∧
      (s.upd.state = .receiving → u32 b 0 = s.upd.resume → s.upd.bundleLen < u32 b 0 + (b.drop 4).length →
        exec (.bundlePiece who b) s = .next (s.answered 0x08000006)) ∧
      (s.upd.state = .receiving → u32 b 0 = s.upd.resume → u32 b 0 + (b.drop 4).length ≤ s.upd.bundleLen → (b.drop 4).length ≠ 1048576 →
        u32 b 0 + (b.drop 4).length ≠ s.upd.bundleLen → exec (.bundlePiece who b) s = .next (s.answered 0x08000001)) ∧
      (s.upd.state = .receiving → u32 b 0 = s.upd.resume → s.upd.bundle.length = s.upd.resume →
        u32 b 0 + (b.drop 4).length ≤ s.upd.bundleLen →
        (b.drop 4).length = 1048576 ∨ u32 b 0 + (b.drop 4).length = s.upd.bundleLen →
        exec (.bundlePiece who b) s = .next (({ s with upd := { s.upd with
          bundle := s.upd.bundle ++ b.drop 4, resume := s.upd.resume + (b.drop 4).length
          state := if s.upd.resume + (b.drop 4).length = s.upd.bundleLen then .checking else .receiving } } : State).answered 0))) ∧
    (4 ≤ b.length → u32 b 0 = 0 →
      (s.upd.state ∈ [UpdState.activating, .trial, .reverting] → exec (.bundlePiece who b) s = .next (s.answered 0x08000005)) ∧
      (s.upd.state ∉ [UpdState.activating, .trial, .reverting] → s.refusals ≠ 0 →
        exec (.bundlePiece who b) s = .next ((s.raise 0x0802 srcFW (p8 s.refusals)).answered 0x08000002)) ∧
      (s.upd.state ∉ [UpdState.activating, .trial, .reverting] → s.refusals = 0 →
        s.firstPieceFailed (b.drop 4) (s.upd.bundleAreaMib * 2 ^ 20) false = 0 →
        (b.drop 4).length ≤ bundleLenOf (b.drop 4) → (b.drop 4).length = 1048576 ∨ (b.drop 4).length = bundleLenOf (b.drop 4) →
        ∃ t, exec (.bundlePiece who b) s = .next t ∧
          t.upd = { s.upd with
            bundle := b.drop 4, bundleLen := bundleLenOf (b.drop 4), resume := (b.drop 4).length
            state := if (b.drop 4).length = bundleLenOf (b.drop 4) then .checking else .receiving } ∧
          s.lastEvent t 0x0801 srcFW (bundleId (b.drop 4) ++ p32 (bundleLenOf (b.drop 4))) ∧ t.net.lastAbort = 0 ∧
          t.plc.flash = s.plc.flash ∧ t.img = s.img ∧
          t = { s with upd := t.upd, plc := t.plc, ports := t.ports, tt := t.tt, evl := t.evl, net := { s.net with lastAbort := 0 } }))) ∧
  (∀ (e : Option Nat) (s : State), s.sys.listen = 0 →
    (s.upd.state ≠ .checking ∨ s.fwRuns = false → exec (.checkingComplete e) s = .next s) ∧
    (s.upd.state = .checking → s.fwRuns = true →
      (∀ f, s.checkItems s.upd.bundle = some f →
        ∃ t, exec (.checkingComplete e) s = .next t ∧
          t.upd = { s.upd with state := .idle, outcome := f.2.2, bundle := [], bundleLen := 0, resume := 0 } ∧
          s.lastEvent t 0x0804 srcFW (p8 f.1 ++ p8 f.2.1 ++ p8 f.2.2) ∧ t = { s with upd := t.upd, evl := t.evl }) ∧
      (∀ s1, s.checkItems s.upd.bundle = none → s.buildAll s.upd.bundle e = (none, s1) → s1.checkBuilt s.upd.bundle = none →
        ∃ t, exec (.checkingComplete e) s = .next t ∧ t.upd = { s1.upd with state := .staged, outcome := 1 } ∧ t.plc = s1.plc ∧
          (∀ h ∈ namedHosts s.upd.bundle, (t.port h).hpw.attnCause.getLsbD 5 = true) ∧
          s1.lastEvent t 0x0806 srcFW (p32 (sylSeq s.upd.bundle))))) ∧
  (∀ (who : Caller) (s : State), s.sys.listen = 0 →
    (s.allowed who 0x2802 1 [1] →
      (s.upd.state ≠ .staged → exec (.activate who) s = .next (({ s with upd := { s.upd with outcome := 14 } } : State).answered 0)) ∧
      (s.upd.state = .staged → s.refusals ≠ 0 →
        exec (.activate who) s = .next ((({ s with upd := { s.upd with outcome := 2, deadline := none } } : State).raise 0x0807 srcFW
          (p8 2 ++ p8 s.refusals)).answered 0)) ∧
      (∀ s1, s.upd.state = .staged → s.refusals = 0 → (s.answered 0).setRefused s.upd.bundle = false →
        (s.answered 0).prepareTables s.upd.bundle = some s1 →
        exec (.activate who) s = .next { s1 with upd := { s1.upd with
          state := .activating, deadline := some (s1.timeBase.toNat + s1.upd.actWaitS * 1000000) } })) ∧
    (s.allowed who 0x2802 1 [2] →
      (s.upd.state ∉ [UpdState.receiving, .checking, .staged] →
        exec (.discard who) s = .next (({ s with upd := { s.upd with outcome := 14 } } : State).answered 0)) ∧
      (s.upd.state ∈ [UpdState.receiving, .checking, .staged] →
        ∃ t, exec (.discard who) s = .next t ∧
          t.upd = { s.upd with state := .idle, outcome := 13, bundle := [], bundleLen := 0, resume := 0 } ∧
          (∀ h, ∀ x ∈ t.extents h, x.staged = false) ∧ t.plc.flash = s.plc.flash ∧ t.img = s.img ∧
          t = { s with upd := t.upd, plc := t.plc, ports := t.ports, tt := t.tt, evl := t.evl, net := { s.net with lastAbort := 0 } })) ∧
    (s.allowed who 0x2802 1 [3] →
      (s.upd.state ≠ .trial → exec (.abandon who) s = .next (({ s with upd := { s.upd with outcome := 14 } } : State).answered 0)) ∧
      (s.upd.state = .trial → s.upd.recOf.fwNamed = false →
        ∃ t, exec (.abandon who) s = .next t ∧ t.upd.state = .idle ∧ t.upd.lastRevert = 6 ∧ t.upd.outcome = 12 ∧
          t.upd.actSel = !s.upd.actSel ∧ t.upd.bundle = [] ∧ s.lastEvent t 0x080B srcFW (p8 6))))

/-- R244 to R250, R255: activation, once its conditions hold, writes a new record in Trial into the copy that ACT_WORD does not name, switches to it,
and the Trial begins with its deadline; a wait that passes ACT_WAIT_S goes back to STAGED with TIMEOUT. A Trial past its deadline
reverts. A Trial whose conditions are met is confirmed, once every Trial host's pending write is durable: a record out of Trial, and
every shadow of its hosts committed.
R233, R234: START begins a build unless one runs; ABORT marks the running one; at its end PAT_STAT tells the error, the bytes and the operations,
with EV 0x080D for an error: BAD_HEADER where the bundle holds no such item for the target, NO_SPACE where the slot has no STAGED
extents, and 0 with the whole image written. -/
def Obligations.TrialsAndPatches : Prop :=
  (∀ s : State,
     (s.upd.state ≠ .activating ∨ s.fwRuns = false → exec .activation s = .next s) ∧
     (s.upd.state = .activating → s.fwRuns = true → s.setRefused s.upd.bundle = false →
       (syllabusTables s.upd.bundle).all (fun x => (s.withBells s.upd.bundle).ttPlaceable x.2 x.1) = true →
       (s.mayActivate s.upd.bundle = false → exec .activation s = .next s) ∧
       (s.mayActivate s.upd.bundle = true → fwItem s.upd.bundle = none → 1 ≤ (s.newRecord s.upd.bundle).budget →
         ∃ t, exec .activation s = .next t ∧ t.upd.state = .trial ∧ t.upd.actSel = !s.upd.actSel ∧ t.upd.recOf = s.newRecord s.upd.bundle ∧
           t.upd.otherRec = s.upd.recOf ∧ t.upd.recOf.trial = true ∧ t.upd.recOf.actSeq = s.upd.recOf.actSeq + 1 ∧
           t.upd.deadline = some (s.timeBase.toNat + t.upd.recOf.deadlineS * 1000000))) ∧
     (s.upd.state = .activating → (∃ d, s.upd.deadline = some d ∧ d ≤ s.timeBase.toNat) →
       exec .actWaitTimeout s = .next (({ s with upd := { s.upd with state := .staged, outcome := 11, deadline := none } } : State).raise
         0x0807 srcFW (p8 11 ++ p8 s.refusals))) ∧
     (s.upd.state ≠ .activating ∨ s.upd.deadline = none ∨ (∃ d, s.upd.deadline = some d ∧ s.timeBase.toNat < d) →
       exec .actWaitTimeout s = .next s) ∧
     (s.upd.state = .trial → (∃ d, s.upd.deadline = some d ∧ d ≤ s.timeBase.toNat) →
       ∃ t, exec .trialDeadline s = .next t ∧ t.upd.state = .idle ∧ t.upd.lastRevert = 1 ∧ t.upd.outcome = 12 ∧ t.upd.deadline = none) ∧
     (s.upd.state ≠ .trial ∨ s.upd.deadline = none ∨ (∃ d, s.upd.deadline = some d ∧ s.timeBase.toNat < d) →
       exec .trialDeadline s = .next s) ∧
     (s.upd.state ≠ .trial ∨ s.fwRuns = false ∨ s.upd.inForce = none → exec .confirmation s = .next s) ∧
     (∀ r, s.upd.state = .trial → s.fwRuns = true → s.upd.inForce = some r →
       (s.mayConfirm r = false → exec .confirmation s = .next s) ∧
       (s.mayConfirm r = true →
         ((∃ h ∈ hostsIn r.trialHosts, ∃ w, (s.port h).pending = some w ∧ w.held = false) →
           ∃ t, exec .confirmation s = .next t ∧ t = { s with img := t.img, upd := { s.upd with confirming := true } } ∧
             ∀ h, t.imgOf h = { s.imgOf h with releasing := (s.imgOf h).releasing || r.trialHosts.getLsbD h.val }) ∧
         ((∀ h ∈ hostsIn r.trialHosts, ∀ w, (s.port h).pending = some w → w.held = true) →
           ∃ t, exec .confirmation s = .next t ∧ t.upd.state = .idle ∧ t.upd.outcome = 1 ∧ t.upd.bundle = [] ∧
             t.upd.recOf.trial = false ∧ t.upd.recOf.actSeq = r.actSeq + 1 ∧ t.upd.recOf.sylSeq = r.sylSeq ∧
             t.upd.recOf.confirmWseq = s.plc.wseq ∧ t.upd.actSel = !s.upd.actSel ∧
             (∀ h ∈ hostsIn r.trialHosts, ∀ x ∈ t.plc.shadows, x.host = h.val → x.committed = true) ∧
             ((∀ k, (s.slot k).revWord = 0) → ∀ h ∈ hostsIn r.trialHosts,
               (t.imgOf h).state = .running ∧ t.sides h = levels .running ∧ (t.imgOf h).releasing = false) ∧
             s.lastEvent t 0x080A srcFW (p32 r.sylSeq.toNat ++ p64 s.plc.wseq.toNat))))) ∧
  (∀ s : State,
     (s.upd.pat.busy = true → exec .patStart s = .next s ∧
       exec .patAbort s = .next { s with upd := { s.upd with pat := { s.upd.pat with abort := true } } }) ∧
     (s.upd.pat.busy = false → exec .patAbort s = .next s ∧ (∀ n e, exec (.patDone n e) s = .next s) ∧
       exec .patStart s = .next { s with upd := { s.upd with pat := { s.upd.pat with
         busy := true, done := false, err := 0, out := 0, ops := 0, abort := false } } }) ∧
     (∀ (n : Nat) (e : Bool), s.upd.pat.busy = true →
       ((itemsOf s.upd.bundle)[s.upd.pat.item.toNat]? = none →
         exec (.patDone n e) s = .next (({ s with upd := { s.upd with pat := { s.upd.pat with
           busy := false, done := true, err := 1, out := 0, ops := 0, errPos := 0, abort := false } } } : State).raise 0x080D srcPAT
             (p8 s.upd.pat.host.toNat ++ p8 s.upd.pat.item.toNat ++ p8 1 ++ p32 0))) ∧
       (∀ (i : Item) (h : Host24) (k : Fin 3) (b : Built), (itemsOf s.upd.bundle)[s.upd.pat.item.toNat]? = some i →
         s.upd.pat.host.toNat = h.val → s.upd.pat.slot.toNat = k.val → i.isImage = true → i.names h.val = true →
         s.buildHost i (i.payload s.upd.bundle) h = b →
         (s.runPlaced h (s.slotFirst h k) (16 * envBlocks (payloadEnv (i.payload s.upd.bundle))) = false →
           ∃ t, exec (.patDone n e) s = .next t ∧ t.upd.pat.busy = false ∧ t.upd.pat.done = true ∧ t.upd.pat.err = 9 ∧ t.upd.pat.out = 0 ∧
             t.plc = s.plc) ∧
         (s.runPlaced h (s.slotFirst h k) (16 * envBlocks (payloadEnv (i.payload s.upd.bundle))) = true →
           (s.extents h).all (fun x => !overlaps x.vbase x.pages (s.slotFirst h k) (16 * envBlocks (payloadEnv (i.payload s.upd.bundle))) ||
             x.staged) = true →
           b.err = 0 → s.upd.pat.abort = false → e = false →
           ∃ t, exec (.patDone n e) s = .next t ∧ t.upd.pat = { s.upd.pat with
               busy := false, done := true, err := 0, out := BitVec.ofNat 64 b.out.length, ops := BitVec.ofNat 32 b.ops, abort := false } ∧
             t.plc = (s.writeImage h (s.slotFirst h k) (envBlocks (payloadEnv (i.payload s.upd.bundle))) b.out).plc ∧
             t = { s with upd := t.upd, plc := t.plc, free := t.free, ports := t.ports, chans := t.chans }))))

/-! ## The archive, Report cards and identity signing (chapter 9) -/

/-- R259, R266, R271 to R275: CREATE writes GENESIS, ends Term 0 at once and opens Term 1, once; SEAL_NOW, a UTC or time-base boundary and the limit
end the open Term; the oldest closed Term is sealed, with an index of the identity key, and its seal stored with EV 0x0902; the oldest
closed page of the tail becomes durable. Records, pages and seals that stand are not changed. -/
def Obligations.ArchiveTerms : Prop :=
  (∀ (who : Caller) (s : State),
    (s.allowed who 0x2902 1 [1] →
      (s.arc.created = true → exec (.archiveCreate who) s = .next ((s.arcResult 1 2).answered 0)) ∧
      (s.arc.created = false →
        ∃ t x, exec (.archiveCreate who) s = .next t ∧ t.arc.created = true ∧ t.arc.term = 1 ∧ t.arc.next = s.arc.next + 2 ∧
          t.arc.awaiting = s.arc.awaiting ++ [x] ∧ x.term = 0 ∧ x.records = 1 ∧ x.firstSeq = 0 ∧ x.lastSeq = 0 ∧
          x.chainOut = Hash.sha256 (s.arc.chain ++ archiveRecord s.arc.next.toNat (s.timeBase.toNat / 1000000) 0x80 0xF0 false
            (unitIdBytes ++ p64 s.plc.poolId.toNat ++ p64 s.timeBase.toNat ++ p64 s.utcField)) ∧
          t.arc.seals = s.arc.seals ∧ t.arc.lastCmd = 1 ∧ t.arc.lastResult = 0 ∧
          t.evl = (s.raise 0x0901 srcARC (unitIdBytes.take 8 ++ p64 s.timeBase.toNat)).evl ∧
          t = { s with arc := t.arc, evl := t.evl, net := { s.net with lastAbort := 0 } })) ∧
    (s.allowed who 0x2902 1 [2] →
      (s.arc.created = false → exec (.sealNow who) s = .next (s.answered 0x09000001)) ∧
      (s.mayClose → ∃ t u, exec (.sealNow who) s = .next t ∧ s.termClosed 3 u ∧ t = (u.arcResult 2 0).answered 0) ∧
      (s.arc.created = true → (s.arc.mayClose = false ∨ s.arc.seqStuck = true) →
        exec (.sealNow who) s = .next ((s.arcResult 2 2).answered 0)))) ∧
  (∀ s : State,
    (s.termDue = none → exec .termBoundary s = .next s) ∧
    (∀ c, s.termDue = some c → s.mayClose → ∃ t, exec .termBoundary s = .next t ∧ s.termClosed c t) ∧
    (s.arc.awaiting = [] ∨ s.lcSeals = false ∨ s.admits 4 3 none = false → exec .sealCompute s = .next s) ∧
    (∀ x rest, s.arc.awaiting = x :: rest → s.lcSeals = true → s.admits 4 3 none = true → s.signOk = true →
      ∃ t b, exec .sealCompute s = .next t ∧ t.arc.seals = s.arc.seals ++ [b] ∧ t.arc.awaiting = rest ∧
        t.signer.next = s.signer.next + 1 ∧ t.pwr.level = s.pwr.level - s.jobCost 4 none ∧ t.arc.pages = s.arc.pages ∧
        t.arc.next = s.arc.next ∧ t.arc.chain = s.arc.chain ∧
        t = { s with arc := t.arc, signer := t.signer, free := s.free + 2, evl := t.evl, pwr := t.pwr }) ∧
    (∀ x rest, s.arc.awaiting = x :: rest → s.lcSeals = true → s.admits 4 3 none = true → s.signOk = false →
      (s.macSlotOk s.arc.sealMacSlot.toNat 5 none = false → exec .sealCompute s = .next s) ∧
      (s.macSlotOk s.arc.sealMacSlot.toNat 5 none = true →
        ∃ t b, exec .sealCompute s = .next t ∧ t.arc.seals = s.arc.seals ++ [b ++ p32 32 ++ Hash.hmac 1 (s.slot s.arc.sealMacSlot.toNat).key b] ∧
          t.arc.awaiting = rest ∧ t.signer = s.signer ∧ t.arc.pages = s.arc.pages ∧
          t = { s with arc := t.arc, evl := t.evl, pwr := t.pwr })) ∧
    ((∀ p ∈ s.arc.pages, p.flushed = true ∨ p.tbClose = none) → exec .pageFlushDone s = .next s) ∧
    (∀ p, s.arc.pages.find? (fun p => !p.flushed && p.tbClose.isSome) = some p →
      s.pickSelects (if s.nandReady.isEmpty then s.shadowSelects else s.nandReady) true ≠ [] →
      exec .pageFlushDone s = .next { s with
        free := s.free + 1
        arc := { s.arc with pages := s.arc.pages.map fun x => if x.pageNo = p.pageNo then
          { x with flushed := true, copies := s.pickSelects (if s.nandReady.isEmpty then s.shadowSelects else s.nandReady) true } else x } }))

/-- R268, R273, R277, R279: a partner's append becomes records of 48 bytes with SRC 0x81 chained to the last record; an acknowledgement must name
the next Term and its seal; page and seal selectors belong to the session; UTC is set with TIME_STEP before it, and all ones is no value. -/
def Obligations.ArchivePartners : Prop :=
  (∀ (who : Caller) (b : Bytes) (s : State), s.allowed who 0x2905 0 b →
    (appendOk b = false → exec (.partnerAppend who b) s = .next (s.answered 0x0900000B)) ∧
    (appendOk b = true → s.arc.created = false → exec (.partnerAppend who b) s = .next (s.answered 0x09000001)) ∧
    (∀ n, appendOk b = true → s.arc.created = true → n = ((b.drop 4).length + 47) / 48 →
      (2 ^ 64 - 1 ≤ s.arc.next.toNat + (n - 1) →
        ∃ t, exec (.partnerAppend who b) s = .next t ∧ t.net.lastAbort = 0x09000002 ∧ t.arc.seqStuck = true ∧ t.arc.next = s.arc.next ∧
          t.arc.refcnt = s.arc.refcnt.inc ∧ t = { s with arc := t.arc, evl := t.evl, net := t.net }) ∧
      (s.arc.next.toNat + n < 2 ^ 64 → s.arc.onlyReserve = false → s.arc.tail < 32 → s.arc.tail + s.arc.newPages n ≤ 32 →
        ∃ t, exec (.partnerAppend who b) s = .next t ∧ t.net.lastAbort = 0 ∧ t.arc.next = s.arc.next + BitVec.ofNat 64 n ∧
          t.arc.chain = (List.range n).foldl (fun c i => Hash.sha256 (c ++ archiveRecord (s.arc.next.toNat + i) (s.timeBase.toNat / 1000000) 0x81
            (u8 b 0) (i + 1 ≠ n) (((b.drop 4).drop (48 * i)).take 48))) s.arc.chain ∧
          t.arc.seals = s.arc.seals ∧ t.arc.awaiting = s.arc.awaiting ∧ t.arc.term = s.arc.term ∧
          t = { s with arc := t.arc, evl := t.evl, net := t.net }))) ∧
  (∀ (who : Caller) (b : Bytes) (s : State), s.allowed who 0x2903 0 b →
    b.length = 20 ∧
    (∀ x, u32 b 0 = s.arc.acked.toNat + 1 → s.arc.sealOf (u32 b 0) = some x → field b 4 16 = (Hash.sha256 (x.take 0x980)).take 16 →
      exec (.exportAck who b) s = .next ((({ s with arc := { s.arc with acked := BitVec.ofNat 32 (u32 b 0) } } : State).raise 0x0909 srcARC
        (p32 (u32 b 0))).answered 0)) ∧
    (u32 b 0 ≠ s.arc.acked.toNat + 1 ∨ s.arc.sealOf (u32 b 0) = none ∨
        (∃ x, s.arc.sealOf (u32 b 0) = some x ∧ field b 4 16 ≠ (Hash.sha256 (x.take 0x980)).take 16) →
      exec (.exportAck who b) s = .next (s.answered 0x09000007))) ∧
  (∀ (who : Caller) (n : Word) (s : State),
    (s.allowed who 0x2907 0 (p32 n.toNat) →
      exec (.pageSelect who n) s = .next ((s.modSession who.session fun x => { x with pageSel := n.toNat }).answered 0)) ∧
    (s.allowed who 0x2909 0 (p32 n.toNat) →
      exec (.termSelect who n) s = .next ((s.modSession who.session fun x => { x with termSel := n.toNat }).answered 0))) ∧
  (∀ (who : Caller) (v : DWord) (s : State), s.allowed who 0x3000 2 (p64 v.toNat) →
    (v = BitVec.allOnes 64 → exec (.utcSet who v) s = .next (s.answered 0x06090030)) ∧
    (v ≠ BitVec.allOnes 64 →
      ∃ t, exec (.utcSet who v) s = .next t ∧ t.utc = some v ∧ t.net.lastAbort = 0 ∧
        t = { s with utc := some v, arc := t.arc, evl := t.evl, net := { s.net with lastAbort := 0 } } ∧
        (s.arc.created = false → t.evl = (s.raise 0x0905 srcFW (p64 s.utcField ++ p64 v.toNat)).evl ∧ t.arc.pages = s.arc.pages)))

/-- R281 to R284, R287, R288: a card request of the wrong form, that cannot be authenticated, or without a pace token is refused; a good one waits its
turn and takes a token where it is signed. START of a signature reserves the next index, once for all, before anything is signed; the
signature read and written through the gates ends with it, or with READ_ERR. A token is added up to SIGN_PACE_H. -/
def Obligations.Signing : Prop :=
  (∀ (who : Caller) (b : Bytes) (s : State), s.allowed who 0x2920 0 b →
    ((u8 b 0 ≠ 1 ∧ u8 b 0 ≠ 2) ∨ u16 b 2 ≠ 0 → exec (.cardRequest who b) s = .next (s.answered 0x0900000B)) ∧
    (u8 b 0 = 1 → u16 b 2 = 0 →
      (s.signOk = false → exec (.cardRequest who b) s = .next (s.answered 0x09000008)) ∧
      (s.signOk = true → s.arc.tokens = 0 → exec (.cardRequest who b) s = .next (s.answered 0x0900000A))) ∧
    (u8 b 0 = 2 → u16 b 2 = 0 → s.macSlotOk (u8 b 1) 5 none = false → exec (.cardRequest who b) s = .next (s.answered 0x09000008)) ∧
    (∀ x, s.session who.session = some x → u16 b 2 = 0 → s.arc.cardWait.length < 8 → (32 + who.session) ∉ s.arc.cardWait →
      (u8 b 0 = 1 ∧ s.signOk = true ∧ 0 < s.arc.tokens) ∨ (u8 b 0 = 2 ∧ s.macSlotOk (u8 b 1) 5 none = true) →
      s.admits 5 7 (waiterHost ((s.arc.cardWait ++ [32 + who.session]).headD 0)) = false →
      exec (.cardRequest who b) s = .next (({ (s.setSession who.session (some { x with cardReq := some b })) with
        arc := { s.arc with cardWait := s.arc.cardWait ++ [32 + who.session]
                            tokens := if u8 b 0 = 1 then s.arc.tokens - 1 else s.arc.tokens } } : State).answered 0))) ∧
  (∀ s : State,
    exec .paceTokenRefill s = .next { s with arc := { s.arc with tokens := min s.arc.paceH (s.arc.tokens + 1), paceAt := s.timeBase.toNat } } ∧
    (s.signer.busy = true → exec .sigScmdStart s = .next s) ∧ (s.signer.busy = false → exec .signatureDone s = .next s) ∧
    (s.signer.busy = false → s.signOk = true →
      ∃ t, exec .sigScmdStart s = .next t ∧ t.signer.busy = true ∧ t.signer.done = false ∧ t.signer.reserved = s.signer.next.toNat ∧
        t.signer.next = s.signer.next + 1 ∧ ((s.signer.next.toNat + 1) % 64, s.signer.next + 1) ∈ t.signer.ring ∧
        t = { s with signer := t.signer, evl := t.evl }) ∧
    (s.signer.busy = false → 2 ^ 30 ≤ s.signer.next.toNat →
      ∃ t, exec .sigScmdStart s = .next t ∧ t.signer.busy = false ∧ t.signer.done = true ∧ t.signer.reason = 1 ∧
        t.signer.next = s.signer.next ∧ t = { s with signer := t.signer, free := s.free + 1 }) ∧
    (s.signer.busy = true →
      (s.signer.msgLen.toNat = 0 ∨ 16384 < s.signer.msgLen.toNat →
        ∃ t, exec .signatureDone s = .next t ∧ t.signer.busy = false ∧ t.signer.done = true ∧ t.signer.reason = 4 ∧
          t = { s with signer := t.signer, free := s.free + 1 }) ∧
      (∀ m sig s1 s2, 1 ≤ s.signer.msgLen.toNat → s.signer.msgLen.toNat ≤ 16384 →
        s.memRead (.hw 1) (s.signer.msgAddr.toNat / 4 * 4) s.signer.msgLen.toNat = (some m, s) →
        s.hssSign s.signer.reserved m = (sig, s1) → s1.memWrite .mgpPriv (s.signer.outAddr.toNat / 4 * 4) sig = (true, s2) →
        ∃ t, exec .signatureDone s = .next t ∧ t.signer.busy = false ∧ t.signer.done = true ∧ t.signer.reason = 0 ∧
          t.signer.idx = BitVec.ofNat 32 s.signer.reserved ∧ t.signer.next = s.signer.next ∧
          t = { s with signer := t.signer, free := s.free + 3, sram := s.sram.writeN 0 (s.signer.outAddr.toNat / 4 * 4) sig, evl := t.evl })))

/-! ## Field networks and the Duner dictionary protocol (chapter 10) -/

/-- R298 to R303, R307, R308, R314: a CAN frame addressed to the node waits in the port's buffer, one of the node's own ID is dropped with EV 0x0A09, and
one that finds 64 waiting is dropped and counted; a T1S frame with a wrong check sequence is counted; changes of fault confinement log EV
0x0A0A and PLCA changes EV 0x0A0B; a port without clock or enable takes nothing. A Roll call ends an interval; a lockout ends at its time. -/
def Obligations.NetworkFrames : Prop :=
  (∀ (k : Fin 4) (f : CanFrame) (s : State), (s.netRuns (canPort k) = false → exec (.canFrameReceived k f) s = .next s) ∧
    (s.netRuns (canPort k) = true → s.power = .p0 ∨ s.power = .p1 → (s.net.ports.get (canPort k)).canState ≠ 2 →
      f.id.toNat / 0x80 = 2 ∨ f.id.toNat / 0x80 = 4 ∨ f.id.toNat / 0x80 = 6 →
      (f.id.toNat % 0x80 = (s.net.ports.get (canPort k)).cfg.node →
        ∃ t, exec (.canFrameReceived k f) s = .next t ∧ t.net.ports = s.net.ports.set (canPort k) { s.net.ports.get (canPort k) with
            rxdrop := (s.net.ports.get (canPort k)).rxdrop.inc } ∧
          s.lastEvent t 0x0A09 srcNET (p8 k.val ++ addr8 (p8 (f.id.toNat % 0x80))) ∧ t = { s with net := t.net, evl := t.evl }) ∧
      (f.id.toNat % 0x80 ≠ (s.net.ports.get (canPort k)).cfg.node → f.id.toNat % 0x80 ≠ 0 → f.data ≠ [] → f.fd = true →
        u8 f.data 0 = (s.net.ports.get (canPort k)).cfg.node ∨ u8 f.data 0 = 0 → (s.net.ports.get (canPort k)).rx.length < 64 →
        exec (.canFrameReceived k f) s = .next { s with net := { s.net with ports := s.net.ports.set (canPort k) { s.net.ports.get (canPort k) with
          rx := (s.net.ports.get (canPort k)).rx ++ [{ port := canPort k, addr := padTo 6 (p8 (f.id.toNat % 0x80)), bytes := f.data.drop 1 }] } } }) ∧
      (f.id.toNat % 0x80 ≠ (s.net.ports.get (canPort k)).cfg.node → f.id.toNat % 0x80 ≠ 0 → f.data ≠ [] → f.fd = true →
        u8 f.data 0 = (s.net.ports.get (canPort k)).cfg.node ∨ u8 f.data 0 = 0 → 64 ≤ (s.net.ports.get (canPort k)).rx.length →
        ∃ t, exec (.canFrameReceived k f) s = .next t ∧ t.net.rxOverflows = satInc s.net.rxOverflows ∧
          (t.net.ports.get (canPort k)).rxdrop = (s.net.ports.get (canPort k)).rxdrop.inc ∧
          (t.net.ports.get (canPort k)).rx = (s.net.ports.get (canPort k)).rx ∧ t = { s with net := t.net, evl := t.evl }))) ∧
  (∀ (k : Fin 4) (f : T1sFrame) (s : State), s.netRuns (t1sPort k) = true → s.power = .p0 ∨ s.power = .p1 → f.foreignBeacon = false →
    (f.fcsOk = false → exec (.t1sFrameReceived k f) s = .next { s with
      net := { s.net with
        ports := s.net.ports.set (t1sPort k) { s.net.ports.get (t1sPort k) with fcserr := (s.net.ports.get (t1sPort k)).fcserr.inc } } }) ∧
    (f.fcsOk = true → f.etherType = 0x88B5 → f.dst = (s.net.ports.get (t1sPort k)).cfg.mac ∨ f.dst = groupAddr 4 → 46 ≤ f.payload.length →
      f.payload.length ≤ 1500 → (s.net.ports.get (t1sPort k)).rx.length < 16 →
      exec (.t1sFrameReceived k f) s = .next { s with net := { s.net with ports := s.net.ports.set (t1sPort k) { s.net.ports.get (t1sPort k) with
        rx := (s.net.ports.get (t1sPort k)).rx ++ [{ port := t1sPort k, addr := padTo 6 f.src, bytes := f.payload }] } } }) ∧
    (f.fcsOk = true → f.etherType ≠ 0x88B5 → exec (.t1sFrameReceived k f) s = .next s)) ∧
  (∀ (k : Fin 4) (st : CanErrState) (tec r : Byte) (ok : Bool) (s : State),
    (s.netRuns (canPort k) = true → exec (.canErrorStateChange k st tec r) s = .next (({ s with net := { s.net with
      ports := s.net.ports.set (canPort k) { s.net.ports.get (canPort k) with
        canState := BitVec.ofNat 2 (canErrCode st), tec := tec, rec_ := r } } } : State).raiseIf
          ((s.net.ports.get (canPort k)).canState.toNat ≠ canErrCode st) 0x0A0A srcNET
          (p8 k.val ++ p8 (canErrCode st) ++ p32 tec.toNat ++ p32 r.toNat))) ∧
    (s.netRuns (t1sPort k) = true → (s.net.ports.get (t1sPort k)).cfg.node ≠ 255 → (s.net.ports.get (t1sPort k)).cfg.node ≠ 0 →
      ((s.net.ports.get (t1sPort k)).beaconOk = ok → exec (.plcaStatusChange k ok false) s = .next s) ∧
      ((s.net.ports.get (t1sPort k)).beaconOk ≠ ok →
        ∃ t, exec (.plcaStatusChange k ok false) s = .next t ∧
          t.net = { s.net with ports := s.net.ports.set (t1sPort k) { s.net.ports.get (t1sPort k) with beaconOk := ok } } ∧
          s.lastEvent t 0x0A0B srcNET (p8 (4 + k.val) ++ p32 (t.net.ports.get (t1sPort k)).t1sStat) ∧ t = { s with net := t.net, evl := t.evl }))) ∧
  (∀ (p : NetPort) (addr : Bytes) (s : State),
    exec (.lockoutExpiry p addr) s = .next { s with net := { s.net with lockouts := s.net.lockouts.filter fun l =>
      !(l.1 = p.val && l.2.1 = addr && l.2.2 ≤ s.timeBase.toNat) } }) ∧
  (∀ s : State, (s.dictServed = false ∨ s.power = .p4 → exec .rollcallInterval s = .next s) ∧
    (s.dictServed = true → s.power ≠ .p4 → (∀ q ∈ s.net.partners, q.heardNow = true ∨ q.misses + 1 < 3) →
      ∃ t, exec .rollcallInterval s = .next t ∧
        t.net.partners = s.net.partners.map (fun q => { q with
          misses := if q.heardNow then 0 else q.misses + 1, heardNow := false, answered := false, answeredNow := false }) ∧
        t.net.sessions = s.net.sessions ∧ t.net.transfers = s.net.transfers ∧
        (∀ k : NetPort, (s.net.ports.get k).cfg.enabled = true → ∃ x ∈ t.net.tx, x.port = k.val ∧ x.addr = groupAddr k.val ∧ u8 x.bytes 0 = 16) ∧
        t = { s with net := t.net })) ∧
  (∀ (m : DdpIn) (x : Msg) (s : State), s.takesMsg m 0 x → x.session = 0 →
    ∃ t, exec (.rollcall m) s = .next t ∧ ∀ q, t.partner m.port.val m.addr = some q →
      q.kind = u8 x.body 0 ∧ q.caps = u8 x.body 1 ∧ q.boot = BitVec.ofNat 32 (u32 x.body 4) ∧ q.unitId = field x.body 8 16 ∧ q.misses = 0)

/-- R310 to R315: OPEN_REQ that no refusal of R314 meets opens a half-open session with fresh random bytes from the generator and is answered with its
OPEN_CHAL; a refused one is answered with ABORT and counted. OPEN_PROOF with the right MAC opens the session; a wrong one frees it.
CLOSE, 2 s in a half-open session and IDLE_S in an open one free it. A MAC that fails is only counted, and so is a number seen before. -/
def Obligations.Sessions : Prop :=
  (∀ (m : DdpIn) (x : Msg) (s : State), s.takesMsg m 1 x → x.session = 0 →
    (∀ k, (sessionNos.find? fun k => ((s.arrives m).session k).elim false fun y =>
        !y.open_ && y.boundTo m && y.np = field x.body 4 16 && y.role = u8 x.body 0) = none →
      ((s.arrives m).openRefused m (u8 x.body 0) ≠ 0 →
        ∃ t, exec (.openReq m) s = .next t ∧ t.net.sessions = (s.arrives m).net.sessions ∧ t.net.refusals = satInc (s.arrives m).net.refusals ∧
          t.net.tx = (s.arrives m).net.tx ++ [{
            port := m.port.val, addr := m.addr
            bytes := msgBytes 12 0 0 0 0 (abortBody [] ((s.arrives m).openRefused m (u8 x.body 0))) false }] ∧
          s.lastEvent t 0x0A03 srcNET (p8 m.port.val ++ addr8 m.addr ++ p32 ((s.arrives m).openRefused m (u8 x.body 0)))) ∧
      (∀ nc s1, (s.arrives m).openRefused m (u8 x.body 0) = 0 → (s.arrives m).draw 16 false conSession = (some nc, s1) →
        (sessionNos.find? fun j => ((s.arrives m).session j).isNone) = some k →
        ∃ t y, exec (.openReq m) s = .next t ∧ t.session k = some y ∧ y.open_ = false ∧ y.role = u8 x.body 0 ∧ y.port = m.port.val ∧
          y.addr = m.addr ∧ y.np = field x.body 4 16 ∧ y.nc = nc ∧ y.seqOut = 1 ∧ y.high = 0 ∧ y.lastHeard = s.timeBase.toNat ∧
          t.net.tx = s1.net.tx ++ [{ port := m.port.val, addr := m.addr, bytes := y.chal }] ∧
          (∀ j, j ≠ k → t.session j = (s.arrives m).session j)))) ∧
  (∀ (m : DdpIn) (x : Msg) (y : Session) (s : State), s.takesMsg m 3 x → x.session ≠ 0 → (s.arrives m).session x.session = some y →
    y.boundTo m = true → y.open_ = false →
    ((s.arrives m).macOk y x → x.seq = 0 → y.seqOut.toNat < 2 ^ 31 - 2 → s.net.applyOld = none →
      ∃ t a, exec (.openProof m) s = .next t ∧ a.says { y with open_ := true } x.session 4 0 x.xid (p16 s.net.idleS ++ p8 127 ++ [0]) t ∧
        a = ((s.arrives m).modSession x.session fun z => { z with open_ := true, lastHeard := s.timeBase.toNat }).raise 0x0A01 srcNET
          (p8 x.session ++ p8 y.role ++ p8 y.port ++ p8 ((s.arrives m).partnerIndex y.port y.addr))) ∧
    (¬(s.arrives m).macOk y x ∨ x.seq ≠ 0 →
      ∃ t, exec (.openProof m) s = .next t ∧ t.session x.session = none ∧ (∀ j, j ≠ x.session → t.session j = (s.arrives m).session j) ∧
        t.net.tx = (s.arrives m).net.tx ++ [{
          port := m.port.val, addr := m.addr
          bytes := msgBytes 12 0 0 x.xid 0 (abortBody [] 0x05030004) false }])) ∧
  (∀ (m : DdpIn) (x : Msg) (y : Session) (a s : State), s.inOpen m 5 x y a → y.seqOut.toNat < 2 ^ 31 - 2 →
    ∃ t, exec (.close m) s = .next t ∧ t.session x.session = none ∧ (∀ j, j ≠ x.session → t.session j = a.session j) ∧
      t.net.tx = a.net.tx ++ [a.sessionMsg y x.session 5 0 0 (p8 1 ++ [0, 0, 0])] ∧ (∀ u ∈ t.net.transfers, u.session ≠ x.session) ∧
      s.lastEvent t 0x0A02 srcNET (p8 x.session ++ p8 1)) ∧
  (∀ (k : Nat) (y : Session) (s : State), s.session k = some y →
    (y.open_ = false → y.lastHeard + 2000000 ≤ s.timeBase.toNat →
      ∃ t, exec (.halfOpenTimeout k) s = .next t ∧ t.session k = none ∧ (∀ j, j ≠ k → t.session j = s.session j) ∧ t.net.tx = s.net.tx ∧
        (∀ u ∈ t.net.transfers, u.session ≠ k) ∧ t = { s with net := t.net, evl := t.evl }) ∧
    (y.open_ = true ∨ s.timeBase.toNat < y.lastHeard + 2000000 → exec (.halfOpenTimeout k) s = .next s) ∧
    (y.open_ = true → y.lastHeard + s.net.idleS * 1000000 ≤ s.timeBase.toNat →
      ∃ t, exec (.sessionIdleTimeout k) s = .next t ∧ t.session k = none ∧ (∀ j, j ≠ k → t.session j = s.session j) ∧
        t.net.tx = s.net.tx ++ [s.sessionMsg y k 5 0 0 (p8 2 ++ [0, 0, 0])] ∧ (∀ u ∈ t.net.transfers, u.session ≠ k) ∧
        s.lastEvent t 0x0A02 srcNET (p8 k ++ p8 2) ∧ t = { s with net := t.net, evl := t.evl }) ∧
    (y.open_ = false ∨ s.timeBase.toNat < y.lastHeard + s.net.idleS * 1000000 → exec (.sessionIdleTimeout k) s = .next s)) ∧
  (∀ (m : DdpIn) (x : Msg) (y : Session) (i : Instr) (typ : Nat) (s : State),
    (i, typ) ∈ [(Instr.close m, 5), (.segInit m, 8), (.segData m, 9), (.segAck m, 10), (.segEnd m, 11), (.abort m, 12)] →
    s.takesMsg m typ x → x.session ≠ 0 → (s.arrives m).session x.session = some y → y.boundTo m = true → y.open_ = true →
    (¬(s.arrives m).macOk y x →
      ∃ t, exec i s = .next t ∧ t.net.macFails = satInc (s.arrives m).net.macFails ∧ t.net.sessions = (s.arrives m).net.sessions ∧
        t.net.tx = (s.arrives m).net.tx ∧ t.net.transfers = (s.arrives m).net.transfers) ∧
    ((s.arrives m).macOk y x → acceptSeq y.high y.seen x.seq = none →
      ∃ t, exec i s = .next t ∧ t.net.replays = satInc (s.arrives m).net.replays ∧ t.net.tx = (s.arrives m).net.tx ∧
        t.net.transfers = (s.arrives m).net.transfers))

/-- R306, R316 to R318: a READ that the checks pass is answered with its value where it fits, and else with a segmented read; a WRITE with an empty RSP
before what follows it; a NOP with an empty RSP; a refused one with ABORT and its code. In a session a repetition is answered with the
stored answer and nothing is done twice. Outside a session a READ of an entry for any role is answered, and a WRITE never is. -/
def Obligations.Requests : Prop :=
  ∀ (m : DdpIn) (x : Msg) (y : Session) (a s : State),
    (s.inOpen m 6 x y a → a.transfer x.session m.port.val m.addr x.xid = none → ¬(y.lastXid = x.xid ∧ y.lastBody = p8 6 ++ x.body) →
      (∀ v a1 y1, u8 x.body 0 = 1 → x.body.length = 4 → a.dictGet ⟨x.session, 0⟩ (u16 x.body 2) (u8 x.body 1) = (0, v, a1) →
        a1.session x.session = some y1 → y1.seqOut.toNat < 2 ^ 31 - 2 →
        (v.length ≤ reqMax m.port.val true →
          ∃ t, exec (.reqRead m) s = .next t ∧ a1.says y1 x.session 7 0 x.xid (x.body.take 4 ++ v) t) ∧
        (reqMax m.port.val true < v.length → a.transferRefused x.session (up4k v.length) = 0 →
          ∃ t u, exec (.reqRead m) s = .next t ∧ a1.says y1 x.session 8 0 x.xid (readInit (x.body.take 4) v m.port.val true) t ∧
            t.net.transfers = a1.net.transfers ++ [u] ∧ u.session = x.session ∧ u.xid = x.xid ∧ u.write = false ∧ u.data = v ∧
            u.total = v.length ∧ u.granted = false)) ∧
      (∀ n v a1 y1, u8 x.body 0 = 1 → x.body.length = 4 → a.dictGet ⟨x.session, 0⟩ (u16 x.body 2) (u8 x.body 1) = (n, v, a1) → n ≠ 0 →
        a1.session x.session = some y1 → y1.seqOut.toNat < 2 ^ 31 - 2 →
        ∃ t, exec (.reqRead m) s = .next t ∧ a1.says y1 x.session 12 0 x.xid (abortBody (x.body.take 4) n) t) ∧
      (∀ w y1, u8 x.body 0 = 2 → a.dictPut ⟨x.session, 0⟩ (u16 x.body 2) (u8 x.body 1) (x.body.drop 4) = w →
        w.state.session x.session = some y1 → y1.seqOut.toNat < 2 ^ 31 - 2 →
        (w.code = 0 → ∃ u, exec (.reqWrite m) s = .next (w.after u) ∧ w.state.says y1 x.session 7 0 x.xid (x.body.take 4) u) ∧
        (w.code ≠ 0 → ∃ t, exec (.reqWrite m) s = .next t ∧ w.state.says y1 x.session 12 0 x.xid (abortBody (x.body.take 4) w.code) t)) ∧
      (u8 x.body 0 = 3 → x.body.length = 4 → ∀ y1, a.session x.session = some y1 → y1.seqOut.toNat < 2 ^ 31 - 2 →
        ∃ t, exec (.reqNop m) s = .next t ∧ a.says y1 x.session 7 0 x.xid x.body t)) ∧
    (s.inOpen m 6 x y a → a.transfer x.session m.port.val m.addr x.xid = none → y.lastXid = x.xid → y.lastBody = p8 6 ++ x.body →
      ∀ g b y1, y.lastAnswer = [(g, 0, b)] → a.session x.session = some y1 → y1.seqOut.toNat < 2 ^ 31 - 2 →
        ∃ t, a.says y1 x.session g 0 x.xid b t ∧ (u8 x.body 0 = 1 → exec (.reqRead m) s = .next t) ∧ (u8 x.body 0 = 2 → exec (.reqWrite m) s = .next t) ∧
          (u8 x.body 0 ≠ 1 → u8 x.body 0 ≠ 2 → exec (.reqNop m) s = .next t)) ∧
    (s.takesMsg m 6 x → x.session = 0 → (s.arrives m).transfer 0 m.port.val m.addr x.xid = none →
      (u8 x.body 0 = 2 →
        ∃ t n, exec (.reqWrite m) s = .next t ∧ n ≠ 0 ∧
          t = { s.arrives m with net := { (s.arrives m).net with
            abortsSent := satInc (s.arrives m).net.abortsSent
            tx := (s.arrives m).net.tx ++ [{
              port := m.port.val, addr := m.addr
              bytes := msgBytes 12 0 0 x.xid 0 (abortBody (x.body.take 4) n) false }] } }) ∧
      (∀ v a1, u8 x.body 0 = 1 → x.body.length = 4 → (s.arrives m).dictGet ⟨0, 0⟩ (u16 x.body 2) (u8 x.body 1) = (0, v, a1) →
        v.length ≤ reqMax m.port.val false →
        exec (.reqRead m) s = .next (a1.sendTo m.port.val m.addr (msgBytes 7 0 0 x.xid 0 (x.body.take 4 ++ v) false)))) ∧
    (Msg.parse m.port m.bytes = some x → u8 x.body 0 = 2 → exec (.reqRead m) s = .next s ∧ exec (.reqNop m) s = .next s) ∧
    (Msg.parse m.port m.bytes = some x → u8 x.body 0 ≠ 2 → exec (.reqWrite m) s = .next s)

/-- R319 to R325: SEG_INIT of a write opens a transfer and is answered with a grant, or refused; a segment in its place is held, and one that fills the
window is acknowledged; a segment held with other bytes ends the transfer; SEG_END commits the whole value with the checks of R318, or ends
with the code of the first check that fails. ABORT drops the transfer, and nothing is committed. The ninth retry ends it. -/
def Obligations.SegmentedTransfers : Prop :=
  ∀ (m : DdpIn) (x : Msg) (y : Session) (a s : State) (y1 : Session), a.session x.session = some y1 → y1.seqOut.toNat < 2 ^ 31 - 2 →
    (s.inOpen m 8 x y a → a.transfer x.session m.port.val m.addr x.xid = none → u8 x.body 0 = 2 →
      (u32 x.body 4 = 0 ∨ u16 x.body 8 = 0 ∨ segMax m.port.val true < u16 x.body 8 ∨ u8 x.body 10 = 0 →
        ∃ t, exec (.segInit m) s = .next t ∧ a.says y1 x.session 12 0 x.xid (abortBody (x.body.take 4) 0x05040002) t ∧
          t.net.transfers = a.net.transfers) ∧
      (u32 x.body 4 ≠ 0 → u16 x.body 8 ≠ 0 → u16 x.body 8 ≤ segMax m.port.val true → u8 x.body 10 ≠ 0 →
        a.transferRefused x.session (if u16 x.body 2 = 0x2801 then up4k (min (u8 x.body 10) 127 * u16 x.body 8) else up4k (u32 x.body 4)) = 0 →
        ∃ t u, exec (.segInit m) s = .next t ∧
          a.says y1 x.session 10 2 x.xid (segAckBody 0 (min (u8 x.body 10) 127) (List.replicate 16 0)) t ∧
          t.net.transfers = a.net.transfers ++ [u] ∧ u.session = x.session ∧ u.xid = x.xid ∧ u.write = true ∧ u.total = u32 x.body 4 ∧
          u.segsize = u16 x.body 8 ∧ u.window = min (u8 x.body 10) 127 ∧ u.held = [] ∧ u.next = 0 ∧ u.index = u16 x.body 2 ∧ u.sub = u8 x.body 1)) ∧
    (∀ u : Transfer, a.transfer x.session m.port.val m.addr x.xid = some u → u.session = x.session → u.xid = x.xid → u.write = true →
      (∀ n, s.inOpen m 9 x y a → resolveSeg u.next (u16 x.body 0) = some n →
        (n < u.next → exec (.segData m) s = .next a) ∧
        (∀ b, u.next ≤ n → u.heldAt n = some b →
          (b = x.body.drop 2 → exec (.segData m) s = .next a) ∧
          (b ≠ x.body.drop 2 → ∃ t, exec (.segData m) s = .next t ∧ (∀ v ∈ t.net.transfers, sameTransfer u v = false) ∧
            t.net.tx = a.net.tx ++ [a.sessionMsg y1 x.session 12 0 x.xid (abortBody u.entry 0x05040006)] ∧
            s.lastEvent t 0x0A06 srcNET (p8 x.session ++ p8 x.xid ++ p32 0x05040006))) ∧
        (u.next ≤ n → u.heldAt n = none → u.limit ≤ n →
          exec (.segData m) s = .next { a with net := { a.net with aboveLimit := satInc a.net.aboveLimit } }) ∧
        (u.next ≤ n → u.heldAt n = none → n < u.limit → n + 1 < u.count → (x.body.drop 2).length = u.segsize →
          ({ u with held := u.held ++ [(n, x.body.drop 2)], retries := 0 } : Transfer).settle.next < min u.limit u.count →
          ∃ t v, exec (.segData m) s = .next t ∧ t = { a with net := { a.net with
              transfers := a.net.transfers.map fun w => if sameTransfer u w then v else w } } ∧
            v.held = u.held ++ [(n, x.body.drop 2)] ∧ v.retries = 0 ∧ v.limit = u.limit)) ∧
      (s.inOpen m 11 x y a → ¬(y.lastXid = x.xid ∧ y.lastBody = segKey x u.initBody) →
        (u.count < u32 x.body 0 → ∃ t, exec (.segEnd m) s = .next t ∧ (∀ v ∈ t.net.transfers, sameTransfer u v = false) ∧
          t.net.tx = a.net.tx ++ [a.sessionMsg y1 x.session 12 0 x.xid (abortBody u.entry 0x06070010)]) ∧
        (∀ w y2, u32 x.body 0 = u.count → (List.range u.count).all (fun n => u.has n) = true →
          u.rest ≤ ((u.heldAt (u.count - 1)).getD []).length → crc32c u.value = u32 x.body 4 →
          a.dictPut ⟨x.session, 0⟩ u.index u.sub u.value = w → w.code = 0 → w.state.session x.session = some y2 → y2.seqOut.toNat < 2 ^ 31 - 2 →
          ∃ t, exec (.segEnd m) s = .next (w.after t) ∧ (∀ v ∈ t.net.transfers, sameTransfer u v = false) ∧
            t.net.tx = w.state.net.tx ++ [w.state.sessionMsg y2 x.session 10 1 x.xid (segAckBody u.count u.window (List.replicate 16 0))])) ∧
      (s.inOpen m 12 x y a →
        exec (.abort m) s = .next { a with net := { a.net with transfers := a.net.transfers.filter fun v => !sameTransfer u v } }) ∧
      (s.inOpen m 10 x y a → exec (.segAck m) s = .next a)) ∧
    (∀ u : Transfer, a.transfer x.session m.port.val m.addr x.xid = some u → u.session = x.session → u.xid = x.xid → u.write = false →
      s.inOpen m 10 x y a → bits x.flags 0 1 = 1 → u.endSent = true →
      ∃ t, exec (.segAck m) s = .next t ∧ (∀ v ∈ t.net.transfers, sameTransfer u v = false) ∧ t.net.tx = a.net.tx ∧ t = { a with net := t.net }) ∧
    (∀ (key : XferKey) (u : Transfer), a.transfer key.session key.port.val key.addr key.xid = some u → key.session = x.session →
      u.session = x.session → key.xid = u.xid → a.serves key.port = true → u.write = true →
      (u.gapTimer = true → ∃ t, exec (.gapAckTimer key) a = .next t ∧
        t.net.tx = a.net.tx ++ [a.sessionMsg y1 x.session 10 0 u.xid (segAckBody u.next u.window u.mapBytes)]) ∧
      (u.gapTimer = false → exec (.gapAckTimer key) a = .next a) ∧
      (u.retries = 8 → ∃ t, exec (.transferRetransmitTimer key) a = .next t ∧ (∀ v ∈ t.net.transfers, sameTransfer u v = false) ∧
        t.net.tx = a.net.tx ++ [a.sessionMsg y1 x.session 12 0 u.xid (abortBody u.entry 0x05040000)] ∧
        a.lastEvent t 0x0A06 srcNET (p8 x.session ++ p8 u.xid ++ p32 0x05040000)) ∧
      (u.retries < 8 → ∃ t, exec (.transferRetransmitTimer key) a = .next t ∧
        t.net.tx = a.net.tx ++ [a.sessionMsg y1 x.session 10 0 u.xid (segAckBody u.next u.window u.mapBytes)]))

/-! ## Settings and the NV store (chapters 10 and 11) -/

/-- R331: APPLY takes effect 1 s after its write. Then sessions on ports whose parameters change close, every port and timer takes its stored value, and
120 s of validation begin where a changed port is enabled; when they pass without a session the old parameters return with outcome 3.
R318, R335: a write of an entry is refused with the code of the first check that fails, and then does nothing: the role (0x0601_0003), the
life-cycle state (0x0601_0004; Indeterminate passes where Scrapped does), the length (0x0607_0012). CREATE asks for the Integrator role
and state. Where no firmware runs and the ROM does not listen, nothing is served. -/
def Obligations.DictionaryGatesAndApply : Prop :=
  ((∀ (who : Caller) (s : State), s.allowed who 0x1110 0x10 [1] →
     exec (.apply who) s = .next (({ s with net := { s.net with applyDue := true, applyAt := s.timeBase.toNat + 1000000 } } : State).answered 0)) ∧
   (∀ s : State,
     (s.net.applyDue = false ∨ s.timeBase.toNat < s.net.applyAt ∨ s.fwRuns = false → exec .applyTakeEffect s = .next s) ∧
     (s.net.applyDue = true → s.net.applyAt ≤ s.timeBase.toNat → s.fwRuns = true →
       ∃ t, exec .applyTakeEffect s = .next t ∧ t.net.applyDue = false ∧ t.net.applyAt = s.timeBase.toNat + 120000000 ∧
         (∀ k, (t.net.ports.get k).cfg = s.storedNet k) ∧ t.net.rollcallS = s.storedVal 0x1110 1 ∧ t.net.idleS = s.storedVal 0x1110 2 ∧
         t.net.provPort = s.storedVal 0x1110 3 ∧ s.closes t (fun x => (portsChanged s.commNow s.commStored).contains x.port) ∧
         t.net.applyStatus = (if (portsChanged s.commNow s.commStored).all (fun k => !(s.commStored.port k).enabled) then 2 else 1) ∧
         s.lastEvent t 0x0A0E srcFW (p8 ((portsChanged s.commNow s.commStored).map (2 ^ ·)).sum ++ p8 t.net.applyStatus) ∧
         t = { s with net := t.net, evl := t.evl }) ∧
     (s.net.applyOld = none ∨ s.timeBase.toNat < s.net.applyAt ∨ s.fwRuns = false → exec .applyValidationTimeout s = .next s) ∧
     (∀ old, s.net.applyOld = some old → s.net.applyAt ≤ s.timeBase.toNat → s.fwRuns = true →
       ∃ t, exec .applyValidationTimeout s = .next t ∧ t.net.applyOld = none ∧ t.net.applyWait = [] ∧ t.net.applyStatus = 3 ∧
         (∀ k : NetPort, (t.net.ports.get k).cfg = old.port k.val) ∧ t.net.rollcallS = old.rollcallS ∧ t.net.idleS = old.idleS ∧
         t.net.provPort = old.provPort ∧ s.closes t (fun x => (portsChanged s.commNow old).contains x.port) ∧
         s.lastEvent t 0x0A0E srcFW (p8 ((portsChanged s.commNow old).map (2 ^ ·)).sum ++ p8 3) ∧
         t = { s with net := t.net, evl := t.evl, upd := t.upd, free := t.free }))) ∧
  ((∀ (i : Instr) (w : Caller) (idx sub : Nat) (b : Bytes) (s : State), entryWrite i = some (w, idx, sub, b) →
     (s.dictServed = false → exec i s = .next s) ∧
     (s.dictServed = true → s.writeRefused w idx sub b ≠ 0 → exec i s = .next (s.answered (s.writeRefused w idx sub b)))) ∧
   (∀ (h : Host24) (w : Caller) (idx sub role : Nat) (lc : List LcState) (ty : DTy) (b : Bytes) (s : State),
     (idx, sub, role, lc, ty) ∈ writeRows h → s.sys.listen = 0 → s.fused h.val = false →
     ((s.roleOf w = 0 ∨ role < s.roleOf w) → s.writeRefused w idx sub b = 0x06010003) ∧
     (1 ≤ s.roleOf w → s.roleOf w ≤ role →
       (s.lcc.state ∉ lc → ¬(s.lcc.state = .indeterminate ∧ LcState.scrapped ∈ lc) → s.writeRefused w idx sub b = 0x06010004) ∧
       (s.lcc.state ∈ lc → ty.fits b.length = false → s.writeRefused w idx sub b = 0x06070012) ∧
       (s.lcc.state ∈ lc → ty.fits b.length = true → s.writeRefused w idx sub b = 0))) ∧
   (∀ (w : Caller) (s : State), s.sys.listen = 0 → s.roleOf w = 3 → s.lcc.state = .fielded →
     s.writeRefused w 0x2902 1 [1] = 0x06010003 ∧ s.writeRefused w 0x2902 1 [2] = 0))

/-- R328, R329, R340 to R342, R344, R381, R411: a derivation makes the role's key from the source key, the label, UNIT_ID and the role, and closes the role's
sessions; a Timetable is refused for a host that runs and for the first failed check, and else waits or is committed; a Bell schedule and a
gate set that fail are refused, and else are stored, the gate set with no effect on the gates; a counter is advanced, never lowered. -/
def Obligations.SettingsEntries : Prop :=
  (∀ (who : Caller) (b : Bytes) (s : State), s.allowed who 0x1210 0 b →
    (s.deriveOk who b = false →
      exec (.keyDerivation who b) s =
        .next (({ s with net := { s.net with derive1211 := BitVec.ofNat 32 (256 * u8 b 1 + 2) } } : State).answered 0x07000001)) ∧
    (∀ key, s.deriveOk who b = true →
      key = Hash.hmac 1 (s.slot (u8 b 0)).key (beBytes 4 1 ++ field b 4 (u8 b 2) ++ [0] ++ unitIdBytes ++ p8 (u8 b 1) ++ beBytes 4 0x100) →
      ∃ t, exec (.keyDerivation who b) s = .next t ∧
        t.slot (u8 b 1) = { s.slot (u8 b 1) with
          typ := 1, immediate := true, policy := 0xFFFF00C0, key := key, keyId := (Hash.sha256 (ascii "KRKI" ++ key)).take 8 } ∧
        (∀ k, k ≠ u8 b 1 → t.slot k = s.slot k) ∧ s.closes t (fun x => x.open_ && x.role = u8 b 1) ∧
        t.net.derive1211 = BitVec.ofNat 32 (256 * u8 b 1) ∧ t.net.lastAbort = 0 ∧
        s.lastEvent t 0x0A0D srcFW (p8 (u8 b 0) ++ p8 (u8 b 1) ++ (Hash.sha256 (field b 4 (u8 b 2))).take 8) ∧
        t = { s with keys := { s.keys with slots := t.keys.slots }, net := t.net, evl := t.evl })) ∧
  (∀ (who : Caller) (h : Host24) (b : Bytes) (s : State), s.allowed who (0x2400 + h.val) 0 b →
    ((s.imgOf h).state ∉ [HostState.off, .held, .detention] → exec (.timetableWrite who h b) s = .next (s.answered 0x04000002)) ∧
    ((s.imgOf h).state ∈ [HostState.off, .held, .detention] →
      (ttFirstFailed b h.val s.partCode (s.fused h.val) ≠ 0 →
        exec (.timetableWrite who h b) s = .next ((({ s with
          tt := s.tt.set h { s.ttOf h with
            waiting := none, waitImage := none, status := 3
            failedCheck := ttFirstFailed b h.val s.partCode (s.fused h.val) } } : State).raise
          0x0311 srcFW (p8 h.val ++ p8 (ttFirstFailed b h.val s.partCode (s.fused h.val)))).answered 0x04000001)) ∧
      (∀ x, ttFirstFailed b h.val s.partCode (s.fused h.val) = 0 → s.upd.writesBarred = false → x = Timetable.parse b →
        ∃ t, exec (.timetableWrite who h b) s = .next t ∧ t.net.lastAbort = 0 ∧ (∀ k, k ≠ h → t.imgOf k = s.imgOf k) ∧
          t.plc.flash = s.plc.flash ∧
          (((t.ttOf h).status = 1 ∧ (t.ttOf h).waiting = some x ∧ (t.ttOf h).waitImage = some (b, s.roleOf who)) ∨
           ((t.ttOf h).status = 2 ∧ (t.ttOf h).waiting = none ∧ (t.ttOf h).activeTt = some x ∧ s.holdsBlock t (0x200 + h.val) b) ∨
           ((t.ttOf h).status = 3 ∧ ((t.ttOf h).failedCheck = 12 ∨ (t.ttOf h).failedCheck = 13) ∧ x.detain = false)) ∧
          (x.detain = true → ((t.ttOf h).status = 2 ↔ (s.ttOf h).pend = false))))) ∧
  (∀ (who : Caller) (c : Chan) (b : Bytes) (s : State), s.allowed who (0x2500 + c.val) 1 b →
    (bellFirstFailed b c.val s.partCode (s.fused c.val) s.fusedHost ≠ 0 →
      exec (.bellScheduleWrite who c b) s = .next ((s.raise 0x0418 srcFCC
        (p8 c.val ++ p8 (bellFirstFailed b c.val s.partCode (s.fused c.val) s.fusedHost))).answered 0x05000001)) ∧
    (bellFirstFailed b c.val s.partCode (s.fused c.val) s.fusedHost = 0 → s.upd.writesBarred = false →
      (s.bellCheck7 c.val (BellSchedule.parse b) = false →
        exec (.bellScheduleWrite who c b) s = .next ((s.raise 0x0418 srcFCC (p8 c.val ++ p8 7)).answered 0x05000001)) ∧
      (s.bellCheck7 c.val (BellSchedule.parse b) = true →
        ∃ t, exec (.bellScheduleWrite who c b) s = .next t ∧ s.holdsBlock t (0x300 + c.val) b ∧ s.storedEvent t (0x2500 + c.val) 1 (s.roleOf who) ∧
          t.chan c = (if (s.chan c).activeBell.elim true (fun cur => bellCheck8 (s.chan c) cur (BellSchedule.parse b)) then
            ((s.chan c).stageBell (BellSchedule.parse b)).takeBell else s.chan c) ∧
          (∀ k, k ≠ c → t.chan k = s.chan k) ∧
          t = { s with upd := t.upd, free := s.free + 1, evl := t.evl, chans := t.chans, net := { s.net with lastAbort := 0 } }))) ∧
  (∀ (who : Caller) (b : Bytes) (s : State), s.allowed who 0x2A00 0 b →
    (s.gateSetOk b = false → exec (.gateSetWrite who b) s = .next (s.answered 0x0A000001)) ∧
    (s.gateSetOk b = true → s.upd.writesBarred = true → exec (.gateSetWrite who b) s = .next (s.answered 0x06080000)) ∧
    (s.gateSetOk b = true → s.upd.writesBarred = false →
      ∃ t, exec (.gateSetWrite who b) s = .next t ∧ s.holdsBlock t 0x400 b ∧ s.storedEvent t 0x2A00 0 (s.roleOf who) ∧
        t = { s with upd := t.upd, free := s.free + 1, evl := t.evl, net := { s.net with lastAbort := 0 } })) ∧
  (∀ (who : Caller) (b : Bytes) (s : State), s.allowed who 0x2C01 0 b →
    (64 ≤ u8 b 0 ∨ s.ctrFused (u8 b 0) = true ∨ allZero (field b 1 3) = false →
      exec (.counterAdvance who b) s = .next (s.answered 0x06090030)) ∧
    (u8 b 0 < 64 → s.ctrFused (u8 b 0) = false → allZero (field b 1 3) = true →
      (u32 b 4 < s.counter (u8 b 0) → exec (.counterAdvance who b) s = .next (s.answered 0x0C000001)) ∧
      (s.counter (u8 b 0) ≤ u32 b 4 →
        ∃ t, exec (.counterAdvance who b) s = .next t ∧ t.counter (u8 b 0) = u32 b 4 ∧ (∀ k, k ≠ u8 b 0 → t.counter k = s.counter k) ∧
          (s.counter (u8 b 0) < u32 b 4 →
            s.lastEvent t 0x0712 srcCTR (p8 (u8 b 0) ++ p32 (s.counter (u8 b 0)) ++ p32 (u32 b 4) ++ p8 srcOwner)) ∧
          t = { s with ctr := { s.ctr with rings := t.ctr.rings }, evl := t.evl, net := { s.net with lastAbort := 0 } })))

/-! ## Power and the energy budget (chapter 12) -/

/-- R360 to R363, Tables 12.2 and 12.3: a deeper state is entered only where it is permitted and its conditions hold; the residency of the state left is
counted, the cores go off from P2, the entropy source from P3, and P4 saves the floor and is logged. Traffic, a select, a port and the
timer wake the states they wake, with PWR_WAKE; in the other states they do nothing. -/
def Obligations.PowerStates : Prop :=
  (∀ (p : Fin 5) (s : State),
    (¬ s.mayEnter p → exec (.powerStateEntry p) s = .next s) ∧
    (s.mayEnter p →
      ∃ t, exec (.powerStateEntry p) s = .next t ∧ t.power = powerOf p ∧ t.pwr.since = s.timeBase.toNat ∧ t.pwr.traffic = false ∧
        (∀ k : Fin 5, t.pwr.res.get k = if k.val = s.power.code then satAdd (s.pwr.res.get k) ((s.timeBase.toNat - s.pwr.since) / 1000)
          else s.pwr.res.get k) ∧
        t.dgc = { s.dgc with on := t.dgc.on, ok := s.dgc.ok &&& t.dgc.on } ∧ t.dgc.on = (if p.val ≤ 1 then 0xFFFF else 0) ∧
        (s.rng.src ≠ .failed → 3 ≤ p.val → t.rng.src = .off) ∧ (p.val < 3 → t.rng = s.rng) ∧
        (p ≠ 4 → t.clk = s.clk ∧ t.evl = s.evl) ∧
        (p = 4 → t.clk = (if s.vddWarn then s.clk else { s.clk with floor := s.timeBase, floorSaves := s.clk.floorSaves + 1 }) ∧
          s.lastEvent t 0x0D01 srcPWR (p32 s.tMin ++ p8 s.holdWord)) ∧
        t = { s with power := t.power, pwr := t.pwr, dgc := t.dgc, rng := t.rng, clk := t.clk, evl := t.evl })) ∧
  (∀ s : State,
    (s.power = .p0 ∨ s.power = .p3 ∨ s.power = .p4 → exec .p1Exit s = .next { s with pwr := { s.pwr with traffic := true } }) ∧
    (s.power = .p1 → ∃ t, exec .p1Exit s = .next t ∧ t.power = .p0 ∧ t.pwr.traffic = true ∧ t.pwr.wakeKind = s.pwr.wakeKind ∧
      t = { s with power := .p0, pwr := t.pwr, dgc := { s.dgc with on := 0xFFFF } }) ∧
    (s.power = .p2 → ∃ t, exec .p1Exit s = .next t ∧ ({ s with pwr := { s.pwr with traffic := true } } : State).wakes 5 0 t) ∧
    (s.power = .p2 ∨ s.power = .p3 → ∃ t, exec .wakeTimer s = .next t ∧ s.wakes 4 0 t) ∧
    (s.power ≠ .p2 → s.power ≠ .p3 → exec .wakeTimer s = .next s)) ∧
  (∀ (h : Host24) (s : State),
    (s.power = .p3 → (s.port h).cfg.getLsbD 0 = true → s.hcs.padPwren h = true →
      ∃ t, exec (.hostSelectWake h) s = .next t ∧ s.wakes 1 h.val t) ∧
    (s.power ≠ .p3 ∨ (s.port h).cfg.getLsbD 0 = false ∨ s.hcs.padPwren h = false → exec (.hostSelectWake h) s = .next s)) ∧
  (∀ (k : NetPort) (s : State),
    ((s.net.ports.get k).cfg.enabled = false ∨ s.power = .p0 ∨ s.power = .p1 → exec (.networkWake k) s = .next s) ∧
    ((s.net.ports.get k).cfg.enabled = true → s.power = .p2 ∨ s.power = .p3 → ∃ t, exec (.networkWake k) s = .next t ∧ s.wakes 2 k.val t) ∧
    ((s.net.ports.get k).cfg.enabled = true → s.power = .p4 →
      ∃ t, exec (.networkWake k) s = .next t ∧
        ({ s with net := { s.net with ports := s.net.ports.set k { s.net.ports.get k with wake := true } } } : State).wakes 2 k.val t))

/-- R364 to R371: of the work on offer, the job of the first rank whose cost fits over what the ranks above it need is admitted and charged; a reseed that is
admitted is made. Work that does not fit stays waiting, and is marked blocked. A reading in range is taken, another fails its sensor,
which then counts as the ceiling; T_max, AT_CEIL and THERM_CRIT follow with their hysteresis, and a change of THERM_CRIT tells the hosts. -/
def Obligations.EnergyBudget : Prop :=
  (∀ (offers os : List JobOffer) (s : State), os = offers.filter s.offerReal →
    ((∀ o ∈ os, standsFor os o → s.offerFits os o = false) →
      exec (.jobAdmission offers) s = .next { s with pwr := { s.pwr with waiting := classMask os, blocked := classMask os } }) ∧
    (∀ o, s.power = .p0 ∨ s.power = .p1 → o ∈ os → standsFor os o → s.offerFits os o = true →
      (∀ x ∈ os, x.rank < o.rank → standsFor os x → s.offerFits os x = false) →
      (o.rank ∈ [2, 4, 5, 6, 8] →
        ∃ t, exec (.jobAdmission offers) s = .next t ∧ t = { s with pwr := t.pwr } ∧
          t.pwr.level = s.pwr.level - s.jobCost (rankClass o) o.host ∧
          t.pwr.spent = s.pwr.spent + BitVec.ofNat 64 (s.jobCost (rankClass o) o.host) ∧ t.pwr.lastRank = BitVec.ofNat 4 o.rank ∧
          t.pwr.lastClass = BitVec.ofNat 4 (rankClass o) ∧ t.pwr.waiting = classMask (os.erase o)) ∧
      (∀ w e s1, o.rank = 1 → s.rng.drbg = some w → s.takeEntropy = some (e, s1) →
        ∃ t, exec (.jobAdmission offers) s = .next t ∧ t = { s with pwr := t.pwr, rng := t.rng, free := t.free, evl := t.evl } ∧
          t.pwr.level = s.pwr.level - s.jobCost 7 none ∧ t.rng.drbg = some (w.reseed e (p64 s.timeBase.toNat ++ p32 s.netBoot.toNat)) ∧
          t.rng.dueSince = none ∧ t.rng.lastReseed = s.timeBase.toNat ∧ t.rng.sinceReseed = 0))) ∧
  (∀ (a b c d : Option Int) (s : State),
    (s.power = .p4 → exec (.sensorSample a b c d) s = .next s) ∧
    (s.power ≠ .p4 →
      ∃ t, exec (.sensorSample a b c d) s = .next t ∧ t = { s with pwr := t.pwr, ports := t.ports, evl := t.evl } ∧
        t.pwr = { s.pwr with temps := t.pwr.temps, sfail := t.pwr.sfail, tmax := t.pwr.tmax, atCeil := t.pwr.atCeil, crit := t.pwr.crit } ∧
        (∀ (k : Fin 4) (r : Option Int), [a, b, c, d][k.val]? = some r →
          (t.pwr.sfail.getLsbD k.val = true ↔ s.pwr.sfail.getLsbD k.val = true ∨ ¬ readingOk r) ∧
          (∀ x, r = some x → readingOk r → s.pwr.sfail.getLsbD k.val = false → t.pwr.temps.get k = x) ∧
          (¬ readingOk r ∨ s.pwr.sfail.getLsbD k.val = true → t.pwr.temps.get k = s.pwr.temps.get k)) ∧
        (∀ k, (if t.pwr.sfail.getLsbD k.val then 10 * (s.pwr.ceil : Int) else t.pwr.temps.get k) ≤ t.pwr.tmax) ∧
        (∃ k : Fin 4, t.pwr.tmax = if t.pwr.sfail.getLsbD k.val then 10 * (s.pwr.ceil : Int) else t.pwr.temps.get k) ∧
        t.pwr.atCeil = (if 10 * (s.pwr.ceil : Int) ≤ t.pwr.tmax then true else if t.pwr.tmax < 10 * (s.pwr.ceil : Int) - 20 then false else s.pwr.atCeil) ∧
        t.pwr.crit = (if 1050 ≤ t.pwr.tmax then true else if t.pwr.tmax < 1000 then false else s.pwr.crit) ∧
        (∃ (e : Evl) (k : Nat), t.evl =
          ((({ s with evl := e } : State).raiseIf (t.pwr.atCeil ≠ s.pwr.atCeil) 0x0D03 srcPWR
              (p32 (twos 32 t.pwr.tmax) ++ p32 (twos 32 (10 * (s.pwr.ceil : Int))) ++ p8 k)).raiseIf (t.pwr.crit ≠ s.pwr.crit) 0x0D04 srcPWR
              (p32 (twos 32 t.pwr.tmax) ++ p8 k)).evl) ∧
        (t.pwr.crit = s.pwr.crit → t.ports = s.ports) ∧
        (∀ h, t.pwr.crit ≠ s.pwr.crit → t.port h = (if (s.imgOf h).state = .trial ∨ (s.imgOf h).state = .running ∨ (s.imgOf h).state = .hallPass then
          { s.port h with hpw := { (s.port h).hpw with attnCause := (s.port h).hpw.attnCause ||| 16 } } else s.port h))))

/-! ## Keys, counters and random numbers (chapter 13) -/

/-- R376 to R382, R385: a LOAD is judged by the life cycle and the slot, the type, the length and the policy, in that order; a good one writes its slot, with
KEY_ID, and no other. GENERATE fills slot 0 with SEED and I drawn from the generator and starts its index ring afresh. A revocation is
recorded for good, and one of a revoked slot changes nothing. A command while one is busy does nothing.
R189, R190, R382, R383: a revocation marks the slot's revocation word for good and logs EV 0x023A; under Immediate mode every host that is on and
out of Detention, and whose selected image is signed with the slot, is Held with nothing selected. An empty slot, slot 1 and a firmware
slot whose other is not live are refused; a slot already revoked changes nothing. No key is changed, and no byte of flash. -/
def Obligations.Keys : Prop :=
  ((∀ (m : Master) (k : Fin 64) (s : State), s.reaches m 0x40060010 →
     (s.keys.busy = true → exec (.keyLoad m k) s = .next s ∧ exec (.keyGenerate m k) s = .next s) ∧
     (s.keys.busy = false →
       (s.loadState m k.val = false → exec (.keyLoad m k) s = .next (s.keyEnds 1)) ∧
       (s.loadState m k.val = true →
         (typeFits k.val s.keys.hdrType = false → exec (.keyLoad m k) s = .next (s.keyEnds 2)) ∧
         (typeFits k.val s.keys.hdrType = true →
           (lenFits s.keys.hdrType s.keys.hdrLen.toNat = false ∨ s.keys.loadData.length < s.keys.hdrLen.toNat →
             exec (.keyLoad m k) s = .next (s.keyEnds 3)) ∧
           (lenFits s.keys.hdrType s.keys.hdrLen.toNat = true → s.keys.hdrLen.toNat ≤ s.keys.loadData.length →
             (policyFits k.val s.keys.hdrType s.keys.loadPolicy = false → exec (.keyLoad m k) s = .next (s.keyEnds 4)) ∧
             (∀ key, policyFits k.val s.keys.hdrType s.keys.loadPolicy = true → key = s.keys.loadData.take s.keys.hdrLen.toNat →
               ∃ t, exec (.keyLoad m k) s = .next t ∧
                 t = { s with evl := t.evl, keys := { (s.keyEnds 0).keys with slots := s.keys.slots.set k { s.slot k.val with
                   typ := s.keys.hdrType
                   immediate := s.keys.hdrMode || decide (s.keys.hdrType = 1)
                   policy := if s.keys.hdrType = 1 then 0xFFFF00C0 else s.keys.loadPolicy
                   key := key
                   keyId := keyIdOf s.keys.hdrType key } } } ∧
                 s.lastEvent t 0x0701 srcKEY (p8 k.val ++ p8 s.keys.hdrType.toNat ++ keyIdOf s.keys.hdrType key))))) ∧
       (¬ (m = .debug ∧ s.dbg.prov = true ∧ (s.lcc.state = .maker ∨ s.lcc.state = .integrator) ∧ (s.slot 0).state = 0) →
         exec (.keyGenerate m k) s = .next (s.keyEnds 1)) ∧
       (m = .debug → s.dbg.prov = true → (s.lcc.state = .maker ∨ s.lcc.state = .integrator) → (s.slot 0).state = 0 →
         (k ≠ 0 → exec (.keyGenerate m k) s = .next (s.keyEnds 2)) ∧
         (∀ b s1, k = 0 → s.draw 48 true conKeygen = (some b, s1) →
           ∃ t, exec (.keyGenerate m k) s = .next t ∧ t.keys = { s.keys with
               busy := true, done := false, result := 0, loadData := [], generating := some (b.take 32, b.drop 32) } ∧
             t = { s with keys := t.keys, rng := s1.rng, free := s1.free, evl := s1.evl }) ∧
         (∀ s1, k = 0 → s.draw 48 true conKeygen = (none, s1) →
           exec (.keyGenerate m k) s = .next (s1.keyEnds 5))))) ∧
   (∀ s : State,
     (s.keys.generating = none → exec .generateDone s = .next s) ∧
     (∀ seed i, s.keys.generating = some (seed, i) →
       ∃ t, exec .generateDone s = .next t ∧
         t.keys = { (s.keyEnds 0).keys with
           generating := none
           slots := s.keys.slots.set 0 { s.slot 0 with typ := 4, immediate := false, policy := 0, key := seed ++ i
                                                       keyId := (Hash.sha256 (ascii "KRKI" ++ (seed ++ i))).take 8 } } ∧
         t.signer = { s.signer with next := 0, ring := [], bad := [], bottom := none } ∧
         s.lastEvent t 0x0702 srcKEY ((Hash.sha256 (ascii "KRKI" ++ (seed ++ i))).take 8) ∧
         t = { s with keys := t.keys, signer := t.signer, evl := t.evl })) ∧
   (∀ (m : Master) (k : Fin 64) (confirm : Half) (s : State), s.reachesRevoke m →
     (confirm ≠ 0x4B59 ∨ s.keys.busy = true → exec (.keyCmdRevoke m k confirm) s = .next s) ∧
     (confirm = 0x4B59 → s.keys.busy = false →
       ((s.slot k.val).revWord ≠ 0 → exec (.keyCmdRevoke m k confirm) s = .next (s.keyEnds 0)) ∧
       ((s.slot k.val).revWord = 0 → (s.lcc.state = .scrapped ∨ s.lcc.state = .indeterminate ∨ s.revokeRefused k.val = true) →
         exec (.keyCmdRevoke m k confirm) s = .next (s.keyEnds 1)) ∧
       ((s.slot k.val).revWord = 0 → s.lcc.state ≠ .scrapped → s.lcc.state ≠ .indeterminate → s.revokeRefused k.val = false →
         ∃ t, exec (.keyCmdRevoke m k confirm) s = .next t ∧ (t.slot k.val).revWord ≠ 0 ∧ t.keys.busy = false ∧ t.keys.done = true ∧
           t.keys.result = 0 ∧ t.keys.loadData = [] ∧
           (∀ j, (t.slot j).key = (s.slot j).key ∧ (t.slot j).typ = (s.slot j).typ ∧ (t.slot j).policy = (s.slot j).policy ∧
             ((s.slot j).revWord ≠ 0 → (t.slot j).revWord ≠ 0) ∧ (j ≠ k.val → (s.slot j).revWord = 0 → (t.slot j).revWord = 0)) ∧
           ((s.slot k.val).immediate = true → ∀ h, s.selectedKey h = some k.val → (s.imgOf h).state ≠ .off → (s.imgOf h).state ≠ .detention →
             (t.imgOf h).state = .held) ∧
           (1 ≤ k.val → k.val ≤ 4 → ∀ j x, s.session j = some x → x.open_ = true → x.role = k.val → t.session j = none))))) ∧
  (∀ (who : Caller) (k : Byte) (s : State), s.allowed who 0x2701 1 [k] →
     (64 ≤ k.toNat → exec (.keyRevoke who k) s = .next (s.answered 0x06090030)) ∧
     (k.toNat < 64 → (s.slot k.toNat).revWord ≠ 0 → exec (.keyRevoke who k) s = .next (s.answered 0)) ∧
     (k.toNat < 64 → (s.slot k.toNat).revWord = 0 → s.revokeRefused k.toNat = true →
       exec (.keyRevoke who k) s = .next (s.answered 0x07000001)) ∧
     (k.toNat < 64 → (s.slot k.toNat).revWord = 0 → s.revokeRefused k.toNat = false →
       ∃ t, exec (.keyRevoke who k) s = .next t ∧ (t.slot k.toNat).revWord ≠ 0 ∧
         (∀ j, (t.slot j).key = (s.slot j).key ∧ (t.slot j).typ = (s.slot j).typ ∧ (t.slot j).policy = (s.slot j).policy ∧
           ((s.slot j).revWord ≠ 0 → (t.slot j).revWord ≠ 0) ∧ (j ≠ k.toNat → (s.slot j).revWord = 0 → (t.slot j).revWord = 0)) ∧
         t.net.lastAbort = 0 ∧ t.plc.flash = s.plc.flash ∧ t.sram = s.sram ∧ t.ctr = s.ctr ∧ t.upd = s.upd ∧
         ((s.slot k.toNat).immediate = true →
           ∀ h, s.selectedKey h = some k.toNat → (s.imgOf h).state ≠ .off → (s.imgOf h).state ≠ .detention →
             (t.imgOf h).state = .held ∧ (t.imgOf h).selected = none) ∧
         ((s.slot k.toNat).immediate = true → ∀ h, s.selectedKey h ≠ some k.toNat → t.imgOf h = s.imgOf h)))

/-- R386 to R389: an increment raises a counter above its value, by one where no word of its ring is lost, and an advance to a larger value writes it; a
counter at its largest value, and an advance that is not above, change no value. CTR_VALUE tells the value after the command, and no other
counter changes. A fused host's counter never changes.
R391 to R393: a block of samples is judged by the repetition count test and the adaptive proportion test. A failed one is discarded and the source starts
over, with EV 0x0720 or 0x0721, and is FAILED at the third with EV 0x0722: it then supplies no entropy; a good one ends start-up, and later ones are conditioned into the pool.
R225, R396, R397: START takes one request of 1 to 65,536 bytes at a time; RESEED reseeds first, and is refused without entropy. A request ends with the
output in memory through the gates, or refused. A reseed falls due after a day or 2^20 requests, and one that stays due for a day, or 2^23
requests, is made at once. -/
def Obligations.CountersAndRandomNumbers : Prop :=
  (∀ (k : Fin 64) (s : State),
     (s.ctrFused k.val = true →
       exec (.ctrIncrement k) s = .next { s with ctr := { s.ctr with
         busy := false, done := true, result := 2, value := BitVec.ofNat 32 (s.counter k.val) } } ∧
       exec (.ctrAdvance k) s = exec (.ctrIncrement k) s) ∧
     (s.ctrFused k.val = false →
       (∃ t, exec (.ctrIncrement k) s = .next t ∧ t = { s with ctr := t.ctr, evl := t.evl } ∧
         t.ctr = { s.ctr with rings := t.ctr.rings, busy := false, done := true, result := t.ctr.result
                              value := BitVec.ofNat 32 (t.counter k.val) } ∧
         (∀ j, j ≠ k.val → t.counter j = s.counter j) ∧
         (s.counter k.val < 0xFFFFFFFF → t.ctr.result = 0 ∧ s.counter k.val < t.counter k.val ∧
           ((s.ring k.val).bad = [] → t.counter k.val = s.counter k.val + 1)) ∧
         (s.counter k.val = 0xFFFFFFFF → t.ctr.result = 1 ∧ t.counter k.val = s.counter k.val ∧
           s.lastEvent t 0x0711 srcCTR (p8 k.val ++ p8 srcCtrCmd))) ∧
       (∃ t, exec (.ctrAdvance k) s = .next t ∧ t = { s with ctr := t.ctr, evl := t.evl } ∧
         t.ctr = { s.ctr with rings := t.ctr.rings, busy := false, done := true, result := t.ctr.result
                              value := BitVec.ofNat 32 (t.counter k.val) } ∧
         (∀ j, j ≠ k.val → t.counter j = s.counter j) ∧
         (s.ctr.arg.toNat ≤ s.counter k.val → t.ctr.result = 2 ∧ t.counter k.val = s.counter k.val) ∧
         (s.counter k.val < s.ctr.arg.toNat → t.ctr.result = 0 ∧ t.counter k.val = s.ctr.arg.toNat ∧
           s.lastEvent t 0x0712 srcCTR (p8 k.val ++ p32 (s.counter k.val) ++ p32 s.ctr.arg.toNat ++ p8 srcCtrCmd))))) ∧
  (∀ (raw : Bytes) (s : State),
     (s.power = .p3 ∨ s.power = .p4 ∨ s.rng.src = .failed ∨ raw.length ≠ 128 → exec (.entropyBlock raw) s = .next s) ∧
     (s.rng.src = .failed → s.rng.pool.length < 2 → s.takeEntropy = none) ∧
     (∀ last run bad, s.power ≠ .p3 → s.power ≠ .p4 → s.rng.src ≠ .failed → raw.length = 128 →
       rctScan s.rng.lastBit s.rng.run (sampleBits raw) = (last, run, bad) →
       (bad = true ∨ 793 ≤ aptCount (sampleBits raw) →
         ∃ t, exec (.entropyBlock raw) s = .next t ∧ t = { s with rng := t.rng, evl := t.evl } ∧
           t.rng = { s.rng with
             rct := s.rng.rct || bad
             apt := s.rng.apt || !bad
             fails := s.rng.fails + 1
             lastBit := false
             run := 0
             src := if 2 ≤ s.rng.fails.toNat then .failed else .startup } ∧
           t.evl = ((s.raise (if bad then 0x0720 else 0x0721) srcRNG (p32 (if bad then run else aptCount (sampleBits raw)))).raiseIf
             (2 ≤ s.rng.fails.toNat) 0x0722 srcRNG (p8 (s.rng.fails.toNat + 1))).evl) ∧
       (bad = false → aptCount (sampleBits raw) < 793 →
         (s.rng.src ≠ .healthy →
           exec (.entropyBlock raw) s = .next { s with rng := { s.rng with src := .healthy, lastBit := last, run := run } }) ∧
         (s.rng.src = .healthy →
           exec (.entropyBlock raw) s = .next { s with rng := { s.rng with
             lastBit := last, run := run, fails := 0
             pool := if s.rng.pool.length < 2 then s.rng.pool ++ [Hash.sha256 raw] else s.rng.pool } })))) ∧
  (∀ s : State,
     (s.rng.request.isSome = true → exec .rngGenStart s = .next s ∧ ∀ b, exec (.rngGenReseed b) s = .next s) ∧
     (s.rng.request = none →
       (s.rng.len.toNat < 1 ∨ 65536 < s.rng.len.toNat →
         exec .rngGenStart s = .next { s with rng := { s.rng with done := false, refused := true } }) ∧
       (1 ≤ s.rng.len.toNat → s.rng.len.toNat ≤ 65536 →
         exec .rngGenStart s = .next { s with rng := { s.rng with
           done := false, refused := false, request := some { addr := s.rng.addr.toNat / 4 * 4, len := s.rng.len.toNat } } }) ∧
       (∀ (b : Bool) (w : Drbg.Work) (e : Bytes) (s1 : State), s.rng.drbg = some w → s.takeEntropy = some (e, s1) →
         ∃ t, exec (.rngGenReseed b) s = .next t ∧ s.reseeded w e t ∧ t.rng.done = false ∧
           (b = false → t.rng.refused = false ∧ t.rng.request = none) ∧
           (b = true → 1 ≤ s.rng.len.toNat → s.rng.len.toNat ≤ 65536 →
             t.rng.refused = false ∧ t.rng.request = some { addr := s.rng.addr.toNat / 4 * 4, len := s.rng.len.toNat })) ∧
       (∀ b, s.rng.drbg = none ∨ s.takeEntropy.isNone = true →
         exec (.rngGenReseed b) s = .next (State.raise { s with rng := { s.rng with done := false, refused := true } } 0x0507 srcRNG
           (p8 conRng ++ p8 (causeOf s))))) ∧
     (s.rng.request = none ∨ s.coresOn = [] → exec .drbgRequestDone s = .next s) ∧
     (∀ r, s.rng.request = some r → s.coresOn ≠ [] →
       (s.drbgRefuses = true →
         exec .drbgRequestDone s = .next (State.raise { s with rng := { s.rng with request := none, refused := true } } 0x0507 srcRNG
           (p8 conRng ++ p8 (causeOf s)))) ∧
       (∀ w out, s.rng.drbg = some w → s.drbgRefuses = false → out = (w.generate r.len).1 →
         s.refusedPiece .mgpPriv r.addr out.length true = none →
         ∃ t, exec .drbgRequestDone s = .next t ∧ t.rng.request = none ∧ t.rng.done = true ∧ t.rng.refused = false ∧
           t.rng.drbg = some (w.generate r.len).2 ∧ t.rng.reqs = s.rng.reqs.inc ∧ t.rng.sinceReseed = s.rng.sinceReseed + 1 ∧
           t = { s with rng := t.rng, sram := s.sram.writeN 0 r.addr out, evl := { s.evl with sramBad := t.evl.sramBad } })) ∧
     (exec .drbgReseedDue s = .next (if s.rng.drbg.isSome = true ∧ s.rng.dueSince = none ∧
         (s.rng.lastReseed + 86400000000 ≤ s.timeBase.toNat ∨ 2 ^ 20 ≤ s.rng.sinceReseed) then
       { s with rng := { s.rng with dueSince := some s.timeBase.toNat } } else s)) ∧
     ((∀ d, s.rng.dueSince = some d → s.timeBase.toNat < d + 86400000000) → s.rng.sinceReseed < 2 ^ 23 →
       exec .drbgReseedForced s = .next s) ∧
     (∀ w e s1, s.rng.drbg = some w → s.takeEntropy = some (e, s1) →
       (∃ d, s.rng.dueSince = some d ∧ d + 86400000000 ≤ s.timeBase.toNat) ∨ 2 ^ 23 ≤ s.rng.sinceReseed →
       ∃ t, exec .drbgReseedForced s = .next t ∧ s.reseeded w e t))

/-! ## Life cycle, debug and JTAG (chapter 15) -/

/-- R420 to R427, Tables 15.2 and 15.4: a transition request is refused for the first check it fails, with EV 0x0F03, and begins else. The sample after it lets
the fuse group be written, or cancels the transition where the hold-up energy is below 2,400 µJ. The written group decides the state, by the
decoding of all fuses, with EV 0x0F02; words of other groups stay. -/
def Obligations.LifeCycle : Prop :=
  (∀ (who : Caller) (b : Bytes) (n : Nat) (s : State), s.allowed who 0x2001 0 b →
    n = s.lcFailed (lcRequestOk b) (u8 b 6) (.role (s.roleOf who)) →
    (n ≠ 0 → exec (.lcTransitionRequest who b) s = .next ((s.raise 0x0F03 srcFW (p8 (u8 b 6) ++ p8 n)).answered n)) ∧
    (n = 0 → ∃ t, exec (.lcTransitionRequest who b) s = .next t ∧ s.transitionBegun (u8 b 6) t ∧ t.net.lastAbort = 0)) ∧
  (∀ (m : Master) (v : Word) (n : Nat) (s : State), s.reaches m 0x40030004 →
    n = s.lcFailed true (v.toNat % 256) (if m = .debug && s.dbg.prov then .jtag else .other) →
    (v.toNat / 65536 ≠ 0x4C43 → exec (.lccCmd m v) s = .next s) ∧
    (v.toNat / 65536 = 0x4C43 → n ≠ 0 →
      exec (.lccCmd m v) s = .next (State.raise
        { s with lcc := { s.lcc with xStatus := 3, xCause := n, xTarget := v.toNat % 256, rec2002 := v.toNat % 256 * 256 + 2 } }
        0x0F03 srcFW (p8 (v.toNat % 256) ++ p8 n))) ∧
    (v.toNat / 65536 = 0x4C43 → n = 0 → ∃ t, exec (.lccCmd m v) s = .next t ∧ s.transitionBegun (v.toNat % 256) t)) ∧
  (∀ (ball vbak e : Nat) (u s : State),
    e = (if min 1800 ball * 2 ^ s.lcc.div.toNat ≤ s.lcc.vmin.toNat * 100 then 0 else
      s.lcc.capUf.toNat * ((min 1800 ball * 2 ^ s.lcc.div.toNat) ^ 2 - (s.lcc.vmin.toNat * 100) ^ 2) / 2000000) →
    u = { s with lcc := { s.lcc with huv := BitVec.ofNat 11 (min 1800 ball), hue := BitVec.ofNat 32 e }
                 pwr := { s.pwr with vbakMv := min 1800 vbak } } →
    (s.power = .p3 ∨ s.power = .p4 → exec (.holdupSample ball vbak) s = .next s) ∧
    (s.power ≠ .p3 → s.power ≠ .p4 →
      (s.lcc.phase ≠ .sample → exec (.holdupSample ball vbak) s = .next u) ∧
      (s.lcc.phase = .sample → 2400 ≤ (BitVec.ofNat 32 e).toNat →
        exec (.holdupSample ball vbak) s = .next { u with lcc := { u.lcc with phase := .writing } }) ∧
      (s.lcc.phase = .sample → (BitVec.ofNat 32 e).toNat < 2400 →
        exec (.holdupSample ball vbak) s = .next (State.raise
          { u with lcc := { u.lcc with phase := .none, rec2002 := s.lcc.target * 256 + 2, xStatus := 3, xCause := 6, heldHosts := [] } }
          0x0F03 srcFW (p8 s.lcc.target ++ p8 6))))) ∧
  (∀ (a b c d : Word) (s : State), s.clk.heldReset = none →
    (s.lcc.phase ≠ .writing → exec (.fuseWriteDone a b c d) s = .next s) ∧
    (s.lcc.phase = .writing →
      ∃ t, exec (.fuseWriteDone a b c d) s = .next t ∧
        t.lcc = { s.lcc with fuses := t.lcc.fuses, state := decodeFuses t.lcc.fuses, phase := .none, rec2002 := s.lcc.target * 256
                             xStatus := 2, xCause := 0, heldHosts := [] } ∧
        t.lcc.fuses = burnGroup s.lcc.fuses (s.lcc.target - 2) [a, b, c, d] 4 ∧
        (∀ i : Fin 16, i.val / 4 ≠ s.lcc.target - 2 → t.lcc.fuses.get i = s.lcc.fuses.get i) ∧
        s.lastEvent t 0x0F02 srcSYS (p8 t.lcc.state.code) ∧ t = { s with lcc := t.lcc, evl := t.evl }))

/-- R431, R432, R434: a challenge of 32 fresh bytes belongs to the session or to the JTAG path; a response in form, in time and with the right MAC opens the
debug master for its duration with EV 0x0F05, a wrong MAC is counted with EV 0x0F07 and three in 600 s suspend challenges; in every case
the challenge is spent. The open debug master locks by DBG_CTRL and at its time. A provisioning session opens in Maker and Integrator only. -/
def Obligations.DebugUnlock : Prop :=
  (∀ (who : Caller) (x : Session) (s : State), s.dictServed = true → s.readRefused who 0x2003 0 = 0 → s.session who.session = some x →
    (s.dbg.suspended.isSome = true → exec (.debugChallenge who) s = .next (s.answered 8)) ∧
    (∀ s1, s.dbg.suspended = none → s.draw 32 true conChallenge = (none, s1) →
      exec (.debugChallenge who) s = .next (s1.answered 0x06080000)) ∧
    (∀ b s1, s.dbg.suspended = none → s.draw 32 true conChallenge = (some b, s1) →
      ∃ t, exec (.debugChallenge who) s = .next t ∧ t.session who.session = some { x with chal2003 := some (b, s.timeBase.toNat) } ∧
        (∀ j, j ≠ who.session → t.session j = s.session j) ∧ t.net.lastAbort = 0 ∧
        t = { s with net := t.net, rng := s1.rng, free := s1.free, evl := s1.evl })) ∧
  (∀ (who : Caller) (b : Bytes) (x : Session) (s : State), s.allowed who 0x2004 0 b → s.session who.session = some x →
    (s.dbg.suspended.isSome = true →
      exec (.debugResponse who b) s = .next ((s.setSession who.session (some { x with chal2003 := none })).answered 8)) ∧
    (s.dbg.suspended = none → (x.chal2003 = none ∨ ∃ c i, x.chal2003 = some (c, i) ∧ ¬ s.responseOk i b) →
      exec (.debugResponse who b) s = .next ((s.setSession who.session (some { x with chal2003 := none })).answered 6)) ∧
    (∀ c i, s.dbg.suspended = none → x.chal2003 = some (c, i) → s.responseOk i b →
      (s.responseMacOk c b →
        exec (.debugResponse who b) s = .next (((State.raise
          { s with dbg := { s.dbg with open_ := true, until_ := some (s.timeBase.toNat + u32 b 4 * 1000000) } } 0x0F05 srcFW
          (p8 pathDict ++ p32 (u32 b 4))).setSession who.session (some { x with chal2003 := none })).answered 0)) ∧
      (¬ s.responseMacOk c b →
        ∃ t, exec (.debugResponse who b) s = .next t ∧ t.net.lastAbort = 7 ∧ t.dbg.open_ = s.dbg.open_ ∧ t.dbg.until_ = s.dbg.until_ ∧
          t.session who.session = some { x with chal2003 := none } ∧ s.lastEvent t 0x0F07 srcFW (p8 pathDict) ∧
          (t.dbg.suspended.isSome = true ↔ 2 ≤ (s.dbg.mismatches.filter fun u => s.timeBase.toNat < u + 600000000).length) ∧
          t = { s with dbg := t.dbg, net := t.net, evl := t.evl }))) ∧
  (∀ s : State,
    (s.keysOpen = false → exec .dbgLock s = .next (s.jtag .bypass .functional) ∧ exec .dbgChal s = .next (s.jtag .bypass .functional) ∧
      exec .dbgClrSticky s = .next (s.jtag .bypass .functional) ∧ exec .dbgProvOpen s = .next (s.jtag .bypass .functional) ∧
      exec .dbgProvClose s = .next (s.jtag .bypass .functional) ∧
      ∀ v, exec (.dbgResponseSubmit v) s = .next (s.jtag .bypass .functional)) ∧
    (∀ u, s.keysOpen = true → u = s.jtag .dbgreg .functional →
      (s.dbg.open_ = false → exec .dbgLock s = .next u) ∧
      (s.dbg.open_ = true → ∃ t, exec .dbgLock s = .next t ∧ u.locks lockCtrl t) ∧
      exec .dbgClrSticky s = .next { u with dbg := { u.dbg with sticky := false } } ∧
      (s.dbg.suspended.isSome = true → exec .dbgChal s = .next { u with dbg := { u.dbg with result := 3 } }) ∧
      (∀ b s1, s.dbg.suspended = none → s.draw 32 false conChallenge = (some b, s1) →
        exec .dbgChal s = .next { u with
          rng := s1.rng, free := s1.free, evl := s1.evl
          dbg := { u.dbg with chal := some { bytes := b, issued := s.timeBase.toNat }, chalBytes := b } }) ∧
      (s.dbg.open_ = true → s.dbg.prov = false → s.lcc.state = .maker ∨ s.lcc.state = .integrator →
        exec .dbgProvOpen s = .next (State.raise { u with dbg := { u.dbg with prov := true } } 0x0F08 srcFW (p8 1))) ∧
      (s.dbg.open_ = false ∨ s.dbg.prov = true ∨ (s.lcc.state ≠ .maker ∧ s.lcc.state ≠ .integrator) → exec .dbgProvOpen s = .next u) ∧
      (s.dbg.prov = false → exec .dbgProvClose s = .next u) ∧
      (s.dbg.prov = true → exec .dbgProvClose s = .next (State.raise
        { u with dbg := { u.dbg with prov := false }, keys := { u.keys with loadData := [] } } 0x0F08 srcFW (p8 0))) ∧
      (∀ (v : Word) (b : Bytes), b = ((s.dbg.resp.set 9 v).toList.flatMap fun w => p32 w.toNat) → s.dbg.suspended = none →
        (∀ c, s.dbg.chal = some c → s.responseOk c.issued b → s.responseMacOk c.bytes b →
          exec (.dbgResponseSubmit v) s = .next (State.raise
            { u with dbg := { u.dbg with
                resp := s.dbg.resp.set 9 v, open_ := true, until_ := some (s.timeBase.toNat + u32 b 4 * 1000000), result := 0, chal := none } }
            0x0F05 srcFW (p8 pathJtag ++ p32 (u32 b 4)))) ∧
        (s.dbg.chal = none ∨ (∃ c, s.dbg.chal = some c ∧ ¬ s.responseOk c.issued b) →
          exec (.dbgResponseSubmit v) s = .next { u with dbg := { u.dbg with resp := s.dbg.resp.set 9 v, result := 1, chal := none } }) ∧
        (∀ c, s.dbg.chal = some c → s.responseOk c.issued b → ¬ s.responseMacOk c.bytes b →
          ∃ t, exec (.dbgResponseSubmit v) s = .next t ∧ t.dbg.result = 2 ∧ t.dbg.chal = none ∧ t.dbg.open_ = s.dbg.open_ ∧
            s.lastEvent t 0x0F07 srcFW (p8 pathJtag) ∧ t = { s with dbg := t.dbg, evl := t.evl })))) ∧
  (∀ s : State,
    ((∀ i, s.dbg.until_ = some i → s.timeBase.toNat < i) ∨ s.dbg.open_ = false → exec .debugDurationExpiry s = .next s) ∧
    (∀ i, s.dbg.until_ = some i → i ≤ s.timeBase.toNat → s.dbg.open_ = true →
      ∃ t, exec .debugDurationExpiry s = .next t ∧ s.locks lockDuration t) ∧
    (∀ c, s.dbg.chal = some c → c.issued + 300000000 ≤ s.timeBase.toNat →
      exec (.challengeExpiry 0) s = .next { s with dbg := { s.dbg with chal := none } }) ∧
    ((∀ c, s.dbg.chal = some c → s.timeBase.toNat < c.issued + 300000000) → exec (.challengeExpiry 0) s = .next s) ∧
    (∀ k x c i, k ≠ 0 → s.session k = some x → x.chal2003 = some (c, i) → i + 300000000 ≤ s.timeBase.toNat →
      exec (.challengeExpiry k) s = .next (s.setSession k (some { x with chal2003 := none }))) ∧
    (∀ i, s.dbg.suspended = some i → i + 600000000 ≤ s.timeBase.toNat →
      exec .challengeSuspendEnd s = .next { s with dbg := { s.dbg with suspended := none } }) ∧
    ((∀ i, s.dbg.suspended = some i → s.timeBase.toNat < i + 600000000) → exec .challengeSuspendEnd s = .next s))

/-- R429, R430, Table 15.7: EXTEST, CLAMP and HIGHZ hold the pins in the Maker state and select the bypass register in every other; IDCODE gives the part's
code; DBGREG and DBGMEM work in every state but Scrapped and Indeterminate, DBGMEM for an open debug master without a sticky error only.
A reset of the port selects IDCODE and closes a provisioning session. -/
def Obligations.JtagPort : Prop :=
  (∀ s : State,
    exec .samplePreload s = .next (s.jtag .boundary .functional) ∧ exec .bypass s = .next (s.jtag .bypass .functional) ∧
    (s.lcc.state = .maker → exec .extest s = .next (s.jtag .boundary .extest) ∧ exec .clamp s = .next (s.jtag .bypass .clamp) ∧
      exec .highz s = .next (s.jtag .bypass .highz)) ∧
    (s.lcc.state ≠ .maker → exec .extest s = .next (s.jtag .bypass .functional) ∧ exec .clamp s = .next (s.jtag .bypass .functional) ∧
      exec .highz s = .next (s.jtag .bypass .functional)) ∧
    exec .idcode s = .next { s with dbg := { s.dbg with
      ir := .idcode, pins := .functional, data := if s.part = .kr9624 then 0x196249CB else 0x196129CB } } ∧
    (s.dbg.prov = false → exec .tapReset s = .next (s.jtag .idcode .functional)) ∧
    (s.dbg.prov = true → exec .tapReset s = .next (State.raise
      { s with dbg := { s.dbg with ir := .idcode, pins := .functional, prov := false }, keys := { s.keys with loadData := [] } }
      0x0F08 srcFW (p8 0)))) ∧
  (∀ (off : Byte) (a v : Word) (s : State),
    (s.keysOpen = false → ∀ wr, exec (.dbgreg off wr) s = .next (s.jtag .bypass .functional) ∧
      exec (.dbgmem a wr) s = .next (s.jtag .bypass .functional)) ∧
    (s.keysOpen = true →
      (∃ x : Word, exec (.dbgreg off none) s = .next { s with dbg := { s.dbg with ir := .dbgreg, pins := .functional, data := x } } ∧
        (off = 0 → x = BitVec.ofNat 32 (b2n s.dbg.open_ + 2 * b2n s.dbg.prov + 4 * b2n s.dbg.sticky + 8 * b2n s.chalValid +
          16 * s.dbg.result.toNat)) ∧
        (0x20 ≤ off.toNat → off.toNat < 0x40 → x = BitVec.ofNat 32 (u32 s.dbg.chalBytes (off.toNat - 0x20)))) ∧
      (off ≠ 4 → (off.toNat < 0x40 ∨ off.toNat % 4 ≠ 0 ∨ 0x68 ≤ off.toNat) →
        exec (.dbgreg off (some v)) s = .next (s.jtag .dbgreg .functional)) ∧
      (∀ i : Fin 9, off.toNat = 0x40 + 4 * i.val →
        exec (.dbgreg off (some v)) s = .next { s with dbg := { s.dbg with
          ir := .dbgreg, pins := .functional, resp := s.dbg.resp.set i.val v (by omega) } }) ∧
      (s.dbg.open_ = false ∨ s.dbg.sticky = true →
        exec (.dbgmem a none) s = .next { s with dbg := { s.dbg with ir := .dbgmem, pins := .functional, sticky := true, data := 0 } } ∧
        exec (.dbgmem a (some v)) s = .next { s with dbg := { s.dbg with ir := .dbgmem, pins := .functional, sticky := true } }) ∧
      (∀ b, s.dbg.open_ = true → s.dbg.sticky = false → a.toNat < 0x40000000 → s.memRead .debug a.toNat 4 = (some b, s) →
        exec (.dbgmem a none) s = .next { s with dbg := { s.dbg with ir := .dbgmem, pins := .functional, data := BitVec.ofNat 32 (u32 b 0) } }) ∧
      (s.dbg.open_ = true → s.dbg.sticky = false → a.toNat < 0x40000000 → s.refusedPiece .debug a.toNat 4 true = none →
        ∃ t, exec (.dbgmem a (some v)) s = .next t ∧
          t = { s with dbg := { s.dbg with ir := .dbgmem, pins := .functional }, sram := s.sram.writeN 0 a.toNat (p32 v.toNat)
                       evl := { s.evl with sramBad := t.evl.sramBad } })))

/-! ## Start-up, resets and clocks (chapters 16 and 17) -/

/-- R471, R472, Table 17.4: each reset returns the block to its reset values, but for what it keeps, and leaves its cause. A group write under way holds off
the pin and the clock resets, and a supply that fails cuts it, with the words as they read back; when the write is done the held reset follows.
R436 to R446, Table 16.5: the ROM's start clears SRAM, decodes the fuses and excludes the cores that fail. With no core it listens with cause 2; with no
firmware that passes with cause 1; else it hands over, counts NET_BOOT, locks the code region and ends ALERT. -/
def Obligations.ResetsAndRom : Prop :=
  ((∀ (burnt : List Word) (s : State), s.lcc.phase ≠ .writing →
     (∃ t, exec (.powerOnReset burnt) s = .next t ∧ s.isReset 0 t ∧ t.lcc.fuses = s.lcc.fuses) ∧
     (∃ t, exec (.brownOutVdd burnt) s = .next t ∧ s.isReset 1 t ∧ t.lcc.fuses = s.lcc.fuses) ∧
     (∃ t, exec (.brownOutVddio burnt) s = .next t ∧ s.isReset 2 t ∧ t.lcc.fuses = s.lcc.fuses) ∧
     (∃ t, exec .porstPin s = .next t ∧ s.isReset 3 t ∧ t.lcc.fuses = s.lcc.fuses) ∧
     ∀ c : Fin 3, ∃ t, exec (.clockFailure c) s = .next t ∧ s.isReset (4 + c.val) t ∧ t.lcc.fuses = s.lcc.fuses) ∧
   (∀ (burnt : List Word) (s : State), s.lcc.phase = .writing →
     (∃ t, exec (.powerOnReset burnt) s = .next t ∧ s.isReset 0 t ∧ t.lcc.fuses = burnGroup s.lcc.fuses (s.lcc.target - 2) burnt 4) ∧
     (∃ t, exec (.brownOutVdd burnt) s = .next t ∧ s.isReset 1 t ∧ t.lcc.fuses = burnGroup s.lcc.fuses (s.lcc.target - 2) burnt 4) ∧
     (∃ t, exec (.brownOutVddio burnt) s = .next t ∧ s.isReset 2 t ∧ t.lcc.fuses = burnGroup s.lcc.fuses (s.lcc.target - 2) burnt 4) ∧
     exec .porstPin s = .next { s with clk := { s.clk with heldReset := some 3 } } ∧
     ∀ c : Fin 3, exec (.clockFailure c) s = .next { s with clk := { s.clk with heldReset := some (4 + c.val) } }) ∧
   (∀ (a b c d : Word) (cause : Nat) (s : State), s.lcc.phase = .writing → s.clk.heldReset = some cause →
     ∃ t u : State, exec (.fuseWriteDone a b c d) s = .next t ∧ u.lcc.fuses = burnGroup s.lcc.fuses (s.lcc.target - 2) [a, b, c, d] 4 ∧
       u = { s with lcc := u.lcc, evl := u.evl } ∧ u.isReset cause t ∧ t.lcc.fuses = u.lcc.fuses)) ∧
  (∀ (c : ColdStart) (s : State),
     (s.sys.inRom = false ∨ s.sys.listen ≠ 0 → exec (.romColdStart c) s = .next s) ∧
     (s.sys.inRom = true → s.sys.listen = 0 →
       ∃ t, exec (.romColdStart c) s = .next t ∧ t.lcc = { s.lcc with state := decodeFuses s.lcc.fuses } ∧ t.evl.sramBad = [] ∧
         t.clk.coreLock = true ∧ t.clk.chLock = true ∧ t.clk.netLock = true ∧ t.clk.refOk = true ∧ t.keys = s.keys ∧ t.plc.flash = s.plc.flash ∧
         ((∀ k, k < 16 → s.dgc.excluded.getLsbD k = true ∨ (k ∈ c.kat.map Prod.fst ∧ s.dgc.ok.getLsbD k = false)) →
           t.sys.inRom = true ∧ t.sys.listen = 2 ∧ t.sram = [] ∧ s.lastEvent t 0x0B05 srcROM (p8 2)) ∧
         (¬ (∀ k, k < 16 → s.dgc.excluded.getLsbD k = true ∨ (k ∈ c.kat.map Prod.fst ∧ s.dgc.ok.getLsbD k = false)) →
           (t.sys.inRom = true ∧ t.sys.listen = 1 ∧ t.sram = [] ∧ t.netBoot = s.netBoot) ∨
           (t.sys.inRom = false ∧ t.sys.listen = 0 ∧ t.netBoot = (if s.netBoot = BitVec.allOnes 32 then s.netBoot else s.netBoot + 1) ∧
             t.hcs.alertBoot = false ∧ t.clk.rstCause = 0 ∧ t.evl.scanning = false ∧
             (s.sys.kind = 0 → (t.gates.get 1).regions.get 7 = { base := 0x10000000, en := true, lock := true, size := 22, srd := 0xC0, perm := 1 } ∧
               (t.lcc.state = .maker ∨ t.lcc.state = .integrator → t.dbg.open_ = true))))))

/-- R446, R447, R452 to R455: SYS_RESTART restarts the processor once, READY ends the restart, SYS_WDT takes its time while it is off and is kicked, and
each watchdog that expires logs EV 0x0B07 and restarts with its kind. Here no Trial is in force, so the ROM's Trial rules take no part. -/
def Obligations.Restarts : Prop :=
  ∀ s : State,
    (∀ roll, s.sys.inRom = true → exec (.sysRestartWarm roll) s = .next s) ∧
    (∀ roll, s.sys.inRom = false → s.upd.inTrial = false → ∃ t, exec (.sysRestartWarm roll) s = .next t ∧ s.restarted 1 t) ∧
    (s.sys.inRom = true ∨ s.restarting = false → exec .sysRestartReady s = .next s) ∧
    (s.sys.inRom = false → s.restarting = true →
      ∃ t, exec .sysRestartReady s = .next t ∧ t = { s with restarting := false, img := t.img } ∧
        ∀ h, t.imgOf h = { s.imgOf h with deadlinePaused := false }) ∧
    (∀ v : Word, ∃ t, exec (.wdtEnable v) s = .next t ∧ t = { s with sys := t.sys } ∧
      t.sys = { s.sys with wdtMs := t.sys.wdtMs, wdtEn := true, wdtKicked := t.sys.wdtKicked } ∧
      t.sys.wdtMs = (if s.sys.wdtEn = true ∨ v.toNat % 65536 = 0 then s.sys.wdtMs else BitVec.ofNat 16 v.toNat) ∧
      t.sys.wdtKicked = (if s.sys.wdtEn = true ∧ v.getLsbD 17 = false then s.sys.wdtKicked else s.timeBase.toNat)) ∧
    exec .wdtKick s = .next { s with sys := { s.sys with wdtKicked := s.timeBase.toNat } } ∧
    (s.sys.wdtEn = false ∨ s.sys.inRom = true ∨ s.timeBase.toNat < s.sys.wdtKicked + s.sys.wdtMs.toNat * 1000 → exec .wdtExpiry s = .next s) ∧
    (s.sys.wdtEn = true → s.sys.inRom = false → s.sys.wdtKicked + s.sys.wdtMs.toNat * 1000 ≤ s.timeBase.toNat → s.upd.inTrial = false →
      ∃ t, exec .wdtExpiry s = .next t ∧ s.restarted 2 t) ∧
    (∀ i, s.sys.cwdt = some i → s.sys.inRom = false → i ≤ s.timeBase.toNat → s.upd.inTrial = false →
      ∃ t, exec .cwdtExpiry s = .next t ∧ s.restarted 3 t ∧ t.sys.cwdt = none) ∧
    (s.sys.inRom = true ∨ s.sys.cwdt = none ∨ (∃ i, s.sys.cwdt = some i ∧ s.timeBase.toNat < i) → exec .cwdtExpiry s = .next s) ∧
    exec (.cwdtOff 0x434F4E46) s = .next { s with sys := { s.sys with cwdt := none } } ∧
    (∀ v, v ≠ 0x434F4E46 → exec (.cwdtOff v) s = .next s)

/-- R449 to R451: in recovery listen a bundle is taken piece by piece into SRAM, refused where tampering, the supply or the lock forbid it; its checks end with
EV 0x0B06; ACTIVATE starts a staged one, and DISCARD drops it. SYS_RLOAD, for the debug master in a provisioning session, checks a bundle
that lies in SRAM at once. -/
def Obligations.RecoveryListen : Prop :=
  (∀ (who : Caller) (b : Bytes) (s : State), s.allowed who 0x2801 0 b → s.sys.listen ≠ 0 →
    (b.length < 4 → exec (.bundlePiece who b) s = .next (s.answered 0x08000001)) ∧
    (4 ≤ b.length → u32 b 0 = 0 → s.refusals ≠ 0 →
      exec (.bundlePiece who b) s = .next ((s.raise 0x0802 srcROM (p8 s.refusals)).answered 0x08000002)) ∧
    (4 ≤ b.length → u32 b 0 = 0 → s.refusals = 0 → s.firstPieceFailed (b.drop 4) 8388608 true = 0 →
      pieceFit (b.drop 4).length (b.drop 4).length (bundleLenOf (b.drop 4)) = 0 →
      ∃ t, exec (.bundlePiece who b) s = .next t ∧ t.net.lastAbort = 0 ∧ t.sram = s.sram.writeN 0 0x10400000 (b.drop 4) ∧
        t.sys = { s.sys with rLen := bundleLenOf (b.drop 4), rResume := (b.drop 4).length
                             rState := if (b.drop 4).length = bundleLenOf (b.drop 4) then .checking else .receiving } ∧
        s.lastEvent t 0x0801 srcROM (bundleId (b.drop 4) ++ p32 (bundleLenOf (b.drop 4)))) ∧
    (4 ≤ b.length → u32 b 0 ≠ 0 → s.sys.rState ≠ .receiving ∨ u32 b 0 ≠ s.sys.rResume →
      exec (.bundlePiece who b) s = .next (s.answered 0x08000001)) ∧
    (4 ≤ b.length → u32 b 0 ≠ 0 → s.sys.rState = .receiving → u32 b 0 = s.sys.rResume →
      (pieceFit (b.drop 4).length (u32 b 0 + (b.drop 4).length) s.sys.rLen = 0 →
        ∃ t, exec (.bundlePiece who b) s = .next t ∧ t.net.lastAbort = 0 ∧ t.sram = s.sram.writeN 0 (0x10400000 + u32 b 0) (b.drop 4) ∧
          t.sys = { s.sys with rResume := u32 b 0 + (b.drop 4).length
                               rState := if u32 b 0 + (b.drop 4).length = s.sys.rLen then .checking else .receiving }) ∧
      (∀ n, n = pieceFit (b.drop 4).length (u32 b 0 + (b.drop 4).length) s.sys.rLen → n ≠ 0 →
        exec (.bundlePiece who b) s = .next (s.answered n)))) ∧
  (∀ (e : Option Nat) (s : State), s.sys.listen ≠ 0 →
    (s.sys.rState ≠ .checking → exec (.checkingComplete e) s = .next s) ∧
    (s.sys.rState = .checking →
      ∃ t, exec (.checkingComplete e) s = .next t ∧ t = { s with sys := t.sys, evl := t.evl } ∧
        s.lastEvent t 0x0B06 srcROM (p8 (s.recoveryOutcome s.rBundle)) ∧
        t.sys = if s.recoveryOutcome s.rBundle = 1 then { s.sys with rState := .staged, rOutcome := 1 }
          else { s.sys with rState := .idle, rOutcome := s.recoveryOutcome s.rBundle, rLen := 0, rResume := 0 })) ∧
  (∀ (who : Caller) (s : State),
    (s.allowed who 0x2802 1 [2] → s.sys.listen ≠ 0 →
      (s.sys.rState = .idle → ∃ t, exec (.discard who) s = .next t ∧ t.sys = { s.sys with rOutcome := ocBusy } ∧ t = { s.answered 0 with sys := t.sys }) ∧
      (s.sys.rState ≠ .idle → ∃ t, exec (.discard who) s = .next t ∧ t = { s.answered 0 with sys := t.sys } ∧
        t.sys = { s.sys with rState := .idle, rOutcome := ocDiscarded, rLen := 0, rResume := 0 })) ∧
    (s.allowed who 0x2802 1 [3] → s.sys.listen ≠ 0 → exec (.abandon who) s = .next (s.answered 0x06090030)) ∧
    (s.sys.listen ≠ 0 → exec (.activate who) s = .next s) ∧ (s.sys.listen = 0 → exec (.recoveryActivate who) s = .next s) ∧
    (s.allowed who 0x2802 1 [1] → s.sys.listen ≠ 0 →
      (s.sys.rState ≠ .staged → exec (.recoveryActivate who) s = .next { s.answered 0 with sys := { s.sys with rOutcome := ocBusy } }) ∧
      (s.sys.rState = .staged → s.refusals ≠ 0 →
        exec (.recoveryActivate who) s = .next { s.answered 0 with sys := { s.sys with rOutcome := ocRefusedState } }) ∧
      (s.sys.rState = .staged → s.refusals = 0 → s.recoveryWhole →
        ∃ t, exec (.recoveryActivate who) s = .next t ∧ s.recovered t))) ∧
  (∀ (m : Master) (v : Word) (n : Nat) (u s : State), s.reaches m 0x40000018 → n = v.toNat % 2 ^ 24 →
    u = { s with sys := { s.sys with rLen := n, rResume := n } } →
    (¬ (m = .debug ∧ s.dbg.prov = true ∧ (s.lcc.state = .maker ∨ s.lcc.state = .integrator) ∧ s.sys.listen ≠ 0) →
      exec (.sysRload m v) s = .next s) ∧
    (m = .debug → s.dbg.prov = true → (s.lcc.state = .maker ∨ s.lcc.state = .integrator) → s.sys.listen ≠ 0 →
      (8388608 < n ∨ bundleLenOf u.rBundle ≠ n ∨ u.firstPieceFailed u.rBundle 8388608 true ≠ 0 →
        ∃ t, exec (.sysRload m v) s = .next t ∧ t = { s with sys := t.sys, evl := t.evl } ∧ t.sys.rState = .idle ∧ t.sys.rOutcome = 3 ∧
          t.sys.rstatOutcome = 3 ∧ s.lastEvent t 0x0B06 srcROM (p8 3)) ∧
      (n ≤ 8388608 → bundleLenOf u.rBundle = n → u.firstPieceFailed u.rBundle 8388608 true = 0 → u.recoveryOutcome u.rBundle = 1 →
        s.refusals = 0 → u.recoveryWhole → ∃ t, exec (.sysRload m v) s = .next t ∧ s.recovered t)))

/-- R459 to R461, R470, R476: a loss of PLL_NET is counted and logged and stops the network ports; RELOCK and lock follow. A crystal that failed stays failed.
UTC takes both words at once, all ones as none. The floor of the time base is saved every minute while VDD holds.
R352, R474, R520: a word write is taken when none is in progress, and held while VDD is low; a second one is rejected. It ends with the word whole, or
with the old word and VFAIL; a held one does not end before VDD is back. -/
def Obligations.ClocksAndNvWords : Prop :=
  (∀ s : State,
     (s.clk.netLock = false → exec .pllNetLoss s = .next s) ∧
     (s.clk.netLock = true →
       ∃ t, exec .pllNetLoss s = .next t ∧ t.clk = { s.clk with netLock := false, netLoss := s.clk.netLoss.inc } ∧
         (∀ k, t.net.ports.get k = { s.net.ports.get k with stale := true }) ∧
         s.lastEvent t 0x0C02 srcFW (p8 0 ++ p32 s.clk.netLoss.inc.word.toNat) ∧
         t = { s with clk := t.clk, net := { s.net with ports := t.net.ports }, evl := t.evl }) ∧
     exec .clkNetpllRelock s = .next { s with clk := { s.clk with netLock := false } } ∧
     (s.clk.netLock = true ∨ s.power = .p4 → exec .pllNetRelocked s = .next s) ∧
     (s.clk.netLock = false → s.power ≠ .p4 → exec .pllNetRelocked s = .next (State.raise
       { s with clk := { s.clk with netLock := true } } 0x0C02 srcFW (p8 1 ++ p32 s.clk.netLoss.word.toNat))) ∧
     (s.clk.x32Fail = true ∨ s.clk.x32Ok = false → exec .x32Fail s = .next s) ∧
     (s.clk.x32Fail = false → s.clk.x32Ok = true →
       exec .x32Fail s = .next (State.raise { s with clk := { s.clk with x32Fail := true, x32Ok := false } } 0x0C05 srcFW [])) ∧
     (s.clk.x32Fail = true → exec .x32Ok s = .next s) ∧
     (s.clk.x32Fail = false → exec .x32Ok s = .next { s with clk := { s.clk with x32Ok := true } }) ∧
     (∀ v : Word, exec (.clkUtcSet v) s = .next
       { s with utc := if v.toNat * 2 ^ 32 + s.clk.utcSetLo.toNat = 2 ^ 64 - 1 then none
                       else some (BitVec.ofNat 64 (v.toNat * 2 ^ 32 + s.clk.utcSetLo.toNat)) }) ∧
     (s.fwRuns = false ∨ s.vddWarn = true → exec .timeBaseFloorSave s = .next s) ∧
     (s.fwRuns = true → s.vddWarn = false →
       exec .timeBaseFloorSave s = .next { s with clk := { s.clk with floor := s.timeBase, floorSaves := s.clk.floorSaves + 1 } })) ∧
  (∀ s : State,
     exec .vddWarn s = .next { s with vddWarn := true } ∧
     (∃ t, exec .vddWarnClear s = .next t ∧ t = { s with vddWarn := false, nvc := t.nvc } ∧ (s.nvc.write = none → t.nvc = s.nvc) ∧
       (∀ w, s.nvc.write = some w → t.nvc = { s.nvc with write := some { w with held := false } })) ∧
     (s.nvc.write.isSome = true → exec .nvcWrite s = .next { s with nvc := { s.nvc with reject := true } }) ∧
     (s.nvc.write = none →
       exec .nvcWrite s = .next { s with
         nvc := { s.nvc with write := some { offset := s.nvc.addr.toNat / 4 * 4, value := s.nvc.wdata, held := s.vddWarn } } }) ∧
     (∀ ok, s.nvc.write = none → exec (.nvWordWriteDone ok) s = .next s) ∧
     (∀ ok w, s.nvc.write = some w → w.held = true → exec (.nvWordWriteDone ok) s = .next s) ∧
     (∀ w, s.nvc.write = some w → w.held = false →
       exec (.nvWordWriteDone false) s = .next { s with nvc := { s.nvc with write := none, vfail := true } } ∧
       ∃ t, exec (.nvWordWriteDone true) s = .next t ∧ t = { s with nv := t.nv, nvc := { s.nvc with write := none } } ∧
         ∀ a, t.nv.read 0 a = if 0x20000000 + w.offset ≤ a ∧ a < 0x20000000 + w.offset + 4 then (p32 w.value.toNat).getD (a - (0x20000000 + w.offset)) 0
           else s.nv.read 0 a))

/-! ## Gates and registers (chapter 14, R8 to R10) -/

/-- R404, R407 to R410, Table 14.3: a register write that the gates refuse has no effect but its violation record, and none at all from a debug port that may
not act. GATE_CLR clears a gate's record; a region register is written where the region is not locked, its base and its permissions
only while it is off, and LOCK stays set. An address of no gate is refused with rule 0xB, and a host reaches no address. -/
def Obligations.Gates : Prop :=
  (∀ (i : Instr) (m : Master) (a : Nat) (revoke : Bool) (s : State), gatedWrite i = some (m, a, revoke) →
    (m = .debug → s.dbg.open_ = false ∨ s.dbg.sticky = true → exec i s = .next { s with dbg := { s.dbg with sticky := true } }) ∧
    (∀ r, s.debugStopped m = false → s.judge m a true s.lists revoke = some r → ∃ t, exec i s = .next t ∧ s.refused m a 1 r t)) ∧
  (∀ (m : Master) (g : Fin 22) (s : State), s.reaches m (0x40040018 + g.val * 0x400) →
    exec (.gateClr m g) s = .next { s with gates := s.gates.set g { s.gates.get g with valid := false, vcount := {} } }) ∧
  (∀ (m : Master) (g : Fin 21) (g' : Fin 22) (k : Fin 8) (r : Fin 3) (v : Word) (x : Region) (s : State), g'.val = g.val →
    x = (s.gates.get g').regions.get k →
    (x.lock = true → s.debugStopped m = false →
      ∃ t, exec (.gateRegionWrite m g k r v) s = .next t ∧ s.refused m (0x40040100 + g.val * 0x400 + 0x10 * k.val + 4 * r.val) 1 0xA t) ∧
    (x.lock = false → s.reaches m (0x40040100 + g.val * 0x400 + 0x10 * k.val + 4 * r.val) →
      ∃ y : Region, exec (.gateRegionWrite m g k r v) s = .next
        { s with gates := s.gates.set g' { s.gates.get g' with regions := (s.gates.get g').regions.set k y } } ∧
        (r = 0 → y = if x.en then x else { x with base := v &&& 0xFFFFFFE0 }) ∧
        (r = 1 → y = { x with en := v.getLsbD 0, lock := v.getLsbD 1, size := (v >>> 8).setWidth 5, srd := (v >>> 16).setWidth 8 }) ∧
        (r = 2 → y = if x.en then x else { x with perm := v.setWidth 6 }))) ∧
  (∀ (m : Master) (a : Nat) (write revoke : Bool) (h : Host24) (s : State),
    (gateOf a = none → s.judge m a write s.lists revoke = some 0xB) ∧
    (gateOf a ≠ none → s.judge (.host h) a write s.lists revoke = some 0x8 ∨ s.judge (.host h) a write s.lists revoke = some 0xA) ∧
    (gateOf a = some 0 ∨ gateOf a = some 5 → s.judge m a true s.lists revoke = some 0xA) ∧
    (gateOf a = some 10 → s.dbg.prov = false → s.judge .debug a write s.lists revoke = some 0xA))

/-- R8, R9, R401, R402, R405: a master's write of a register has the effect of the register: of a command where the register gives one, of its fields else, and
none on a read-only register. A host reaches its own window; a write outside the words of it, or that its Timetable denies, is a
violation at gate 21 and sets HPC_STAT.DENIED. A write below the registers goes to memory. -/
def Obligations.RegisterWrites : Prop :=
  (∀ (m : Master) (a v : Word) (s : State), (∀ h, m ≠ .host h) →
    (m = .debug → s.dbg.open_ = false ∨ s.dbg.sticky = true →
      exec (.writeRegister m a v) s = .next { s with dbg := { s.dbg with sticky := true } }) ∧
    (∀ r, s.debugStopped m = false → 0x40000000 ≤ a.toNat → a.toNat / 4 * 4 ≠ 0x40060010 → s.judge m a.toNat true s.lists false = some r →
      ∃ t, exec (.writeRegister m a v) s = .next t ∧ s.refused m a.toNat 1 r t) ∧
    (s.debugStopped m = false → a.toNat < 0x40000000 → s.refusedPiece m a.toNat 4 true = none →
      ∃ t, exec (.writeRegister m a v) s = .next t ∧
        t = { s with sram := s.sram.writeN 0 a.toNat (p32 v.toNat), evl := { s.evl with sramBad := t.evl.sramBad } }) ∧
    (s.reaches m a.toNat →
      (a = 0x40500000 → exec (.writeRegister m a v) s = exec (.hcsPwrenWrite v) s) ∧
      (a = 0x40500004 → exec (.writeRegister m a v) s = exec (.hcsRunWrite v) s) ∧
      (a = 0x40500008 → exec (.writeRegister m a v) s = exec (.hcsEgrWrite v) s) ∧
      (a = 0x40300004 → exec (.writeRegister m a v) s = exec (.ttbReadyWrite v) s) ∧
      (a = 0x40300008 → exec (.writeRegister m a v) s = exec (.ttbCommit v) s) ∧
      (a = 0x40050030 → exec (.writeRegister m a v) s = exec (.evlRaise v) s) ∧
      (a = 0x4001001C → exec (.writeRegister m a v) s = exec (.clkUtcSet v) s) ∧
      (a = 0x400D0018 → exec (.writeRegister m a v) s = exec (.plcDiscardWrite v) s) ∧
      (a = 0x40000014 → exec (.writeRegister m a v) s = exec (.cwdtOff v) s) ∧
      (a = 0x400E000C → v.getLsbD 0 = true → exec (.writeRegister m a v) s = exec .nvcWrite s) ∧
      (a = 0x40010004 → exec (.writeRegister m a v) s = .next
        { s with clk := { s.clk with rstCause := s.clk.rstCause &&& ~~~(v.setWidth 7) } }) ∧
      (a = 0x40010018 → exec (.writeRegister m a v) s = .next { s with clk := { s.clk with utcSetLo := v } }) ∧
      (a = 0x40070004 → exec (.writeRegister m a v) s = .next { s with ctr := { s.ctr with arg := v } }) ∧
      (a = 0x400E0008 → exec (.writeRegister m a v) s = .next { s with nvc := { s.nvc with wdata := v } }) ∧
      (a = 0x4050000C → exec (.writeRegister m a v) s = .next { s with hcs := { s.hcs with hold := s.hcs.hold &&& ~~~(v.setWidth 24) } }) ∧
      (a = 0x40500014 → exec (.writeRegister m a v) s = .next { s with hcs := { s.hcs with alertFw := v.getLsbD 0 } }) ∧
      (a = 0x4060000C → exec (.writeRegister m a v) s = .next { s with tmp := { s.tmp with latch := s.tmp.latch &&& ~~~(v.setWidth 8) } }) ∧
      (a = 0x40000000 ∨ a = 0x40010000 ∨ a = 0x40020000 ∨ a = 0x40030000 ∨ a = 0x40050000 → exec (.writeRegister m a v) s = .next s))) ∧
  (∀ (h : Host24) (a v : Word) (s : State),
    (s.decodes h = true → s.hpwAllowed h a.toNat = true →
      (a = 0x08 → exec (.writeRegister (.host h) a v) s = exec (.hpwLtvWrite h v) s) ∧
      (a = 0x0C → exec (.writeRegister (.host h) a v) s = exec (.hpwHealthWrite h v) s) ∧
      (a = 0x10 → exec (.writeRegister (.host h) a v) s = exec (.hpwAttnWrite h v) s) ∧
      (a = 0x28 → exec (.writeRegister (.host h) a v) s = exec (.hpwStatClear h v) s) ∧
      (a = 0x44 → exec (.writeRegister (.host h) a v) s = exec (.hpwMbGo h v) s) ∧
      (a = 0x40 → exec (.writeRegister (.host h) a v) s = .next (s.putHpw h { (s.port h).hpw with mbCmd := v &&& 0xFF07FFFF })) ∧
      (0x100 ≤ a.toNat → a.toNat < 0x500 → a.toNat % 4 = 0 → exec (.writeRegister (.host h) a v) s = .next
        (s.putHpw h { (s.port h).hpw with mbReq := (s.port h).hpw.mbReq.writeN 0 (a.toNat - 0x100) (p32 v.toNat) }))) ∧
    (a.toNat % 4 ≠ 0 ∨ 0x1000 ≤ a.toNat ∨ s.hpwAllowed h a.toNat = false → (s.gates.get 21).valid = false →
      ∃ t, exec (.writeRegister (.host h) a v) s = .next t ∧ t.port h = { s.port h with stat := (s.port h).stat ||| 0x080 } ∧
        (∀ k, k ≠ h → t.port k = s.port k) ∧ (t.gates.get 21).valid = true ∧ (t.gates.get 21).firstAddr = a ∧ (t.gates.get 21).rule = 0xA ∧
        s.lastEvent t 0x0E01 srcGATE (p8 21 ++ p32 a.toNat ++ p8 h.val ++ p8 1 ++ p8 0xA) ∧
        t = { s with ports := t.ports, gates := t.gates, evl := t.evl }))

/-! ## Events and the SRAM patrol (chapter 18) -/

/-- R480, R481, R483 to R488: an event is queued with its time, or counted as dropped where the queue is full; EVL_RAISE with too long a parameter list does
nothing. The first queued event becomes the next record of the ring, in place of the oldest where it is full, and a security record joins
the archive. The patrol counts what it corrects, and a word it cannot correct is logged and has its consequence. -/
def Obligations.Events : Prop :=
  (∀ (v : Word) (n : Nat) (s : State), n = v.toNat / 65536 % 32 →
    (16 < n → exec (.evlRaise v) s = .next s) ∧
    (∀ ev e, n ≤ 16 → ev = { code := v.toNat % 65536, source := 0, params := (s.evl.raiseP.toList.flatMap fun w => p32 w.toNat).take n
                             tb := s.timeBase, boot := s.netBoot : Event } → e = s.evl.atSecond (s.timeBase.toNat / 1000000) →
      (s.evl.queue.length < 256 → s.evl.dropped = 0 → countOf e.counts (v.toNat % 65536) < 64 →
        exec (.evlRaise v) s = .next { s with evl := { e with queue := s.evl.queue ++ [ev], counts := bumpCount e.counts (v.toNat % 65536) } }) ∧
      (256 ≤ s.evl.queue.length → exec (.evlRaise v) s = .next
        { s with evl := { e with drop := s.evl.drop.inc, dropped := s.evl.dropped + 1 } }))) ∧
  (∀ s : State,
    (s.evl.queue = [] ∨ s.evl.scanning = true ∨ s.vddWarn = true → exec .eventRecordWritten s = .next s) ∧
    (∀ ev rest, s.evl.queue = ev :: rest → s.evl.scanning = false → s.vddWarn = false →
      ∃ t, exec .eventRecordWritten s = .next t ∧ t = { s with evl := t.evl, arc := t.arc } ∧ t.evl.nextSeq = s.evl.nextSeq + 1 ∧
        t.evl.ring = (if 10240 ≤ s.evl.ring.length then s.evl.ring.tail else s.evl.ring) ++ [{ seq := s.evl.nextSeq, ev := ev }] ∧
        t.evl.overwr = (if 10240 ≤ s.evl.ring.length then s.evl.overwr.inc else s.evl.overwr) ∧
        (isSecurity ev.code = false ∨ s.arc.created = false ∨ s.lcSeals = false → t.evl.queue = rest ∧ t.arc = s.arc) ∧
        (isSecurity ev.code = true → s.arc.created = true → s.lcSeals = true → 64 ≤ s.arc.eventCount →
          t.arc = { s.arc with refcnt := s.arc.refcnt.inc } ∧ t.evl.queue = rest))) ∧
  (∀ (corrected o : Nat) (unc : Option Nat) (s : State),
    (s.power = .p3 ∨ s.power = .p4 → exec (.sramPatrol corrected unc) s = .next s) ∧
    (s.power ≠ .p3 → s.power ≠ .p4 →
      exec (.sramPatrol corrected none) s = .next
        { s with evl := { s.evl with sramCorr := (List.range corrected).foldl (fun c _ => c.inc) s.evl.sramCorr } } ∧
      (o < 0xC00000 → 0xB80000 ≤ o → s.net.transfers = [] →
        ∃ u, exec (.sramPatrol corrected (some o)) s = .next { u with free := s.free + 1 } ∧ s.patrolHit corrected o u) ∧
      (0xFC0000 ≤ o → o < 0x1000000 → ∃ u, exec (.sramPatrol corrected (some o)) s = .next u ∧ s.patrolHit corrected o u) ∧
      (∀ h : Host24, 0x400000 ≤ o → o < 0x700000 → h.val = (o - 0x400000) / 0x20000 →
        ∃ t u, exec (.sramPatrol corrected (some o)) s = .next t ∧ s.patrolHit corrected o u ∧
          t.plc.xepoch.get h = s.plc.xepoch.get h + 1 ∧ (t.port h).prefetch = none ∧ (∀ k, k ≠ h → t.port k = s.port k) ∧
          t = { u with ports := t.ports, plc := { s.plc with xepoch := t.plc.xepoch } }) ∧
      (o < 0x400000 → s.fwRuns = true → s.upd.inTrial = false →
        ∃ t, exec (.sramPatrol corrected (some o)) s = .next t ∧ s.restarted 1 t)))

/-! ## Sidebands and tamper inputs (chapter 19) -/

/-- R503, R508, R509, Table 19.7: a host's power bit that falls takes its run and egress bits with it and keeps the pad high for a millisecond; run rises only for
a host that is powered and has no power-down pending, and egress only for one that runs; RST_N that falls resets the port. An input that
becomes active is latched, logged and wakes; TMP_CFG is written in a provisioning session only. -/
def Obligations.Sidebands : Prop :=
  (∀ (v : Word) (new off : BitVec 24) (s : State), new = v.setWidth 24 &&& s.maskBits → off = s.hcs.pwren &&& ~~~new →
    ∃ t, exec (.hcsPwrenWrite v) s = .next t ∧
      t.hcs = { s.hcs with pwren := new, run := s.hcs.run &&& ~~~off, egr := s.hcs.egr &&& ~~~off, pend := s.hcs.pend ||| off } ∧
      s.resetsPorts t (s.hcs.run &&& off) ∧ t = { s with hcs := t.hcs, ports := t.ports, tt := t.tt, plc := { s.plc with
        extents := t.plc.extents, xepoch := t.plc.xepoch, registry := t.plc.registry } }) ∧
  (∀ (v : Word) (new off : BitVec 24) (s : State),
    new = v.setWidth 24 &&& s.maskBits &&& (s.hcs.run ||| (s.hcs.pwren &&& ~~~s.hcs.pend)) → off = s.hcs.run &&& ~~~new →
    ∃ t, exec (.hcsRunWrite v) s = .next t ∧ t.hcs = { s.hcs with run := new, egr := s.hcs.egr &&& ~~~off } ∧ s.resetsPorts t off ∧
      t = { s with hcs := t.hcs, ports := t.ports, tt := t.tt, plc := { s.plc with
        extents := t.plc.extents, xepoch := t.plc.xepoch, registry := t.plc.registry } }) ∧
  (∀ (v : Word) (h : Host24) (s : State),
    exec (.hcsEgrWrite v) s = .next { s with hcs := { s.hcs with egr := v.setWidth 24 &&& s.maskBits &&& (s.hcs.egr ||| s.hcs.run) } } ∧
    exec (.hcsPendExpiry h) s = .next { s with hcs := { s.hcs with pend := s.hcs.pend &&& ~~~BitVec.ofNat 24 (2 ^ h.val) } }) ∧
  (∀ (k : Fin 8) (high : Bool) (x : Tmp) (s : State),
    x = { s.tmp with level := if high then s.tmp.level ||| BitVec.ofNat 8 (2 ^ k.val) else s.tmp.level &&& ~~~BitVec.ofNat 8 (2 ^ k.val) } →
    (x.active k.val = s.tmp.active k.val → exec (.tamperChange k high) s = .next { s with tmp := x }) ∧
    (x.active k.val ≠ s.tmp.active k.val →
      ∃ t u, exec (.tamperChange k high) s = .next t ∧
        u = State.raise { s with tmp := { x with latch := if x.active k.val then s.tmp.latch ||| BitVec.ofNat 8 (2 ^ k.val) else s.tmp.latch } }
          (if x.active k.val then 0x1001 else 0x1002) srcFW (p8 k.val ++ p64 s.timeBase.toNat) ∧
        (s.power = .p0 ∨ s.power = .p1 ∨ s.power = .p2 → t = u) ∧ (s.power = .p3 ∨ s.power = .p4 → u.wakes 3 k.val t))) ∧
  (∀ (m : Master) (v : Word) (s : State), s.reaches m 0x40600000 →
    (s.dbg.prov = false → exec (.tmpCfgWrite m v) s = .next s) ∧
    (s.dbg.prov = true →
      ∃ t, exec (.tmpCfgWrite m v) s = .next t ∧ t.tmp.cfg = v ∧ t.tmp.level = s.tmp.level ∧
        (∀ k : Fin 8, t.tmp.latch.getLsbD k.val = (s.tmp.latch.getLsbD k.val || (t.tmp.active k.val && !s.tmp.active k.val))) ∧
        t = { s with tmp := t.tmp, evl := t.evl, power := t.power, pwr := t.pwr, dgc := t.dgc } ∧
        ((∀ k : Fin 8, t.tmp.active k.val = s.tmp.active k.val) → t = { s with tmp := t.tmp })))

/-! ## Reset and the invariant -/

/-- R461, R471, R503, Table 1.7: right after power-on no command waits, every host is Off with its sidebands low and ALERT up, no frame is in service, the processor
is in its ROM, the debug master is locked, no session is open, no gate has a region on or a violation, no counter has a value, and the time
base is one minute past a floor of zero. The keys of slots 62 and 63 and the Integrator state are those of a shipped unit, and registers
without a reset value hold the values of log entry 3 (the model's choice). -/
def Obligations.ResetState : Prop :=
  State.reset.pending = [] ∧ State.reset.power = .p0 ∧ State.reset.timeBase = 60000000 ∧ State.reset.utc = none ∧ State.reset.clk.rstCause = 1 ∧
  (∀ h, (State.reset.imgOf h).state = .off ∧ State.reset.sides h = levels .off ∧ (State.reset.port h).frame = none ∧
    (State.reset.port h).wel = false ∧ (State.reset.port h).cmd = .s1) ∧
  State.reset.hcs.alertBoot = true ∧ State.reset.sys.inRom = true ∧ State.reset.sys.listen = 0 ∧ State.reset.sys.wdtEn = false ∧
  State.reset.dbg.open_ = false ∧ State.reset.dbg.prov = false ∧ (∀ k, State.reset.session k = none) ∧
  (∀ g k, ((State.reset.gates.get g).regions.get k).en = false ∧ (State.reset.gates.get g).valid = false) ∧
  (∀ k, State.reset.counter k = 0) ∧ State.reset.arc.created = false ∧ State.reset.evl.queue = [] ∧ State.reset.evl.ring = [] ∧
  State.reset.lcc.state = decodeFuses State.reset.lcc.fuses ∧ State.reset.lcc.state = .integrator ∧
  (∀ k, (State.reset.slot k).state = if k = 62 ∨ k = 63 then 1 else 0) ∧ State.reset.sram = [] ∧ State.reset.nv = [] ∧ State.reset.plc.flash = []

/-- The reset state meets the invariant. -/
def Obligations.InvAtReset : Prop := State.reset.Inv

/-- R503, R352 and the model's memories: from every state in which the sidebands agree (no egress without run, no run without power or with a power-down pending)
and internal SRAM, the NV store and flash are in canonical form, every step leads to such a state. -/
def Obligations.StepKeepsInv : Prop := ∀ s t : State, s.Inv → step s = .next t → t.Inv

end Statements
end

