-- ==== Sys2Proof/Laws/State.lean ====
section
/-! SUPPORT. What each update of the state does to each of its fields, and the vectors that hold a value per port or channel. -/
namespace Sys2Proof.Machine

theorem vget_eq {α : Type} {n : Nat} (v : Vector α n) (i : Fin n) : v.get i = v[i.val] := rfl

@[simp] theorem updV_get_self {α : Type} {n : Nat} (v : Vector α n) (i : Fin n) (f : α → α) : (updV v i f).get i = f (v.get i) := by
  simp [updV, vget_eq]

theorem updV_get_ne {α : Type} {n : Nat} (v : Vector α n) {i j : Fin n} (f : α → α) (h : j ≠ i) : (updV v i f).get j = v.get j := by
  have : i.val ≠ j.val := fun e => h (Fin.ext e.symm)
  simp [updV, vget_eq, Vector.getElem_set, this]

@[simp] theorem vget_set {α : Type} {n : Nat} (v : Vector α n) (i : Fin n) (a : α) : (v.set i a).get i = a := by simp [vget_eq]

theorem vget_set_ne {α : Type} {n : Nat} (v : Vector α n) {i j : Fin n} (a : α) (h : j ≠ i) : (v.set i a).get j = v.get j := by
  have : i.val ≠ j.val := fun e => h (Fin.ext e.symm)
  simp [vget_eq, Vector.getElem_set, this]

@[simp] theorem updV_updV {α : Type} {n : Nat} (v : Vector α n) (i : Fin n) (f g : α → α) : updV (updV v i f) i g = updV v i (fun x => g (f x)) := by
  simp [updV, vget_eq]

theorem updV_id {α : Type} {n : Nat} (v : Vector α n) (i : Fin n) (f : α → α) (h : f (v.get i) = v.get i) : updV v i f = v := by
  simp [updV, h]; simp [vget_eq]

@[simp] theorem updV_set {α : Type} {n : Nat} (v : Vector α n) (i : Fin n) (a : α) (f : α → α) : updV (v.set i a) i f = v.set i (f a) := by
  simp [updV, vget_eq]

@[simp] theorem State.modPort_pending (s : State) (h : Host24) (f : Port → Port) : (s.modPort h f).pending = s.pending := rfl
@[simp] theorem State.modPort_free (s : State) (h : Host24) (f : Port → Port) : (s.modPort h f).free = s.free := rfl
@[simp] theorem State.modPort_part (s : State) (h : Host24) (f : Port → Port) : (s.modPort h f).part = s.part := rfl
@[simp] theorem State.modPort_timeBase (s : State) (h : Host24) (f : Port → Port) : (s.modPort h f).timeBase = s.timeBase := rfl
@[simp] theorem State.modPort_utc (s : State) (h : Host24) (f : Port → Port) : (s.modPort h f).utc = s.utc := rfl
@[simp] theorem State.modPort_netBoot (s : State) (h : Host24) (f : Port → Port) : (s.modPort h f).netBoot = s.netBoot := rfl
@[simp] theorem State.modPort_restarting (s : State) (h : Host24) (f : Port → Port) : (s.modPort h f).restarting = s.restarting := rfl
@[simp] theorem State.modPort_power (s : State) (h : Host24) (f : Port → Port) : (s.modPort h f).power = s.power := rfl
@[simp] theorem State.modPort_vddWarn (s : State) (h : Host24) (f : Port → Port) : (s.modPort h f).vddWarn = s.vddWarn := rfl
@[simp] theorem State.modPort_evl (s : State) (h : Host24) (f : Port → Port) : (s.modPort h f).evl = s.evl := rfl
@[simp] theorem State.modPort_ports (s : State) (h : Host24) (f : Port → Port) : (s.modPort h f).ports = updV s.ports h f := rfl
@[simp] theorem State.modPort_tt (s : State) (h : Host24) (f : Port → Port) : (s.modPort h f).tt = s.tt := rfl
@[simp] theorem State.modPort_ttb (s : State) (h : Host24) (f : Port → Port) : (s.modPort h f).ttb = s.ttb := rfl
@[simp] theorem State.modPort_chans (s : State) (h : Host24) (f : Port → Port) : (s.modPort h f).chans = s.chans := rfl
@[simp] theorem State.modPort_plc (s : State) (h : Host24) (f : Port → Port) : (s.modPort h f).plc = s.plc := rfl
@[simp] theorem State.modPort_img (s : State) (h : Host24) (f : Port → Port) : (s.modPort h f).img = s.img := rfl
@[simp] theorem State.modPort_lists (s : State) (h : Host24) (f : Port → Port) : (s.modPort h f).lists = s.lists := rfl
@[simp] theorem State.modPort_gates (s : State) (h : Host24) (f : Port → Port) : (s.modPort h f).gates = s.gates := rfl
@[simp] theorem State.modPort_lcc (s : State) (h : Host24) (f : Port → Port) : (s.modPort h f).lcc = s.lcc := rfl
@[simp] theorem State.modPort_dbg (s : State) (h : Host24) (f : Port → Port) : (s.modPort h f).dbg = s.dbg := rfl
@[simp] theorem State.modPort_keys (s : State) (h : Host24) (f : Port → Port) : (s.modPort h f).keys = s.keys := rfl
@[simp] theorem State.modPort_ctr (s : State) (h : Host24) (f : Port → Port) : (s.modPort h f).ctr = s.ctr := rfl
@[simp] theorem State.modPort_rng (s : State) (h : Host24) (f : Port → Port) : (s.modPort h f).rng = s.rng := rfl
@[simp] theorem State.modPort_dgc (s : State) (h : Host24) (f : Port → Port) : (s.modPort h f).dgc = s.dgc := rfl
@[simp] theorem State.modPort_sig (s : State) (h : Host24) (f : Port → Port) : (s.modPort h f).sig = s.sig := rfl
@[simp] theorem State.modPort_upd (s : State) (h : Host24) (f : Port → Port) : (s.modPort h f).upd = s.upd := rfl
@[simp] theorem State.modPort_hcs (s : State) (h : Host24) (f : Port → Port) : (s.modPort h f).hcs = s.hcs := rfl
@[simp] theorem State.modPort_tmp (s : State) (h : Host24) (f : Port → Port) : (s.modPort h f).tmp = s.tmp := rfl
@[simp] theorem State.modPort_sys (s : State) (h : Host24) (f : Port → Port) : (s.modPort h f).sys = s.sys := rfl
@[simp] theorem State.modPort_boot (s : State) (h : Host24) (f : Port → Port) : (s.modPort h f).boot = s.boot := rfl
@[simp] theorem State.modPort_clk (s : State) (h : Host24) (f : Port → Port) : (s.modPort h f).clk = s.clk := rfl
@[simp] theorem State.modPort_nvc (s : State) (h : Host24) (f : Port → Port) : (s.modPort h f).nvc = s.nvc := rfl
@[simp] theorem State.modPort_pwr (s : State) (h : Host24) (f : Port → Port) : (s.modPort h f).pwr = s.pwr := rfl
@[simp] theorem State.modPort_net (s : State) (h : Host24) (f : Port → Port) : (s.modPort h f).net = s.net := rfl
@[simp] theorem State.modPort_arc (s : State) (h : Host24) (f : Port → Port) : (s.modPort h f).arc = s.arc := rfl
@[simp] theorem State.modPort_signer (s : State) (h : Host24) (f : Port → Port) : (s.modPort h f).signer = s.signer := rfl
@[simp] theorem State.modPort_latches (s : State) (h : Host24) (f : Port → Port) : (s.modPort h f).latches = s.latches := rfl
@[simp] theorem State.modPort_sram (s : State) (h : Host24) (f : Port → Port) : (s.modPort h f).sram = s.sram := rfl
@[simp] theorem State.modPort_nv (s : State) (h : Host24) (f : Port → Port) : (s.modPort h f).nv = s.nv := rfl

@[simp] theorem State.modTt_pending (s : State) (h : Host24) (f : TtHost → TtHost) : (s.modTt h f).pending = s.pending := rfl
@[simp] theorem State.modTt_free (s : State) (h : Host24) (f : TtHost → TtHost) : (s.modTt h f).free = s.free := rfl
@[simp] theorem State.modTt_part (s : State) (h : Host24) (f : TtHost → TtHost) : (s.modTt h f).part = s.part := rfl
@[simp] theorem State.modTt_timeBase (s : State) (h : Host24) (f : TtHost → TtHost) : (s.modTt h f).timeBase = s.timeBase := rfl
@[simp] theorem State.modTt_utc (s : State) (h : Host24) (f : TtHost → TtHost) : (s.modTt h f).utc = s.utc := rfl
@[simp] theorem State.modTt_netBoot (s : State) (h : Host24) (f : TtHost → TtHost) : (s.modTt h f).netBoot = s.netBoot := rfl
@[simp] theorem State.modTt_restarting (s : State) (h : Host24) (f : TtHost → TtHost) : (s.modTt h f).restarting = s.restarting := rfl
@[simp] theorem State.modTt_power (s : State) (h : Host24) (f : TtHost → TtHost) : (s.modTt h f).power = s.power := rfl
@[simp] theorem State.modTt_vddWarn (s : State) (h : Host24) (f : TtHost → TtHost) : (s.modTt h f).vddWarn = s.vddWarn := rfl
@[simp] theorem State.modTt_evl (s : State) (h : Host24) (f : TtHost → TtHost) : (s.modTt h f).evl = s.evl := rfl
@[simp] theorem State.modTt_ports (s : State) (h : Host24) (f : TtHost → TtHost) : (s.modTt h f).ports = s.ports := rfl
@[simp] theorem State.modTt_tt (s : State) (h : Host24) (f : TtHost → TtHost) : (s.modTt h f).tt = updV s.tt h f := rfl
@[simp] theorem State.modTt_ttb (s : State) (h : Host24) (f : TtHost → TtHost) : (s.modTt h f).ttb = s.ttb := rfl
@[simp] theorem State.modTt_chans (s : State) (h : Host24) (f : TtHost → TtHost) : (s.modTt h f).chans = s.chans := rfl
@[simp] theorem State.modTt_plc (s : State) (h : Host24) (f : TtHost → TtHost) : (s.modTt h f).plc = s.plc := rfl
@[simp] theorem State.modTt_img (s : State) (h : Host24) (f : TtHost → TtHost) : (s.modTt h f).img = s.img := rfl
@[simp] theorem State.modTt_lists (s : State) (h : Host24) (f : TtHost → TtHost) : (s.modTt h f).lists = s.lists := rfl
@[simp] theorem State.modTt_gates (s : State) (h : Host24) (f : TtHost → TtHost) : (s.modTt h f).gates = s.gates := rfl
@[simp] theorem State.modTt_lcc (s : State) (h : Host24) (f : TtHost → TtHost) : (s.modTt h f).lcc = s.lcc := rfl
@[simp] theorem State.modTt_dbg (s : State) (h : Host24) (f : TtHost → TtHost) : (s.modTt h f).dbg = s.dbg := rfl
@[simp] theorem State.modTt_keys (s : State) (h : Host24) (f : TtHost → TtHost) : (s.modTt h f).keys = s.keys := rfl
@[simp] theorem State.modTt_ctr (s : State) (h : Host24) (f : TtHost → TtHost) : (s.modTt h f).ctr = s.ctr := rfl
@[simp] theorem State.modTt_rng (s : State) (h : Host24) (f : TtHost → TtHost) : (s.modTt h f).rng = s.rng := rfl
@[simp] theorem State.modTt_dgc (s : State) (h : Host24) (f : TtHost → TtHost) : (s.modTt h f).dgc = s.dgc := rfl
@[simp] theorem State.modTt_sig (s : State) (h : Host24) (f : TtHost → TtHost) : (s.modTt h f).sig = s.sig := rfl
@[simp] theorem State.modTt_upd (s : State) (h : Host24) (f : TtHost → TtHost) : (s.modTt h f).upd = s.upd := rfl
@[simp] theorem State.modTt_hcs (s : State) (h : Host24) (f : TtHost → TtHost) : (s.modTt h f).hcs = s.hcs := rfl
@[simp] theorem State.modTt_tmp (s : State) (h : Host24) (f : TtHost → TtHost) : (s.modTt h f).tmp = s.tmp := rfl
@[simp] theorem State.modTt_sys (s : State) (h : Host24) (f : TtHost → TtHost) : (s.modTt h f).sys = s.sys := rfl
@[simp] theorem State.modTt_boot (s : State) (h : Host24) (f : TtHost → TtHost) : (s.modTt h f).boot = s.boot := rfl
@[simp] theorem State.modTt_clk (s : State) (h : Host24) (f : TtHost → TtHost) : (s.modTt h f).clk = s.clk := rfl
@[simp] theorem State.modTt_nvc (s : State) (h : Host24) (f : TtHost → TtHost) : (s.modTt h f).nvc = s.nvc := rfl
@[simp] theorem State.modTt_pwr (s : State) (h : Host24) (f : TtHost → TtHost) : (s.modTt h f).pwr = s.pwr := rfl
@[simp] theorem State.modTt_net (s : State) (h : Host24) (f : TtHost → TtHost) : (s.modTt h f).net = s.net := rfl
@[simp] theorem State.modTt_arc (s : State) (h : Host24) (f : TtHost → TtHost) : (s.modTt h f).arc = s.arc := rfl
@[simp] theorem State.modTt_signer (s : State) (h : Host24) (f : TtHost → TtHost) : (s.modTt h f).signer = s.signer := rfl
@[simp] theorem State.modTt_latches (s : State) (h : Host24) (f : TtHost → TtHost) : (s.modTt h f).latches = s.latches := rfl
@[simp] theorem State.modTt_sram (s : State) (h : Host24) (f : TtHost → TtHost) : (s.modTt h f).sram = s.sram := rfl
@[simp] theorem State.modTt_nv (s : State) (h : Host24) (f : TtHost → TtHost) : (s.modTt h f).nv = s.nv := rfl

@[simp] theorem State.modImg_pending (s : State) (h : Host24) (f : HostImg → HostImg) : (s.modImg h f).pending = s.pending := rfl
@[simp] theorem State.modImg_free (s : State) (h : Host24) (f : HostImg → HostImg) : (s.modImg h f).free = s.free := rfl
@[simp] theorem State.modImg_part (s : State) (h : Host24) (f : HostImg → HostImg) : (s.modImg h f).part = s.part := rfl
@[simp] theorem State.modImg_timeBase (s : State) (h : Host24) (f : HostImg → HostImg) : (s.modImg h f).timeBase = s.timeBase := rfl
@[simp] theorem State.modImg_utc (s : State) (h : Host24) (f : HostImg → HostImg) : (s.modImg h f).utc = s.utc := rfl
@[simp] theorem State.modImg_netBoot (s : State) (h : Host24) (f : HostImg → HostImg) : (s.modImg h f).netBoot = s.netBoot := rfl
@[simp] theorem State.modImg_restarting (s : State) (h : Host24) (f : HostImg → HostImg) : (s.modImg h f).restarting = s.restarting := rfl
@[simp] theorem State.modImg_power (s : State) (h : Host24) (f : HostImg → HostImg) : (s.modImg h f).power = s.power := rfl
@[simp] theorem State.modImg_vddWarn (s : State) (h : Host24) (f : HostImg → HostImg) : (s.modImg h f).vddWarn = s.vddWarn := rfl
@[simp] theorem State.modImg_evl (s : State) (h : Host24) (f : HostImg → HostImg) : (s.modImg h f).evl = s.evl := rfl
@[simp] theorem State.modImg_ports (s : State) (h : Host24) (f : HostImg → HostImg) : (s.modImg h f).ports = s.ports := rfl
@[simp] theorem State.modImg_tt (s : State) (h : Host24) (f : HostImg → HostImg) : (s.modImg h f).tt = s.tt := rfl
@[simp] theorem State.modImg_ttb (s : State) (h : Host24) (f : HostImg → HostImg) : (s.modImg h f).ttb = s.ttb := rfl
@[simp] theorem State.modImg_chans (s : State) (h : Host24) (f : HostImg → HostImg) : (s.modImg h f).chans = s.chans := rfl
@[simp] theorem State.modImg_plc (s : State) (h : Host24) (f : HostImg → HostImg) : (s.modImg h f).plc = s.plc := rfl
@[simp] theorem State.modImg_img (s : State) (h : Host24) (f : HostImg → HostImg) : (s.modImg h f).img = updV s.img h f := rfl
@[simp] theorem State.modImg_lists (s : State) (h : Host24) (f : HostImg → HostImg) : (s.modImg h f).lists = s.lists := rfl
@[simp] theorem State.modImg_gates (s : State) (h : Host24) (f : HostImg → HostImg) : (s.modImg h f).gates = s.gates := rfl
@[simp] theorem State.modImg_lcc (s : State) (h : Host24) (f : HostImg → HostImg) : (s.modImg h f).lcc = s.lcc := rfl
@[simp] theorem State.modImg_dbg (s : State) (h : Host24) (f : HostImg → HostImg) : (s.modImg h f).dbg = s.dbg := rfl
@[simp] theorem State.modImg_keys (s : State) (h : Host24) (f : HostImg → HostImg) : (s.modImg h f).keys = s.keys := rfl
@[simp] theorem State.modImg_ctr (s : State) (h : Host24) (f : HostImg → HostImg) : (s.modImg h f).ctr = s.ctr := rfl
@[simp] theorem State.modImg_rng (s : State) (h : Host24) (f : HostImg → HostImg) : (s.modImg h f).rng = s.rng := rfl
@[simp] theorem State.modImg_dgc (s : State) (h : Host24) (f : HostImg → HostImg) : (s.modImg h f).dgc = s.dgc := rfl
@[simp] theorem State.modImg_sig (s : State) (h : Host24) (f : HostImg → HostImg) : (s.modImg h f).sig = s.sig := rfl
@[simp] theorem State.modImg_upd (s : State) (h : Host24) (f : HostImg → HostImg) : (s.modImg h f).upd = s.upd := rfl
@[simp] theorem State.modImg_hcs (s : State) (h : Host24) (f : HostImg → HostImg) : (s.modImg h f).hcs = s.hcs := rfl
@[simp] theorem State.modImg_tmp (s : State) (h : Host24) (f : HostImg → HostImg) : (s.modImg h f).tmp = s.tmp := rfl
@[simp] theorem State.modImg_sys (s : State) (h : Host24) (f : HostImg → HostImg) : (s.modImg h f).sys = s.sys := rfl
@[simp] theorem State.modImg_boot (s : State) (h : Host24) (f : HostImg → HostImg) : (s.modImg h f).boot = s.boot := rfl
@[simp] theorem State.modImg_clk (s : State) (h : Host24) (f : HostImg → HostImg) : (s.modImg h f).clk = s.clk := rfl
@[simp] theorem State.modImg_nvc (s : State) (h : Host24) (f : HostImg → HostImg) : (s.modImg h f).nvc = s.nvc := rfl
@[simp] theorem State.modImg_pwr (s : State) (h : Host24) (f : HostImg → HostImg) : (s.modImg h f).pwr = s.pwr := rfl
@[simp] theorem State.modImg_net (s : State) (h : Host24) (f : HostImg → HostImg) : (s.modImg h f).net = s.net := rfl
@[simp] theorem State.modImg_arc (s : State) (h : Host24) (f : HostImg → HostImg) : (s.modImg h f).arc = s.arc := rfl
@[simp] theorem State.modImg_signer (s : State) (h : Host24) (f : HostImg → HostImg) : (s.modImg h f).signer = s.signer := rfl
@[simp] theorem State.modImg_latches (s : State) (h : Host24) (f : HostImg → HostImg) : (s.modImg h f).latches = s.latches := rfl
@[simp] theorem State.modImg_sram (s : State) (h : Host24) (f : HostImg → HostImg) : (s.modImg h f).sram = s.sram := rfl
@[simp] theorem State.modImg_nv (s : State) (h : Host24) (f : HostImg → HostImg) : (s.modImg h f).nv = s.nv := rfl

@[simp] theorem State.modChan_pending (s : State) (c : Chan) (f : Channel → Channel) : (s.modChan c f).pending = s.pending := rfl
@[simp] theorem State.modChan_free (s : State) (c : Chan) (f : Channel → Channel) : (s.modChan c f).free = s.free := rfl
@[simp] theorem State.modChan_part (s : State) (c : Chan) (f : Channel → Channel) : (s.modChan c f).part = s.part := rfl
@[simp] theorem State.modChan_timeBase (s : State) (c : Chan) (f : Channel → Channel) : (s.modChan c f).timeBase = s.timeBase := rfl
@[simp] theorem State.modChan_utc (s : State) (c : Chan) (f : Channel → Channel) : (s.modChan c f).utc = s.utc := rfl
@[simp] theorem State.modChan_netBoot (s : State) (c : Chan) (f : Channel → Channel) : (s.modChan c f).netBoot = s.netBoot := rfl
@[simp] theorem State.modChan_restarting (s : State) (c : Chan) (f : Channel → Channel) : (s.modChan c f).restarting = s.restarting := rfl
@[simp] theorem State.modChan_power (s : State) (c : Chan) (f : Channel → Channel) : (s.modChan c f).power = s.power := rfl
@[simp] theorem State.modChan_vddWarn (s : State) (c : Chan) (f : Channel → Channel) : (s.modChan c f).vddWarn = s.vddWarn := rfl
@[simp] theorem State.modChan_evl (s : State) (c : Chan) (f : Channel → Channel) : (s.modChan c f).evl = s.evl := rfl
@[simp] theorem State.modChan_ports (s : State) (c : Chan) (f : Channel → Channel) : (s.modChan c f).ports = s.ports := rfl
@[simp] theorem State.modChan_tt (s : State) (c : Chan) (f : Channel → Channel) : (s.modChan c f).tt = s.tt := rfl
@[simp] theorem State.modChan_ttb (s : State) (c : Chan) (f : Channel → Channel) : (s.modChan c f).ttb = s.ttb := rfl
@[simp] theorem State.modChan_chans (s : State) (c : Chan) (f : Channel → Channel) : (s.modChan c f).chans = updV s.chans c f := rfl
@[simp] theorem State.modChan_plc (s : State) (c : Chan) (f : Channel → Channel) : (s.modChan c f).plc = s.plc := rfl
@[simp] theorem State.modChan_img (s : State) (c : Chan) (f : Channel → Channel) : (s.modChan c f).img = s.img := rfl
@[simp] theorem State.modChan_lists (s : State) (c : Chan) (f : Channel → Channel) : (s.modChan c f).lists = s.lists := rfl
@[simp] theorem State.modChan_gates (s : State) (c : Chan) (f : Channel → Channel) : (s.modChan c f).gates = s.gates := rfl
@[simp] theorem State.modChan_lcc (s : State) (c : Chan) (f : Channel → Channel) : (s.modChan c f).lcc = s.lcc := rfl
@[simp] theorem State.modChan_dbg (s : State) (c : Chan) (f : Channel → Channel) : (s.modChan c f).dbg = s.dbg := rfl
@[simp] theorem State.modChan_keys (s : State) (c : Chan) (f : Channel → Channel) : (s.modChan c f).keys = s.keys := rfl
@[simp] theorem State.modChan_ctr (s : State) (c : Chan) (f : Channel → Channel) : (s.modChan c f).ctr = s.ctr := rfl
@[simp] theorem State.modChan_rng (s : State) (c : Chan) (f : Channel → Channel) : (s.modChan c f).rng = s.rng := rfl
@[simp] theorem State.modChan_dgc (s : State) (c : Chan) (f : Channel → Channel) : (s.modChan c f).dgc = s.dgc := rfl
@[simp] theorem State.modChan_sig (s : State) (c : Chan) (f : Channel → Channel) : (s.modChan c f).sig = s.sig := rfl
@[simp] theorem State.modChan_upd (s : State) (c : Chan) (f : Channel → Channel) : (s.modChan c f).upd = s.upd := rfl
@[simp] theorem State.modChan_hcs (s : State) (c : Chan) (f : Channel → Channel) : (s.modChan c f).hcs = s.hcs := rfl
@[simp] theorem State.modChan_tmp (s : State) (c : Chan) (f : Channel → Channel) : (s.modChan c f).tmp = s.tmp := rfl
@[simp] theorem State.modChan_sys (s : State) (c : Chan) (f : Channel → Channel) : (s.modChan c f).sys = s.sys := rfl
@[simp] theorem State.modChan_boot (s : State) (c : Chan) (f : Channel → Channel) : (s.modChan c f).boot = s.boot := rfl
@[simp] theorem State.modChan_clk (s : State) (c : Chan) (f : Channel → Channel) : (s.modChan c f).clk = s.clk := rfl
@[simp] theorem State.modChan_nvc (s : State) (c : Chan) (f : Channel → Channel) : (s.modChan c f).nvc = s.nvc := rfl
@[simp] theorem State.modChan_pwr (s : State) (c : Chan) (f : Channel → Channel) : (s.modChan c f).pwr = s.pwr := rfl
@[simp] theorem State.modChan_net (s : State) (c : Chan) (f : Channel → Channel) : (s.modChan c f).net = s.net := rfl
@[simp] theorem State.modChan_arc (s : State) (c : Chan) (f : Channel → Channel) : (s.modChan c f).arc = s.arc := rfl
@[simp] theorem State.modChan_signer (s : State) (c : Chan) (f : Channel → Channel) : (s.modChan c f).signer = s.signer := rfl
@[simp] theorem State.modChan_latches (s : State) (c : Chan) (f : Channel → Channel) : (s.modChan c f).latches = s.latches := rfl
@[simp] theorem State.modChan_sram (s : State) (c : Chan) (f : Channel → Channel) : (s.modChan c f).sram = s.sram := rfl
@[simp] theorem State.modChan_nv (s : State) (c : Chan) (f : Channel → Channel) : (s.modChan c f).nv = s.nv := rfl

@[simp] theorem State.modPlc_pending (s : State) (f : Placement → Placement) : (s.modPlc f).pending = s.pending := rfl
@[simp] theorem State.modPlc_free (s : State) (f : Placement → Placement) : (s.modPlc f).free = s.free := rfl
@[simp] theorem State.modPlc_part (s : State) (f : Placement → Placement) : (s.modPlc f).part = s.part := rfl
@[simp] theorem State.modPlc_timeBase (s : State) (f : Placement → Placement) : (s.modPlc f).timeBase = s.timeBase := rfl
@[simp] theorem State.modPlc_utc (s : State) (f : Placement → Placement) : (s.modPlc f).utc = s.utc := rfl
@[simp] theorem State.modPlc_netBoot (s : State) (f : Placement → Placement) : (s.modPlc f).netBoot = s.netBoot := rfl
@[simp] theorem State.modPlc_restarting (s : State) (f : Placement → Placement) : (s.modPlc f).restarting = s.restarting := rfl
@[simp] theorem State.modPlc_power (s : State) (f : Placement → Placement) : (s.modPlc f).power = s.power := rfl
@[simp] theorem State.modPlc_vddWarn (s : State) (f : Placement → Placement) : (s.modPlc f).vddWarn = s.vddWarn := rfl
@[simp] theorem State.modPlc_evl (s : State) (f : Placement → Placement) : (s.modPlc f).evl = s.evl := rfl
@[simp] theorem State.modPlc_ports (s : State) (f : Placement → Placement) : (s.modPlc f).ports = s.ports := rfl
@[simp] theorem State.modPlc_tt (s : State) (f : Placement → Placement) : (s.modPlc f).tt = s.tt := rfl
@[simp] theorem State.modPlc_ttb (s : State) (f : Placement → Placement) : (s.modPlc f).ttb = s.ttb := rfl
@[simp] theorem State.modPlc_chans (s : State) (f : Placement → Placement) : (s.modPlc f).chans = s.chans := rfl
@[simp] theorem State.modPlc_plc (s : State) (f : Placement → Placement) : (s.modPlc f).plc = f s.plc := rfl
@[simp] theorem State.modPlc_img (s : State) (f : Placement → Placement) : (s.modPlc f).img = s.img := rfl
@[simp] theorem State.modPlc_lists (s : State) (f : Placement → Placement) : (s.modPlc f).lists = s.lists := rfl
@[simp] theorem State.modPlc_gates (s : State) (f : Placement → Placement) : (s.modPlc f).gates = s.gates := rfl
@[simp] theorem State.modPlc_lcc (s : State) (f : Placement → Placement) : (s.modPlc f).lcc = s.lcc := rfl
@[simp] theorem State.modPlc_dbg (s : State) (f : Placement → Placement) : (s.modPlc f).dbg = s.dbg := rfl
@[simp] theorem State.modPlc_keys (s : State) (f : Placement → Placement) : (s.modPlc f).keys = s.keys := rfl
@[simp] theorem State.modPlc_ctr (s : State) (f : Placement → Placement) : (s.modPlc f).ctr = s.ctr := rfl
@[simp] theorem State.modPlc_rng (s : State) (f : Placement → Placement) : (s.modPlc f).rng = s.rng := rfl
@[simp] theorem State.modPlc_dgc (s : State) (f : Placement → Placement) : (s.modPlc f).dgc = s.dgc := rfl
@[simp] theorem State.modPlc_sig (s : State) (f : Placement → Placement) : (s.modPlc f).sig = s.sig := rfl
@[simp] theorem State.modPlc_upd (s : State) (f : Placement → Placement) : (s.modPlc f).upd = s.upd := rfl
@[simp] theorem State.modPlc_hcs (s : State) (f : Placement → Placement) : (s.modPlc f).hcs = s.hcs := rfl
@[simp] theorem State.modPlc_tmp (s : State) (f : Placement → Placement) : (s.modPlc f).tmp = s.tmp := rfl
@[simp] theorem State.modPlc_sys (s : State) (f : Placement → Placement) : (s.modPlc f).sys = s.sys := rfl
@[simp] theorem State.modPlc_boot (s : State) (f : Placement → Placement) : (s.modPlc f).boot = s.boot := rfl
@[simp] theorem State.modPlc_clk (s : State) (f : Placement → Placement) : (s.modPlc f).clk = s.clk := rfl
@[simp] theorem State.modPlc_nvc (s : State) (f : Placement → Placement) : (s.modPlc f).nvc = s.nvc := rfl
@[simp] theorem State.modPlc_pwr (s : State) (f : Placement → Placement) : (s.modPlc f).pwr = s.pwr := rfl
@[simp] theorem State.modPlc_net (s : State) (f : Placement → Placement) : (s.modPlc f).net = s.net := rfl
@[simp] theorem State.modPlc_arc (s : State) (f : Placement → Placement) : (s.modPlc f).arc = s.arc := rfl
@[simp] theorem State.modPlc_signer (s : State) (f : Placement → Placement) : (s.modPlc f).signer = s.signer := rfl
@[simp] theorem State.modPlc_latches (s : State) (f : Placement → Placement) : (s.modPlc f).latches = s.latches := rfl
@[simp] theorem State.modPlc_sram (s : State) (f : Placement → Placement) : (s.modPlc f).sram = s.sram := rfl
@[simp] theorem State.modPlc_nv (s : State) (f : Placement → Placement) : (s.modPlc f).nv = s.nv := rfl

@[simp] theorem State.modEvl_pending (s : State) (f : Evl → Evl) : (s.modEvl f).pending = s.pending := rfl
@[simp] theorem State.modEvl_free (s : State) (f : Evl → Evl) : (s.modEvl f).free = s.free := rfl
@[simp] theorem State.modEvl_part (s : State) (f : Evl → Evl) : (s.modEvl f).part = s.part := rfl
@[simp] theorem State.modEvl_timeBase (s : State) (f : Evl → Evl) : (s.modEvl f).timeBase = s.timeBase := rfl
@[simp] theorem State.modEvl_utc (s : State) (f : Evl → Evl) : (s.modEvl f).utc = s.utc := rfl
@[simp] theorem State.modEvl_netBoot (s : State) (f : Evl → Evl) : (s.modEvl f).netBoot = s.netBoot := rfl
@[simp] theorem State.modEvl_restarting (s : State) (f : Evl → Evl) : (s.modEvl f).restarting = s.restarting := rfl
@[simp] theorem State.modEvl_power (s : State) (f : Evl → Evl) : (s.modEvl f).power = s.power := rfl
@[simp] theorem State.modEvl_vddWarn (s : State) (f : Evl → Evl) : (s.modEvl f).vddWarn = s.vddWarn := rfl
@[simp] theorem State.modEvl_evl (s : State) (f : Evl → Evl) : (s.modEvl f).evl = f s.evl := rfl
@[simp] theorem State.modEvl_ports (s : State) (f : Evl → Evl) : (s.modEvl f).ports = s.ports := rfl
@[simp] theorem State.modEvl_tt (s : State) (f : Evl → Evl) : (s.modEvl f).tt = s.tt := rfl
@[simp] theorem State.modEvl_ttb (s : State) (f : Evl → Evl) : (s.modEvl f).ttb = s.ttb := rfl
@[simp] theorem State.modEvl_chans (s : State) (f : Evl → Evl) : (s.modEvl f).chans = s.chans := rfl
@[simp] theorem State.modEvl_plc (s : State) (f : Evl → Evl) : (s.modEvl f).plc = s.plc := rfl
@[simp] theorem State.modEvl_img (s : State) (f : Evl → Evl) : (s.modEvl f).img = s.img := rfl
@[simp] theorem State.modEvl_lists (s : State) (f : Evl → Evl) : (s.modEvl f).lists = s.lists := rfl
@[simp] theorem State.modEvl_gates (s : State) (f : Evl → Evl) : (s.modEvl f).gates = s.gates := rfl
@[simp] theorem State.modEvl_lcc (s : State) (f : Evl → Evl) : (s.modEvl f).lcc = s.lcc := rfl
@[simp] theorem State.modEvl_dbg (s : State) (f : Evl → Evl) : (s.modEvl f).dbg = s.dbg := rfl
@[simp] theorem State.modEvl_keys (s : State) (f : Evl → Evl) : (s.modEvl f).keys = s.keys := rfl
@[simp] theorem State.modEvl_ctr (s : State) (f : Evl → Evl) : (s.modEvl f).ctr = s.ctr := rfl
@[simp] theorem State.modEvl_rng (s : State) (f : Evl → Evl) : (s.modEvl f).rng = s.rng := rfl
@[simp] theorem State.modEvl_dgc (s : State) (f : Evl → Evl) : (s.modEvl f).dgc = s.dgc := rfl
@[simp] theorem State.modEvl_sig (s : State) (f : Evl → Evl) : (s.modEvl f).sig = s.sig := rfl
@[simp] theorem State.modEvl_upd (s : State) (f : Evl → Evl) : (s.modEvl f).upd = s.upd := rfl
@[simp] theorem State.modEvl_hcs (s : State) (f : Evl → Evl) : (s.modEvl f).hcs = s.hcs := rfl
@[simp] theorem State.modEvl_tmp (s : State) (f : Evl → Evl) : (s.modEvl f).tmp = s.tmp := rfl
@[simp] theorem State.modEvl_sys (s : State) (f : Evl → Evl) : (s.modEvl f).sys = s.sys := rfl
@[simp] theorem State.modEvl_boot (s : State) (f : Evl → Evl) : (s.modEvl f).boot = s.boot := rfl
@[simp] theorem State.modEvl_clk (s : State) (f : Evl → Evl) : (s.modEvl f).clk = s.clk := rfl
@[simp] theorem State.modEvl_nvc (s : State) (f : Evl → Evl) : (s.modEvl f).nvc = s.nvc := rfl
@[simp] theorem State.modEvl_pwr (s : State) (f : Evl → Evl) : (s.modEvl f).pwr = s.pwr := rfl
@[simp] theorem State.modEvl_net (s : State) (f : Evl → Evl) : (s.modEvl f).net = s.net := rfl
@[simp] theorem State.modEvl_arc (s : State) (f : Evl → Evl) : (s.modEvl f).arc = s.arc := rfl
@[simp] theorem State.modEvl_signer (s : State) (f : Evl → Evl) : (s.modEvl f).signer = s.signer := rfl
@[simp] theorem State.modEvl_latches (s : State) (f : Evl → Evl) : (s.modEvl f).latches = s.latches := rfl
@[simp] theorem State.modEvl_sram (s : State) (f : Evl → Evl) : (s.modEvl f).sram = s.sram := rfl
@[simp] theorem State.modEvl_nv (s : State) (f : Evl → Evl) : (s.modEvl f).nv = s.nv := rfl

@[simp] theorem State.raise_pending (s : State) (code source : Nat) (p : Bytes) : (s.raise code source p).pending = s.pending := rfl
@[simp] theorem State.raise_free (s : State) (code source : Nat) (p : Bytes) : (s.raise code source p).free = s.free := rfl
@[simp] theorem State.raise_part (s : State) (code source : Nat) (p : Bytes) : (s.raise code source p).part = s.part := rfl
@[simp] theorem State.raise_timeBase (s : State) (code source : Nat) (p : Bytes) : (s.raise code source p).timeBase = s.timeBase := rfl
@[simp] theorem State.raise_utc (s : State) (code source : Nat) (p : Bytes) : (s.raise code source p).utc = s.utc := rfl
@[simp] theorem State.raise_netBoot (s : State) (code source : Nat) (p : Bytes) : (s.raise code source p).netBoot = s.netBoot := rfl
@[simp] theorem State.raise_restarting (s : State) (code source : Nat) (p : Bytes) : (s.raise code source p).restarting = s.restarting := rfl
@[simp] theorem State.raise_power (s : State) (code source : Nat) (p : Bytes) : (s.raise code source p).power = s.power := rfl
@[simp] theorem State.raise_vddWarn (s : State) (code source : Nat) (p : Bytes) : (s.raise code source p).vddWarn = s.vddWarn := rfl
@[simp] theorem State.raise_ports (s : State) (code source : Nat) (p : Bytes) : (s.raise code source p).ports = s.ports := rfl
@[simp] theorem State.raise_tt (s : State) (code source : Nat) (p : Bytes) : (s.raise code source p).tt = s.tt := rfl
@[simp] theorem State.raise_ttb (s : State) (code source : Nat) (p : Bytes) : (s.raise code source p).ttb = s.ttb := rfl
@[simp] theorem State.raise_chans (s : State) (code source : Nat) (p : Bytes) : (s.raise code source p).chans = s.chans := rfl
@[simp] theorem State.raise_plc (s : State) (code source : Nat) (p : Bytes) : (s.raise code source p).plc = s.plc := rfl
@[simp] theorem State.raise_img (s : State) (code source : Nat) (p : Bytes) : (s.raise code source p).img = s.img := rfl
@[simp] theorem State.raise_lists (s : State) (code source : Nat) (p : Bytes) : (s.raise code source p).lists = s.lists := rfl
@[simp] theorem State.raise_gates (s : State) (code source : Nat) (p : Bytes) : (s.raise code source p).gates = s.gates := rfl
@[simp] theorem State.raise_lcc (s : State) (code source : Nat) (p : Bytes) : (s.raise code source p).lcc = s.lcc := rfl
@[simp] theorem State.raise_dbg (s : State) (code source : Nat) (p : Bytes) : (s.raise code source p).dbg = s.dbg := rfl
@[simp] theorem State.raise_keys (s : State) (code source : Nat) (p : Bytes) : (s.raise code source p).keys = s.keys := rfl
@[simp] theorem State.raise_ctr (s : State) (code source : Nat) (p : Bytes) : (s.raise code source p).ctr = s.ctr := rfl
@[simp] theorem State.raise_rng (s : State) (code source : Nat) (p : Bytes) : (s.raise code source p).rng = s.rng := rfl
@[simp] theorem State.raise_dgc (s : State) (code source : Nat) (p : Bytes) : (s.raise code source p).dgc = s.dgc := rfl
@[simp] theorem State.raise_sig (s : State) (code source : Nat) (p : Bytes) : (s.raise code source p).sig = s.sig := rfl
@[simp] theorem State.raise_upd (s : State) (code source : Nat) (p : Bytes) : (s.raise code source p).upd = s.upd := rfl
@[simp] theorem State.raise_hcs (s : State) (code source : Nat) (p : Bytes) : (s.raise code source p).hcs = s.hcs := rfl
@[simp] theorem State.raise_tmp (s : State) (code source : Nat) (p : Bytes) : (s.raise code source p).tmp = s.tmp := rfl
@[simp] theorem State.raise_sys (s : State) (code source : Nat) (p : Bytes) : (s.raise code source p).sys = s.sys := rfl
@[simp] theorem State.raise_boot (s : State) (code source : Nat) (p : Bytes) : (s.raise code source p).boot = s.boot := rfl
@[simp] theorem State.raise_clk (s : State) (code source : Nat) (p : Bytes) : (s.raise code source p).clk = s.clk := rfl
@[simp] theorem State.raise_nvc (s : State) (code source : Nat) (p : Bytes) : (s.raise code source p).nvc = s.nvc := rfl
@[simp] theorem State.raise_pwr (s : State) (code source : Nat) (p : Bytes) : (s.raise code source p).pwr = s.pwr := rfl
@[simp] theorem State.raise_net (s : State) (code source : Nat) (p : Bytes) : (s.raise code source p).net = s.net := rfl
@[simp] theorem State.raise_arc (s : State) (code source : Nat) (p : Bytes) : (s.raise code source p).arc = s.arc := rfl
@[simp] theorem State.raise_signer (s : State) (code source : Nat) (p : Bytes) : (s.raise code source p).signer = s.signer := rfl
@[simp] theorem State.raise_latches (s : State) (code source : Nat) (p : Bytes) : (s.raise code source p).latches = s.latches := rfl
@[simp] theorem State.raise_sram (s : State) (code source : Nat) (p : Bytes) : (s.raise code source p).sram = s.sram := rfl
@[simp] theorem State.raise_nv (s : State) (code source : Nat) (p : Bytes) : (s.raise code source p).nv = s.nv := rfl

@[simp] theorem State.raiseIf_pending (s : State) (b : Bool) (code source : Nat) (p : Bytes) : (s.raiseIf b code source p).pending = s.pending := by cases b <;> rfl
@[simp] theorem State.raiseIf_free (s : State) (b : Bool) (code source : Nat) (p : Bytes) : (s.raiseIf b code source p).free = s.free := by cases b <;> rfl
@[simp] theorem State.raiseIf_part (s : State) (b : Bool) (code source : Nat) (p : Bytes) : (s.raiseIf b code source p).part = s.part := by cases b <;> rfl
@[simp] theorem State.raiseIf_timeBase (s : State) (b : Bool) (code source : Nat) (p : Bytes) : (s.raiseIf b code source p).timeBase = s.timeBase := by cases b <;> rfl
@[simp] theorem State.raiseIf_utc (s : State) (b : Bool) (code source : Nat) (p : Bytes) : (s.raiseIf b code source p).utc = s.utc := by cases b <;> rfl
@[simp] theorem State.raiseIf_netBoot (s : State) (b : Bool) (code source : Nat) (p : Bytes) : (s.raiseIf b code source p).netBoot = s.netBoot := by cases b <;> rfl
@[simp] theorem State.raiseIf_restarting (s : State) (b : Bool) (code source : Nat) (p : Bytes) : (s.raiseIf b code source p).restarting = s.restarting := by cases b <;> rfl
@[simp] theorem State.raiseIf_power (s : State) (b : Bool) (code source : Nat) (p : Bytes) : (s.raiseIf b code source p).power = s.power := by cases b <;> rfl
@[simp] theorem State.raiseIf_vddWarn (s : State) (b : Bool) (code source : Nat) (p : Bytes) : (s.raiseIf b code source p).vddWarn = s.vddWarn := by cases b <;> rfl
@[simp] theorem State.raiseIf_ports (s : State) (b : Bool) (code source : Nat) (p : Bytes) : (s.raiseIf b code source p).ports = s.ports := by cases b <;> rfl
@[simp] theorem State.raiseIf_tt (s : State) (b : Bool) (code source : Nat) (p : Bytes) : (s.raiseIf b code source p).tt = s.tt := by cases b <;> rfl
@[simp] theorem State.raiseIf_ttb (s : State) (b : Bool) (code source : Nat) (p : Bytes) : (s.raiseIf b code source p).ttb = s.ttb := by cases b <;> rfl
@[simp] theorem State.raiseIf_chans (s : State) (b : Bool) (code source : Nat) (p : Bytes) : (s.raiseIf b code source p).chans = s.chans := by cases b <;> rfl
@[simp] theorem State.raiseIf_plc (s : State) (b : Bool) (code source : Nat) (p : Bytes) : (s.raiseIf b code source p).plc = s.plc := by cases b <;> rfl
@[simp] theorem State.raiseIf_img (s : State) (b : Bool) (code source : Nat) (p : Bytes) : (s.raiseIf b code source p).img = s.img := by cases b <;> rfl
@[simp] theorem State.raiseIf_lists (s : State) (b : Bool) (code source : Nat) (p : Bytes) : (s.raiseIf b code source p).lists = s.lists := by cases b <;> rfl
@[simp] theorem State.raiseIf_gates (s : State) (b : Bool) (code source : Nat) (p : Bytes) : (s.raiseIf b code source p).gates = s.gates := by cases b <;> rfl
@[simp] theorem State.raiseIf_lcc (s : State) (b : Bool) (code source : Nat) (p : Bytes) : (s.raiseIf b code source p).lcc = s.lcc := by cases b <;> rfl
@[simp] theorem State.raiseIf_dbg (s : State) (b : Bool) (code source : Nat) (p : Bytes) : (s.raiseIf b code source p).dbg = s.dbg := by cases b <;> rfl
@[simp] theorem State.raiseIf_keys (s : State) (b : Bool) (code source : Nat) (p : Bytes) : (s.raiseIf b code source p).keys = s.keys := by cases b <;> rfl
@[simp] theorem State.raiseIf_ctr (s : State) (b : Bool) (code source : Nat) (p : Bytes) : (s.raiseIf b code source p).ctr = s.ctr := by cases b <;> rfl
@[simp] theorem State.raiseIf_rng (s : State) (b : Bool) (code source : Nat) (p : Bytes) : (s.raiseIf b code source p).rng = s.rng := by cases b <;> rfl
@[simp] theorem State.raiseIf_dgc (s : State) (b : Bool) (code source : Nat) (p : Bytes) : (s.raiseIf b code source p).dgc = s.dgc := by cases b <;> rfl
@[simp] theorem State.raiseIf_sig (s : State) (b : Bool) (code source : Nat) (p : Bytes) : (s.raiseIf b code source p).sig = s.sig := by cases b <;> rfl
@[simp] theorem State.raiseIf_upd (s : State) (b : Bool) (code source : Nat) (p : Bytes) : (s.raiseIf b code source p).upd = s.upd := by cases b <;> rfl
@[simp] theorem State.raiseIf_hcs (s : State) (b : Bool) (code source : Nat) (p : Bytes) : (s.raiseIf b code source p).hcs = s.hcs := by cases b <;> rfl
@[simp] theorem State.raiseIf_tmp (s : State) (b : Bool) (code source : Nat) (p : Bytes) : (s.raiseIf b code source p).tmp = s.tmp := by cases b <;> rfl
@[simp] theorem State.raiseIf_sys (s : State) (b : Bool) (code source : Nat) (p : Bytes) : (s.raiseIf b code source p).sys = s.sys := by cases b <;> rfl
@[simp] theorem State.raiseIf_boot (s : State) (b : Bool) (code source : Nat) (p : Bytes) : (s.raiseIf b code source p).boot = s.boot := by cases b <;> rfl
@[simp] theorem State.raiseIf_clk (s : State) (b : Bool) (code source : Nat) (p : Bytes) : (s.raiseIf b code source p).clk = s.clk := by cases b <;> rfl
@[simp] theorem State.raiseIf_nvc (s : State) (b : Bool) (code source : Nat) (p : Bytes) : (s.raiseIf b code source p).nvc = s.nvc := by cases b <;> rfl
@[simp] theorem State.raiseIf_pwr (s : State) (b : Bool) (code source : Nat) (p : Bytes) : (s.raiseIf b code source p).pwr = s.pwr := by cases b <;> rfl
@[simp] theorem State.raiseIf_net (s : State) (b : Bool) (code source : Nat) (p : Bytes) : (s.raiseIf b code source p).net = s.net := by cases b <;> rfl
@[simp] theorem State.raiseIf_arc (s : State) (b : Bool) (code source : Nat) (p : Bytes) : (s.raiseIf b code source p).arc = s.arc := by cases b <;> rfl
@[simp] theorem State.raiseIf_signer (s : State) (b : Bool) (code source : Nat) (p : Bytes) : (s.raiseIf b code source p).signer = s.signer := by cases b <;> rfl
@[simp] theorem State.raiseIf_latches (s : State) (b : Bool) (code source : Nat) (p : Bytes) : (s.raiseIf b code source p).latches = s.latches := by cases b <;> rfl
@[simp] theorem State.raiseIf_sram (s : State) (b : Bool) (code source : Nat) (p : Bytes) : (s.raiseIf b code source p).sram = s.sram := by cases b <;> rfl
@[simp] theorem State.raiseIf_nv (s : State) (b : Bool) (code source : Nat) (p : Bytes) : (s.raiseIf b code source p).nv = s.nv := by cases b <;> rfl

@[simp] theorem State.modPort_port (s : State) (h : Host24) (f : Port → Port) : (s.modPort h f).port h = f (s.port h) := by
  simp [State.port]
@[simp] theorem State.modTt_ttOf (s : State) (h : Host24) (f : TtHost → TtHost) : (s.modTt h f).ttOf h = f (s.ttOf h) := by
  simp [State.ttOf]
@[simp] theorem State.modImg_imgOf (s : State) (h : Host24) (f : HostImg → HostImg) : (s.modImg h f).imgOf h = f (s.imgOf h) := by
  simp [State.imgOf]
@[simp] theorem State.modChan_chan (s : State) (c : Chan) (f : Channel → Channel) : (s.modChan c f).chan c = f (s.chan c) := by
  simp [State.chan]
theorem State.modPort_port_ne (s : State) {h k : Host24} (f : Port → Port) (e : k ≠ h) : (s.modPort h f).port k = s.port k := by
  simp [State.port, updV_get_ne _ _ e]
theorem State.modTt_ttOf_ne (s : State) {h k : Host24} (f : TtHost → TtHost) (e : k ≠ h) : (s.modTt h f).ttOf k = s.ttOf k := by
  simp [State.ttOf, updV_get_ne _ _ e]
theorem State.modImg_imgOf_ne (s : State) {h k : Host24} (f : HostImg → HostImg) (e : k ≠ h) : (s.modImg h f).imgOf k = s.imgOf k := by
  simp [State.imgOf, updV_get_ne _ _ e]
theorem State.modChan_chan_ne (s : State) {c k : Chan} (f : Channel → Channel) (e : k ≠ c) : (s.modChan c f).chan k = s.chan k := by
  simp [State.chan, updV_get_ne _ _ e]

@[simp] theorem State.modPort_keeps_ttOf (s : State) (h : Host24) (f : Port → Port) (k : Host24) : (s.modPort h f).ttOf k = s.ttOf k := rfl
@[simp] theorem State.modPort_keeps_imgOf (s : State) (h : Host24) (f : Port → Port) (k : Host24) : (s.modPort h f).imgOf k = s.imgOf k := rfl
@[simp] theorem State.modPort_keeps_chan (s : State) (h : Host24) (f : Port → Port) (k : Chan) : (s.modPort h f).chan k = s.chan k := rfl
@[simp] theorem State.modTt_keeps_port (s : State) (h : Host24) (f : TtHost → TtHost) (k : Host24) : (s.modTt h f).port k = s.port k := rfl
@[simp] theorem State.modTt_keeps_imgOf (s : State) (h : Host24) (f : TtHost → TtHost) (k : Host24) : (s.modTt h f).imgOf k = s.imgOf k := rfl
@[simp] theorem State.modTt_keeps_chan (s : State) (h : Host24) (f : TtHost → TtHost) (k : Chan) : (s.modTt h f).chan k = s.chan k := rfl
@[simp] theorem State.modImg_keeps_port (s : State) (h : Host24) (f : HostImg → HostImg) (k : Host24) : (s.modImg h f).port k = s.port k := rfl
@[simp] theorem State.modImg_keeps_ttOf (s : State) (h : Host24) (f : HostImg → HostImg) (k : Host24) : (s.modImg h f).ttOf k = s.ttOf k := rfl
@[simp] theorem State.modImg_keeps_chan (s : State) (h : Host24) (f : HostImg → HostImg) (k : Chan) : (s.modImg h f).chan k = s.chan k := rfl
@[simp] theorem State.modChan_keeps_port (s : State) (c : Chan) (f : Channel → Channel) (k : Host24) : (s.modChan c f).port k = s.port k := rfl
@[simp] theorem State.modChan_keeps_ttOf (s : State) (c : Chan) (f : Channel → Channel) (k : Host24) : (s.modChan c f).ttOf k = s.ttOf k := rfl
@[simp] theorem State.modChan_keeps_imgOf (s : State) (c : Chan) (f : Channel → Channel) (k : Host24) : (s.modChan c f).imgOf k = s.imgOf k := rfl
@[simp] theorem State.modPlc_keeps_port (s : State) (f : Placement → Placement) (k : Host24) : (s.modPlc f).port k = s.port k := rfl
@[simp] theorem State.modPlc_keeps_ttOf (s : State) (f : Placement → Placement) (k : Host24) : (s.modPlc f).ttOf k = s.ttOf k := rfl
@[simp] theorem State.modPlc_keeps_imgOf (s : State) (f : Placement → Placement) (k : Host24) : (s.modPlc f).imgOf k = s.imgOf k := rfl
@[simp] theorem State.modPlc_keeps_chan (s : State) (f : Placement → Placement) (k : Chan) : (s.modPlc f).chan k = s.chan k := rfl
@[simp] theorem State.modEvl_keeps_port (s : State) (f : Evl → Evl) (k : Host24) : (s.modEvl f).port k = s.port k := rfl
@[simp] theorem State.modEvl_keeps_ttOf (s : State) (f : Evl → Evl) (k : Host24) : (s.modEvl f).ttOf k = s.ttOf k := rfl
@[simp] theorem State.modEvl_keeps_imgOf (s : State) (f : Evl → Evl) (k : Host24) : (s.modEvl f).imgOf k = s.imgOf k := rfl
@[simp] theorem State.modEvl_keeps_chan (s : State) (f : Evl → Evl) (k : Chan) : (s.modEvl f).chan k = s.chan k := rfl
@[simp] theorem State.raise_port (s : State) (code source : Nat) (p : Bytes) (k : Host24) : (s.raise code source p).port k = s.port k := rfl
@[simp] theorem State.raiseIf_port (s : State) (b : Bool) (code source : Nat) (p : Bytes) (k : Host24) : (s.raiseIf b code source p).port k = s.port k := by cases b <;> rfl
@[simp] theorem State.raise_ttOf (s : State) (code source : Nat) (p : Bytes) (k : Host24) : (s.raise code source p).ttOf k = s.ttOf k := rfl
@[simp] theorem State.raiseIf_ttOf (s : State) (b : Bool) (code source : Nat) (p : Bytes) (k : Host24) : (s.raiseIf b code source p).ttOf k = s.ttOf k := by cases b <;> rfl
@[simp] theorem State.raise_imgOf (s : State) (code source : Nat) (p : Bytes) (k : Host24) : (s.raise code source p).imgOf k = s.imgOf k := rfl
@[simp] theorem State.raiseIf_imgOf (s : State) (b : Bool) (code source : Nat) (p : Bytes) (k : Host24) : (s.raiseIf b code source p).imgOf k = s.imgOf k := by cases b <;> rfl
@[simp] theorem State.raise_chan (s : State) (code source : Nat) (p : Bytes) (k : Chan) : (s.raise code source p).chan k = s.chan k := rfl
@[simp] theorem State.raiseIf_chan (s : State) (b : Bool) (code source : Nat) (p : Bytes) (k : Chan) : (s.raiseIf b code source p).chan k = s.chan k := by cases b <;> rfl

@[simp] theorem State.modPort_modPort (s : State) (h : Host24) (f g : Port → Port) : (s.modPort h f).modPort h g = s.modPort h (fun x => g (f x)) := by
  simp [State.modPort]

end Sys2Proof.Machine
end

