-- ==== Sys2Proof/Laws/Frames.lean ====
section
/-! SUPPORT. What taking a host frame does: the frame prelude, the clause of a control frame, and the log of a LOG clause. -/
namespace Sys2Proof.Machine

@[simp] theorem State.portTt_modPort (s : State) (h k : Host24) (f : Port → Port) : (s.modPort h f).portTt k = s.portTt k := rfl
@[simp] theorem State.hallPass_modPort (s : State) (h k : Host24) (f : Port → Port) : (s.modPort h f).hallPass k = s.hallPass k := rfl

/-- A frame on an idle port starts from the fresh port. -/
theorem idle_prelude (s : State) (h : Host24) (hi : s.portIdle h) :
    ((s.frameWake h).endFrame h).modPort h Port.newFrame = s.modPort h (fun _ => s.fresh h) := by
  obtain ⟨_, hp, hf, hq⟩ := hi
  have e1 : s.frameWake h = s := by simp [State.frameWake, hp]
  have e2 : s.endFrame h = s.modPort h (fun p => { p with frame := none }) := by
    simp [State.endFrame, hq]
  rw [e1, e2, State.modPort_modPort]
  simp only [State.modPort, updV, State.fresh, Port.newFrame]
  congr 1
  have : (s.ports.get h).frame = none := hf
  simp [this, State.port]

/-- An idle, unarmed port runs the frame's body on the fresh port. -/
theorem takeFrame_takes {s : State} {f : Frame} {op shape : Nat} (body : State → State) (ht : s.takes f op shape) (hs : shape ≠ 0x1D) :
    takeFrame op shape f body s = body (s.modPort f.port (fun _ => s.fresh f.port)) := by
  obtain ⟨hi, ha, he, hv, hsh⟩ := ht
  have hd := hi.1
  have hp := hi.2.1
  have pre := idle_prelude s f.port hi
  unfold takeFrame
  simp only [hd, Bool.not_true, Bool.false_eq_true, if_false, pre, hp]
  have a2 : (s.fresh f.port).armed = none := ha
  have a3 : (s.fresh f.port).cmd = (s.port f.port).cmd := rfl
  have hv' : ¬((s.port f.port).cmd = .d8 ∧ f.inverse ≠ ~~~(BitVec.ofNat 8 op)) := fun x => x.2 (hv x.1)
  simp [a2, a3, he, hsh, hs]
  intro x y
  exact absurd ⟨x, y⟩ hv'

/-- RST: the body runs with Reset Enable as it stood before the frame, and Reset Enable is clear after it. -/
theorem takeFrame_rst {s : State} {f : Frame} {op : Nat} (body : State → State) (ht : s.takes f op 0x1D) :
    takeFrame op 0x1D f body s =
      (body (s.modPort f.port (fun _ => { s.fresh f.port with rstEn := (s.port f.port).rstEn }))).modPort f.port fun p => { p with rstEn := false } := by
  obtain ⟨hi, ha, he, hv, hsh⟩ := ht
  have hd := hi.1
  have hp := hi.2.1
  have pre := idle_prelude s f.port hi
  unfold takeFrame
  simp only [hd, Bool.not_true, Bool.false_eq_true, if_false, pre, hp]
  have a2 : (s.fresh f.port).armed = none := ha
  have a3 : (s.fresh f.port).cmd = (s.port f.port).cmd := rfl
  have a4 : (s.fresh f.port).rstEn = false := rfl
  cases hr : (s.port f.port).rstEn
  · have e : ({ s.fresh f.port with rstEn := false } : Port) = s.fresh f.port := rfl
    simp only [e]
    simp [a2, a3, he, hsh]
    intro x y; exact absurd (hv x) y
  · simp [a2, a3, he, hsh]
    intro x y; exact absurd (hv x) y

/-- The log of a clause touches log times and the event log only. -/
theorem logClause_logOnly (s : State) (h : Host24) (i : Nat) (c : Clause) (a : Nat) :
    s.logClause h i c a = { s with tt := (s.logClause h i c a).tt, evl := (s.logClause h i c a).evl } ∧
      s.logOnly (s.logClause h i c a) (c.log = false) := by
  have key : ∀ l : List (Nat × Nat), ∀ k, (s.modTt h fun x => { x with logTimes := (i, s.timeBase.toNat) :: l }).ttOf k =
      { s.ttOf k with logTimes := ((s.modTt h fun x => { x with logTimes := (i, s.timeBase.toNat) :: l }).ttOf k).logTimes } := by
    intro l k
    by_cases e : k = h
    · subst e; simp
    · simp [State.modTt_ttOf_ne _ _ e]
  unfold State.logClause State.logOnly
  split
  · rename_i hl
    split
    · split
      · exact ⟨rfl, fun _ => rfl, fun _ => ⟨rfl, rfl⟩⟩
      · refine ⟨rfl, fun k => ?_, fun hq => by simp [hl] at hq⟩
        by_cases e : k = h
        · subst e; simp
        · simp [State.modTt_ttOf_ne _ _ e]
    · refine ⟨rfl, fun k => ?_, fun hq => by simp [hl] at hq⟩
      by_cases e : k = h
      · subst e; simp
      · simp [State.modTt_ttOf_ne _ _ e]
  · exact ⟨rfl, fun _ => rfl, fun _ => ⟨rfl, rfl⟩⟩

theorem State.logOnly_refl (s : State) (q : Prop) : s.logOnly s q := ⟨fun _ => rfl, fun _ => ⟨rfl, rfl⟩⟩

theorem modPort_eq_set (s : State) (h : Host24) (f : Port → Port) : s.modPort h f = { s with ports := s.ports.set h (f (s.port h)) } := rfl

theorem State.modPort_id (s : State) (h : Host24) : s.modPort h (fun p => p) = s := by
  have : updV s.ports h (fun p => p) = s.ports := updV_id _ _ _ rfl
  simp [State.modPort, this]

theorem State.portTo_modPort {s t : State} {h : Host24} {p : Port} {q : Prop} (g : Port → Port) (ht : s.portTo h p q t) :
    s.portTo h (g p) q (t.modPort h g) := by
  obtain ⟨e, l1, l2⟩ := ht
  refine ⟨?_, l1, l2⟩
  rw [e]; simp [State.modPort]

/-- A control body that only changes the port, on a port value `p`, under no clause that denies it. -/
theorem controlBody_passes {s : State} {f : Frame} {op shape : Nat} (hd pr : Bool) (p : Port) (g : Port → Port)
    (hc : p.cmd = (s.port f.port).cmd) (hp : s.ctlPasses f.port op shape) :
    s.portTo f.port (g p) (s.noLog f.port op shape 0)
      (controlBody op shape f hd pr (fun s => s.modPort f.port g) (s.modPort f.port (fun _ => p))) := by
  unfold controlBody
  simp only [State.portTt_modPort, State.hallPass_modPort, State.modPort_port, hc]
  cases hl : (s.portTt f.port).lookup op (ifaceMode (s.port f.port).cmd shape) 0 0 with
  | none => simp only [State.modPort_modPort]; exact ⟨rfl, s.logOnly_refl _⟩
  | some x =>
    obtain ⟨i, c⟩ := x
    have hn : effAction (s.hallPass f.port) c ≠ 2 := hp i c hl
    simp only [hn, if_false]
    have L := logClause_logOnly (s.modPort f.port fun _ => p) f.port i c 0
    generalize (s.modPort f.port fun _ => p).logClause f.port i c 0 = u at L
    obtain ⟨e, l1, l2⟩ := L
    refine ⟨?_, fun k => l1 k, fun hq => l2 (hq i c hl)⟩
    rw [e]
    simp [State.modPort, updV, State.port]

end Sys2Proof.Machine
end

