-- ==== Sys2Proof/Laws/Hash.lean ====
section
/-! SUPPORT. Sizes of digests, HMACs and the MACs of the Duner dictionary protocol. -/
namespace Sys2Proof.Hash
open Sys2Proof.Machine

@[simp] theorem leBytes_length (n v : Nat) : (leBytes n v).length = n := by
  induction n generalizing v with
  | zero => rfl
  | succ n ih => simp [leBytes, ih]

@[simp] theorem beBytes_length (n v : Nat) : (beBytes n v).length = n := by simp [beBytes]

/-- A SHA-2 state keeps its eight words. -/
theorem compress_length (f : Sha2) {st : List Nat} (h : st.length = 8) (b : Bytes) : (f.compress st b).length = 8 := by
  simp [Sha2.compress, Regs.list, h]

theorem blocks_length (f : Sha2) (n : Nat) : ∀ {st : List Nat} (_ : st.length = 8) (bs : Bytes), (f.blocks n st bs).length = 8 := by
  induction n with
  | zero => intro st h _; exact h
  | succ n ih => intro st h bs; exact ih (compress_length f h _) _

theorem stateBytes_length (f : Sha2) (st : List Nat) : (f.stateBytes st).length = st.length * (f.w / 8) := by
  induction st with
  | nil => simp [Sha2.stateBytes]
  | cons a st ih =>
    rw [show f.stateBytes (a :: st) = beBytes (f.w / 8) a ++ f.stateBytes st from rfl, List.length_append, ih, beBytes_length, List.length_cons,
      Nat.succ_mul, Nat.add_comm]

theorem finish_length (f : Sha2) {st : List Nat} (h : st.length = 8) (c : Nat) (bs : Bytes) : (f.finish st c bs).length = 8 * (f.w / 8) := by
  rw [Sha2.finish, stateBytes_length, Sha2.run, blocks_length f _ h]

@[simp] theorem sha256_length (bs : Bytes) : (sha256 bs).length = 32 := finish_length fam256 rfl 0 bs

@[simp] theorem hmac_length (key msg : Bytes) : (hmac 1 key msg).length = 32 := by
  have d (b : Bytes) : (digest 1 0 b).length = 32 := by
    simp [digest, famOf, initState, outSize, finish_length fam256 (st := h256) rfl]; rfl
  exact d _

end Sys2Proof.Hash

namespace Sys2Proof.Machine

@[simp] theorem macOf_length (key : Bytes) (d : Nat) (np nc m : Bytes) : (macOf key d np nc m).length = 16 := by simp [macOf]

end Sys2Proof.Machine
end

