-- ==== Sys2Proof/Laws/Mem.lean ====
section
/-! SUPPORT. The sparse byte memory: what a read returns after each operation, and that every operation keeps the canonical form. -/
namespace Sys2Proof.Machine

@[simp] theorem Mem.read_nil (d : Byte) (a : Nat) : Mem.read d [] a = d := rfl

theorem Mem.read_put (d : Byte) (m : Mem) (a c : Nat) (b : Byte) : (m.put a b).read d c = if c = a then b else m.read d c := by
  induction m with
  | nil => by_cases h : a = c <;> simp [Mem.put, Mem.read, h, eq_comm]
  | cons x r ih =>
    obtain ⟨k, v⟩ := x
    simp only [Mem.put]
    split
    · by_cases h : c = a
      · simp [Mem.read, h]
      · have : ¬ a = c := fun e => h e.symm
        simp [Mem.read, h, this]
    · split
      · rename_i h1 h2
        subst h2
        by_cases h : c = a
        · simp [Mem.read, h]
        · have : ¬ a = c := fun e => h e.symm
          simp [Mem.read, h, this]
      · rename_i h1 h2
        simp only [Mem.read]
        by_cases h : k = c
        · have : ¬ c = a := by omega
          simp [h, this]
        · simp [h, ih]

theorem Mem.read_del (d : Byte) (m : Mem) (a c : Nat) : (m.del a).read d c = if c = a then d else m.read d c := by
  induction m with
  | nil => simp [Mem.del]
  | cons x r ih =>
    obtain ⟨k, v⟩ := x
    simp only [Mem.del] at ih ⊢
    by_cases h : k = a
    · subst h
      simp only [List.filter_cons, bne_self_eq_false, Bool.false_eq_true, if_false, ih, Mem.read]
      by_cases h : c = k
      · simp [h]
      · have : ¬ k = c := fun e => h e.symm
        simp [h, this]
    · simp only [List.filter_cons, bne_iff_ne, ne_eq, h, not_false_eq_true, if_true, Mem.read, ih]
      by_cases hc : k = c
      · have : ¬ c = a := by omega
        simp [hc, this]
      · simp [hc]

/-- A read after a write. -/
theorem Mem.read_write (d : Byte) (m : Mem) (a c : Nat) (b : Byte) : (m.write d a b).read d c = if c = a then b else m.read d c := by
  unfold Mem.write
  split
  · rename_i h
    rw [Mem.read_del, h]
  · exact Mem.read_put ..

theorem Mem.read_writeN (d : Byte) (bs : Bytes) (m : Mem) (a c : Nat) :
    (m.writeN d a bs).read d c = if a ≤ c ∧ c < a + bs.length then bs.getD (c - a) d else m.read d c := by
  induction bs generalizing m a with
  | nil => simp [Mem.writeN] <;> omega
  | cons b bs ih =>
    simp only [Mem.writeN, ih, Mem.read_write, List.length_cons]
    by_cases h : c = a
    · subst h
      have : ¬ (c + 1 ≤ c ∧ c < c + 1 + bs.length) := by omega
      rw [if_neg this]
      simp
    · by_cases h1 : a + 1 ≤ c ∧ c < a + 1 + bs.length
      · have h2 : a ≤ c ∧ c < a + (bs.length + 1) := by omega
        obtain ⟨n, rfl⟩ : ∃ n, c = a + (n + 1) := ⟨c - a - 1, by omega⟩
        have e1 : a + (n + 1) - (a + 1) = n := by omega
        have e2 : a + (n + 1) - a = n + 1 := by omega
        rw [if_pos h1, if_pos h2, e1, e2]
        simp
      · have h2 : ¬ (a ≤ c ∧ c < a + (bs.length + 1)) := by omega
        rw [if_neg h1, if_neg h2, if_neg h]

theorem Mem.read_eraseN (d : Byte) (m : Mem) (a n c : Nat) :
    (m.eraseN a n).read d c = if a ≤ c ∧ c < a + n then d else m.read d c := by
  induction m with
  | nil => simp [Mem.eraseN]
  | cons x r ih =>
    obtain ⟨k, v⟩ := x
    simp only [Mem.eraseN] at ih ⊢
    by_cases h : k < a ∨ a + n ≤ k
    · have hk : (decide (k < a) || decide (a + n ≤ k)) = true := by simpa using h
      simp only [List.filter_cons, hk, if_true, Mem.read, ih]
      by_cases hc : k = c
      · have : ¬ (a ≤ c ∧ c < a + n) := by omega
        simp [hc, this]
      · simp [hc]
    · have hk : (decide (k < a) || decide (a + n ≤ k)) = false := by simpa using h
      simp only [List.filter_cons, hk, Bool.false_eq_true, if_false, ih, Mem.read]
      by_cases hc : k = c
      · have : a ≤ c ∧ c < a + n := by omega
        simp [this]
      · simp [hc]

@[simp] theorem Mem.readN_length (d : Byte) (m : Mem) (n a : Nat) : (m.readN d a n).length = n := by
  induction n generalizing a with
  | zero => rfl
  | succ n ih => simp [Mem.readN, ih]

theorem Mem.readN_getD (d : Byte) (m : Mem) (n a i : Nat) : (m.readN d a n).getD i d = if i < n then m.read d (a + i) else d := by
  induction n generalizing a i with
  | zero => simp [Mem.readN]
  | succ n ih =>
    cases i with
    | zero => simp [Mem.readN]
    | succ i =>
      have e : a + 1 + i = a + (i + 1) := by omega
      have := ih (a + 1) i
      simp only [Mem.readN, List.getD_cons_succ, this, e]
      simp

/-! ## The canonical form -/

theorem Mem.wf_iff (d : Byte) (m : Mem) : m.wf d = true ↔ (m.map Prod.fst).Pairwise (· < ·) ∧ ∀ c ∈ m, c.2 ≠ d := by
  simp [Mem.wf]

@[simp] theorem Mem.wf_nil (d : Byte) : Mem.wf d [] = true := rfl

theorem Mem.wf_filter {d : Byte} {m : Mem} (p : Host.Cell → Bool) (h : m.wf d = true) : Mem.wf d (m.filter p) = true := by
  rw [Mem.wf_iff] at h ⊢
  refine ⟨?_, fun c hc => h.2 c (List.mem_filter.1 hc).1⟩
  exact (h.1.sublist ((List.filter_sublist (p := p)).map _))

theorem Mem.mem_put {m : Mem} {a : Nat} {b : Byte} {c : Host.Cell} (h : c ∈ m.put a b) : c = (a, b) ∨ c ∈ m := by
  induction m with
  | nil => simpa [Mem.put] using h
  | cons x r ih =>
    obtain ⟨k, v⟩ := x
    simp only [Mem.put] at h
    split at h
    · simpa using h
    · split at h
      · simp at h; rcases h with h | h
        · exact .inl h
        · exact .inr (by simp [h])
      · simp at h; rcases h with h | h
        · exact .inr (by simp [h])
        · rcases ih h with h | h
          · exact .inl h
          · exact .inr (by simp [h])

theorem Mem.wf_put {d : Byte} {m : Mem} {a : Nat} {b : Byte} (hb : b ≠ d) (h : m.wf d = true) : Mem.wf d (m.put a b) = true := by
  rw [Mem.wf_iff] at h ⊢
  refine ⟨?_, fun c hc => ?_⟩
  · replace h := h.1
    induction m with
    | nil => simp [Mem.put]
    | cons x r ih =>
      obtain ⟨k, v⟩ := x
      simp only [List.map_cons, List.pairwise_cons] at h
      simp only [Mem.put]
      split
      · rename_i hk
        simp only [List.map_cons, List.pairwise_cons]
        refine ⟨?_, h⟩
        intro y hy
        simp only [List.mem_cons] at hy
        rcases hy with rfl | hy
        · exact hk
        · exact Nat.lt_trans hk (h.1 y hy)
      · split
        · rename_i h1 h2
          subst h2
          simpa using h
        · rename_i h1 h2
          simp only [List.map_cons, List.pairwise_cons]
          refine ⟨?_, ih h.2⟩
          intro y hy
          obtain ⟨c, hc, rfl⟩ := List.mem_map.1 hy
          rcases Mem.mem_put hc with rfl | hc
          · show k < a; omega
          · exact h.1 _ (List.mem_map_of_mem hc)
  · rcases Mem.mem_put hc with rfl | hc
    · exact hb
    · exact h.2 c hc

theorem Mem.wf_write {d : Byte} {m : Mem} {a : Nat} {b : Byte} (h : m.wf d = true) : Mem.wf d (m.write d a b) = true := by
  unfold Mem.write
  split
  · exact Mem.wf_filter _ h
  · exact Mem.wf_put ‹_› h

theorem Mem.wf_writeN {d : Byte} (bs : Bytes) {m : Mem} {a : Nat} (h : m.wf d = true) : Mem.wf d (m.writeN d a bs) = true := by
  induction bs generalizing m a with
  | nil => exact h
  | cons b bs ih => exact ih (Mem.wf_write h)

theorem Mem.wf_eraseN {d : Byte} {m : Mem} {a n : Nat} (h : m.wf d = true) : Mem.wf d (m.eraseN a n) = true := Mem.wf_filter _ h

end Sys2Proof.Machine
end

