-- ==== Sys2Proof/Laws/Messages.lean ====
section
/-! SUPPORT. Fields of joined bytes, and what a message with a MAC parses to. -/
namespace Sys2Proof

theorem field_head {b c : Bytes} {o n : Nat} (h : o + n ≤ b.length) : field (b ++ c) o n = field b o n := by
  have e : ((b ++ c).drop o).take n = (b.drop o).take n := by
    rw [List.drop_append_of_le_length (by omega), List.take_append_of_le_length (by simp; omega)]
  simp only [field, e]
theorem field_mid {b c d : Bytes} : field (b ++ c ++ d) b.length c.length = c := by
  simp [field, List.append_assoc]
theorem u8_head {b c : Bytes} {o : Nat} (h : o + 1 ≤ b.length) : u8 (b ++ c) o = u8 b o := by simp only [u8, u, field_head h]
theorem u16_head {b c : Bytes} {o : Nat} (h : o + 2 ≤ b.length) : u16 (b ++ c) o = u16 b o := by simp only [u16, u, field_head h]
theorem u32_head {b c : Bytes} {o : Nat} (h : o + 4 ≤ b.length) : u32 (b ++ c) o = u32 b o := by simp only [u32, u, field_head h]

end Sys2Proof

namespace Sys2Proof.Machine

theorem ite_none {α : Type} {C : Prop} [Decidable C] {z y : α} : (if C then none else some z) = some y ↔ ¬C ∧ y = z := by
  by_cases h : C <;> simp [h, eq_comm]

/-- What a message with a MAC parses to depends on the MAC in the MAC alone. -/
theorem parse_mac {p : NetPort} {b mac pad : Bytes} {x : Msg} (hm : mac.length = 16) (hb : 12 ≤ b.length) (hl : u16 b 2 = b.length + 16) (hs : u8 b 4 ≠ 0)
    (h : Msg.parse p (b ++ List.replicate 16 0 ++ pad) = some x) : Msg.parse p (b ++ mac ++ pad) = some { x with mac := mac } := by
  have hz : (List.replicate 16 0).length = 16 := rfl
  have key : ∀ c : Bytes, c.length = 16 → ∀ y, Msg.parse p (b ++ c ++ pad) = some y ↔
      (¬ ((b.length + 16 + pad.length) < 12 ∨ u8 b 0 / 16 ≠ 1 ∨ 12 < u8 b 0 % 16 ∨ (b.length + 16) < 28 ∨ b.length + 16 + pad.length ≠ frameBytes p (b.length + 16) ∨
        (if p.val < 4 then 63 else 1500) < b.length + 16 ∨ !bodyFits (u8 b 0 % 16) (b.length + 16 - 28) ∨ u16 b 6 ≠ 0 ∨
        2 ^ (if flagBits (u8 b 0 % 16) = 0 then 0 else if flagBits (u8 b 0 % 16) = 1 then 1 else 2) ≤ u8 b 1 ∨ !reservedOk (u8 b 0 % 16) (field b 12 (b.length + 16 - 28)))) ∧
      y = { typ := u8 b 0 % 16, flags := u8 b 1, session := u8 b 4, xid := u8 b 5, seq := u32 b 8, body := field b 12 (b.length + 16 - 28), signed := b, mac := c } := by
    intro c hc y
    simp only [Msg.parse, List.append_assoc]
    rw [u8_head (by omega), u16_head (by omega), u8_head (by omega), u8_head (by omega), u8_head (by omega), u32_head (by omega), u16_head (by omega), hl]
    simp only [if_neg hs]
    rw [field_head (by omega)]
    have f := field_mid (b := b) (c := c) (d := pad)
    rw [hc, List.append_assoc] at f
    have t : (b ++ (c ++ pad)).take (b.length + 16 - 16) = b := by simp
    have l : (b ++ (c ++ pad)).length = b.length + 16 + pad.length := by simp [hc]; omega
    rw [t, l, show b.length + 16 - 16 = b.length by omega, f]
    exact ite_none
  obtain ⟨h1, h2⟩ := (key _ hz x).1 h
  exact (key _ hm _).2 ⟨h1, by rw [h2]⟩

end Sys2Proof.Machine
end

