-- ==== Sys2Proof/WellFormed.lean ====
section
/-! DEFINITION. The operands that a command can carry: what the types of Syntax leave too wide is bounded here. The meanings are total, so
nothing rests on these bounds but what an operand stands for. -/
namespace Sys2Proof.WellFormed
open Sys2Proof

/-- A select can stay low only after a whole unit (Table 2.9). -/
def okFrame (f : Frame) : Bool := !f.keepsSelect || f.ending = .whole
/-- An extent index (R127). -/
def okExtent (e : Nat) : Bool := e < 4096
/-- An entropy block is 1,024 raw bits (R392). -/
def okRaw (raw : Bytes) : Bool := raw.length = 128
/-- A session number (R310). -/
def okSession (k : Nat) : Bool := 1 ≤ k && k ≤ 16
/-- Session 0 stands for none; roles 1 to 4, 0 for none. -/
def okCaller (c : Caller) : Bool := c.session ≤ 16 && c.role ≤ 4
/-- A partner's address is 6 bytes (R308). -/
def okAddr (a : Bytes) : Bool := a.length = 6
/-- The byte offset in SRAM of a word of 8 bytes. -/
def okSramWord (w : Option Nat) : Bool := w.elim true fun o => o % 8 = 0 && o < 0x1000000
def okTorn (t : TornPage) : Bool := t.vpage < 2 ^ 20
/-- A rank of Table 12.5 and a class of Table 3.6. -/
def okOffer (j : JobOffer) : Bool := 1 ≤ j.rank && j.rank ≤ 8 && j.cls < 8
/-- Data lengths of CAN and CAN FD. -/
def okCan (f : CanFrame) : Bool := f.data.length ≤ (if f.fd then 64 else 8)
def okT1s (f : T1sFrame) : Bool := f.dst.length = 6 && f.src.length = 6 && f.payload.length ≤ 1500
def okKey (t : XferKey) : Bool := t.session ≤ 16 && okAddr t.addr
/-- A sample of a sensor, in 0.1 °C. -/
def okTemp (t : Option Int) : Bool := t.elim true fun x => -2000 ≤ x && x ≤ 3000
/-- An ID of at most 6 bytes, and label reads of 32 bytes. -/
def okAnswers (a : DeviceAnswers) : Bool :=
  a.idBytes.length ≤ 6 && (a.label.isEmpty || a.label.length = 32) && (a.label2.isEmpty || a.label2.length = 32)

end Sys2Proof.WellFormed

namespace Sys2Proof
open WellFormed

/-- The command's operands are such as the hardware can meet. -/
def Instr.wellFormed (i : Instr) : Bool :=
  match i with
  | .read f => okFrame f
  | .read4 f => okFrame f
  | .fast f => okFrame f
  | .fast4 f => okFrame f
  | .dualIo f => okFrame f
  | .quadIo f => okFrame f
  | .octalIo f => okFrame f
  | .ddrRead f => okFrame f
  | .contReadFrame f => okFrame f
  | .pp4 f => okFrame f
  | .pp f => okFrame f
  | .se4k4 f => okFrame f
  | .se4k f => okFrame f
  | .be64k4 f => okFrame f
  | .be64k f => okFrame f
  | .eraseAll f => okFrame f
  | .wren f => okFrame f
  | .wrdi f => okFrame f
  | .rdsr f => okFrame f
  | .rdfsr f => okFrame f
  | .clfsr f => okFrame f
  | .wrsr f => okFrame f
  | .wrmr f => okFrame f
  | .rdmr f => okFrame f
  | .en4b f => okFrame f
  | .ex4b f => okFrame f
  | .rdid f => okFrame f
  | .rdsfdp f => okFrame f
  | .rsten f => okFrame f
  | .rst f => okFrame f
  | .dp f => okFrame f
  | .res f => okFrame f
  | .mbw f => okFrame f
  | .mbr f => okFrame f
  | .unknownOpcode f => okFrame f
  | .rdyTimeout _ => true
  | .nativeTimeout _ => true
  | .lineBufferFilled _ _ => true
  | .prefetchFillDone _ _ => true
  | .writeDurable _ => true
  | .hpwMbGo _ _ => true
  | .hpwAttnWrite _ _ => true
  | .hpwLtvWrite _ _ => true
  | .hpwHealthWrite _ _ => true
  | .hpwStatClear _ _ => true
  | .archiveAppend _ => true
  | .cardMake _ => true
  | .cardRead _ => true
  | .counterIncrement _ => true
  | .counterRead _ => true
  | .keyedDigest _ => true
  | .plainDigest _ => true
  | .eventLogRead _ => true
  | .timeRead _ => true
  | .archiveRead _ => true
  | .keySlotStatusRead _ => true
  | .mailboxServiceDone _ => true
  | .ttbReadyWrite _ => true
  | .ttbCommit _ => true
  | .ttSwitchPoint _ => true
  | .pendLong _ => true
  | .selectDiscovery _ _ a => okAnswers a
  | .retire _ _ => true
  | .retireComplete _ _ => true
  | .park _ => true
  | .unpark _ => true
  | .admitSelect _ _ _ => true
  | .admitComplete _ _ _ => true
  | .transferStart _ => true
  | .transferCut _ _ => true
  | .statusPoll _ => true
  | .deviceOperationComplete _ _ _ => true
  | .pageReadDone _ _ _ => true
  | .commandTimeout _ _ _ => true
  | .fcRdyRise _ => true
  | .fcRdyTimeout _ => true
  | .bellSlotBoundary => true
  | .fccBellReadyWrite _ _ => true
  | .fccBellCommit _ => true
  | .bellCommitTakeEffect => true
  | .relocationStart _ e _ _ _ => okExtent e
  | .relocationPageCopied _ e => okExtent e
  | .relocationCommit _ e => okExtent e
  | .checkpointDone => true
  | .relocationDrainDone _ e => okExtent e
  | .relocationDeadline _ e => okExtent e
  | .plcDiscardWrite _ => true
  | .shadowDiscardDone _ => true
  | .stgWaitTimeout _ => true
  | .journalSpaceAvailable _ => true
  | .registrarPowerUp torn => torn.all okTorn
  | .scanComplete => true
  | .steadyExit => true
  | .placementRelease _ e => okExtent e
  | .placementRecreate _ e => okExtent e
  | .powerOn who _ => okCaller who
  | .powerOff who _ => okCaller who
  | .hold who _ => okCaller who
  | .retry who _ => okCaller who
  | .settleMsElapsed _ => true
  | .imageSelection _ => true
  | .hostRelease _ => true
  | .blockVerified _ _ _ => true
  | .hallRelease _ => true
  | .sweepDeadline _ => true
  | .keyRevoke who _ => okCaller who
  | .dgcSubmit _ _ => true
  | .dgcResRel _ _ => true
  | .dgcAbort _ _ => true
  | .dgcResDin _ _ _ => true
  | .dgcLastw _ _ _ => true
  | .jobStart _ => true
  | .jobComplete _ => true
  | .jobStall _ => true
  | .sigVerifyStart => true
  | .sigVerifyAbort => true
  | .sigVerifyDone => true
  | .bundlePiece who _ => okCaller who
  | .checkingComplete _ => true
  | .activate who => okCaller who
  | .discard who => okCaller who
  | .abandon who => okCaller who
  | .activation => true
  | .actWaitTimeout => true
  | .trialDeadline => true
  | .confirmation => true
  | .patStart => true
  | .patAbort => true
  | .patDone pages _ => decide (pages ≤ 2 ^ 20)
  | .archiveCreate who => okCaller who
  | .sealNow who => okCaller who
  | .termBoundary => true
  | .sealCompute => true
  | .pageFlushDone => true
  | .partnerAppend who _ => okCaller who
  | .exportAck who _ => okCaller who
  | .pageSelect who _ => okCaller who
  | .termSelect who _ => okCaller who
  | .cardRequest who _ => okCaller who
  | .utcSet who _ => okCaller who
  | .sigScmdStart => true
  | .signatureDone => true
  | .paceTokenRefill => true
  | .canFrameReceived _ f => okCan f
  | .t1sFrameReceived _ f => okT1s f
  | .rollcall m => okAddr m.addr
  | .openReq m => okAddr m.addr
  | .openProof m => okAddr m.addr
  | .close m => okAddr m.addr
  | .reqRead m => okAddr m.addr
  | .reqWrite m => okAddr m.addr
  | .reqNop m => okAddr m.addr
  | .segInit m => okAddr m.addr
  | .segData m => okAddr m.addr
  | .segAck m => okAddr m.addr
  | .segEnd m => okAddr m.addr
  | .abort m => okAddr m.addr
  | .rollcallInterval => true
  | .halfOpenTimeout k => okSession k
  | .sessionIdleTimeout k => okSession k
  | .gapAckTimer t => okKey t
  | .transferRetransmitTimer t => okKey t
  | .lockoutExpiry _ addr => okAddr addr
  | .apply who => okCaller who
  | .applyTakeEffect => true
  | .applyValidationTimeout => true
  | .keyDerivation who _ => okCaller who
  | .timetableWrite who _ _ => okCaller who
  | .bellScheduleWrite who _ _ => okCaller who
  | .gateSetWrite who _ => okCaller who
  | .counterAdvance who _ => okCaller who
  | .nvcWrite => true
  | .nvWordWriteDone _ => true
  | .powerStateEntry _ => true
  | .p1Exit => true
  | .hostSelectWake _ => true
  | .networkWake _ => true
  | .wakeTimer => true
  | .jobAdmission offers => offers.all okOffer
  | .sensorSample a b c d => okTemp a && okTemp b && okTemp c && okTemp d
  | .holdupSample vBall _ => decide (vBall < 2048)
  | .keyLoad _ _ => true
  | .keyGenerate _ _ => true
  | .generateDone => true
  | .keyCmdRevoke _ _ _ => true
  | .ctrIncrement _ => true
  | .ctrAdvance _ => true
  | .entropyBlock raw => okRaw raw
  | .rngGenStart => true
  | .rngGenReseed _ => true
  | .drbgReseedDue => true
  | .drbgRequestDone => true
  | .gateClr _ _ => true
  | .gateRegionWrite _ _ _ _ _ => true
  | .lcTransitionRequest who _ => okCaller who
  | .lccCmd _ _ => true
  | .fuseWriteDone _ _ _ _ => true
  | .debugChallenge who => okCaller who
  | .debugResponse who _ => okCaller who
  | .dbgLock => true
  | .dbgClrSticky => true
  | .dbgChal => true
  | .dbgProvOpen => true
  | .dbgProvClose => true
  | .dbgResponseSubmit _ => true
  | .debugDurationExpiry => true
  | .challengeExpiry session => decide (session ≤ 16)
  | .challengeSuspendEnd => true
  | .extest => true
  | .samplePreload => true
  | .idcode => true
  | .clamp => true
  | .highz => true
  | .dbgreg _ _ => true
  | .dbgmem _ _ => true
  | .bypass => true
  | .tapReset => true
  | .tmpCfgWrite _ _ => true
  | .powerOnReset burnt => decide (burnt.length ≤ 4)
  | .brownOutVdd burnt => decide (burnt.length ≤ 4)
  | .brownOutVddio burnt => decide (burnt.length ≤ 4)
  | .porstPin => true
  | .clockFailure _ => true
  | .vddWarn => true
  | .romColdStart _ => true
  | .sysRestartWarm _ => true
  | .sysRestartReady => true
  | .wdtEnable _ => true
  | .wdtKick => true
  | .wdtExpiry => true
  | .cwdtExpiry => true
  | .cwdtOff _ => true
  | .sysRload _ _ => true
  | .recoveryActivate who => okCaller who
  | .pllNetLoss => true
  | .clkNetpllRelock => true
  | .x32Fail => true
  | .clkUtcSet _ => true
  | .timeBaseFloorSave => true
  | .evlRaise _ => true
  | .eventRecordWritten => true
  | .sramPatrol _ unc => okSramWord unc
  | .tamperChange _ _ => true
  | .hcsPwrenWrite _ => true
  | .hcsRunWrite _ => true
  | .hcsEgrWrite _ => true
  | .hcsPendExpiry _ => true
  | .writeRegister _ _ _ => true
  | .vddWarnClear => true
  | .canErrorStateChange _ _ _ _ => true
  | .plcaStatusChange _ _ _ => true
  | .pllNetRelocked => true
  | .x32Ok => true
  | .fcPwrenDrivenLow _ => true
  | .drbgReseedForced => true

end Sys2Proof
end

