-- ==== Sys2Proof/Tests/Slice0.lean ====
section
/-! SUPPORT. The model's own tests: an ill-formed command for each check of WellFormed, for every statement a state and operands that meet the
hypotheses of each of its clauses, and single steps on small states with results from the spec. -/
namespace Sys2Proof.Tests
set_option maxRecDepth 100000
open Sys2Proof Sys2Proof.Machine

/-! ## Benches -/

/-- The Timetable of the bench host: every opcode in its standard shape, over the clauses given. -/
def benchTt (cs : List Clause) : Timetable :=
  { factoryTimetable 0 with
    flags := 0, vsizePages := 4096, modesPermitted := 7, serviceMask := 0x7FE, clauses := cs, cfg := 0x0088FF01
    index := (List.range 256).map fun op =>
      (if op = 0xE3 then 0x20 else if op = 0xE4 then 0x21 else standardShape op) * 2 ^ 19 + cs.length * 2 ^ 12
    ranges := [{ base := 0, last := 0xFFFFFFFF, attr := 0, rsvd := 0 }] }

/-- A clause for every opcode, mode and address, with an action. -/
def anyClause (action : Nat) : Clause := { w0 := 0x3F0000, w1 := action * 2 ^ 16, w2 := 0, w3 := 0 }

/-- Host 0 runs under `t`, with its port at `p`, and the firmware runs. -/
def bench (t : Timetable) (p : Port) : State :=
  { State.reset with
    tt := State.reset.tt.set 0 { bankA := some t }
    img := State.reset.img.set 0 { state := .running }
    ports := State.reset.ports.set 0 { p with cfg := 0x0088FF01 ||| p.cfg }
    sys := { State.reset.sys with inRom := false } }

def b0 : State := bench (benchTt []) {}
def fr : Frame := { port := 0 }

/-- What a command answers, and the state right after reset where it answers none. -/
def after (o : Host.Outcome State Fault Refusal) : State := match o with | .next s => s | _ => State.reset

/-- An extent of host 0 at page 0 with one copy. -/
def ext0 : Extent := { index := 7, vbase := 0, pages := 16, copy0 := { valid := true, chan := 1, sel := 0, dpage := 64 } }
/-- Select 0 of channel 1 is a READY NOR device. -/
def withSel (s : State) (x : Select) : State :=
  { s with chans := s.chans.set 1 { s.chans.get 1 with en := true, sels := (s.chans.get 1).sels.set 0 x } }
def nor : Select := { state := .ready, cls := 1, densityMbit := 1024 }
def b1 : State := withSel { b0 with plc := { b0.plc with extents := b0.plc.extents.set 0 [ext0], scanning := false } } nor

theorem passes_of_none {s : State} {h : Host24} {op shape : Nat} (e : s.clauseAt h op shape 0 = none) : s.ctlPasses h op shape := by
  intro i c hc; rw [e] at hc; cases hc
theorem quiet_of_none {s : State} {h : Host24} {op shape a : Nat} (e : s.clauseAt h op shape a = none) : s.noLog h op shape a := by
  intro i c hc; rw [e] at hc; cases hc

/-! ## A signature of one level of the type SHA-256/192 with height 5, whose bytes are zero, and a public key that it matches -/

def zs (n : Nat) : Bytes := List.replicate n 0
def testSig : Bytes := beBytes 4 0 ++ beBytes 4 0 ++ beBytes 4 8 ++ zs 648 ++ beBytes 4 10 ++ zs 120
def testRoot (msg : Bytes) : Bytes :=
  Lms.climb 1 (zs 16) 5 32 (zs 120) (Lms.H 1 (zs 16 ++ beBytes 4 32 ++ [0x82, 0x82] ++ Lms.otsCandidate { fam := 1, w := 8 } (zs 16) 0 (zs 24) (zs 624) msg))
def testKey (msg : Bytes) : Bytes := beBytes 4 1 ++ (beBytes 4 10 ++ (beBytes 4 8 ++ (zs 16 ++ testRoot msg)))
theorem parse_sig (root : Bytes) : Lms.parseLevels 1 1 0 (Lms.Pub.parse ((beBytes 4 1 ++ (beBytes 4 10 ++ (beBytes 4 8 ++ (zs 16 ++ root)))).drop 4)) (testSig.drop 4) =
   .ok [{ key := { lms := 10, ots := 8, I := zs 16, root := root }, q := 0, ots := { fam := 1, w := 8 }, h := 5, c := zs 24, y := zs 624, path := zs 120, next := none }] := by
  have k : Lms.Pub.parse ((beBytes 4 1 ++ (beBytes 4 10 ++ (beBytes 4 8 ++ (zs 16 ++ root)))).drop 4) = { lms := 10, ots := 8, I := zs 16, root := root } := rfl
  rw [k]
  rfl
theorem verify_test (msg : Bytes) : Lms.verify (testKey msg) testSig (some msg) = (0, 0) := by
  have hp := parse_sig (testRoot msg)
  have e1 : ¬ (testSig.length < 1 ∨ 16384 < testSig.length) := by decide
  have e2 : Lms.lmsType (Lms.Pub.parse ((testKey msg).drop 4)).lms = some (1, 5) := by
    rw [show Lms.Pub.parse ((testKey msg).drop 4) = { lms := 10, ots := 8, I := zs 16, root := testRoot msg } from rfl]; show Lms.lmsType 10 = some (1, 5); decide
  have e3 : beNat (field (testKey msg) 0 4) = 1 := rfl
  have e4 : ¬ (beNat (field testSig 0 4) + 1 ≠ 1 ∨ testSig.length < 4 ∨ 8 < 1) := by decide
  unfold Lms.verify
  rw [if_neg e1]
  simp only [e3]
  rw [if_neg e4]
  simp only [e2]
  rw [show Lms.parseLevels 1 1 0 (Lms.Pub.parse ((testKey msg).drop 4)) (testSig.drop 4) = _ from hp]
  simp [Lms.Level.good, testRoot, Lms.rPass]

/-- Slot `k` holds a verification key for every class and use. -/
def keyed (s : State) (k : Fin 64) (key : Bytes) : State :=
  { s with keys := { s.keys with slots := s.keys.slots.set k { typ := 3, policy := 0xFFFF00FF, key := key } } }

/-! ## Witnesses: the queue, host frames and the mailbox -/

theorem witness_StepRunsFront : ({ State.reset with pending := [.wdtKick] } : State).pending = [.wdtKick] := rfl
theorem witness_EmptyQueueTicks : State.reset.pending = [] := rfl

theorem witness_ControlFrames :
    (∀ x ∈ [(0x06, 0x10), (0x04, 0x11), (0x50, 0x14), (0x01, 0x15), (0xB7, 0x18), (0xE9, 0x19), (0x66, 0x1C), (0x99, 0x1D), (0xB9, 0x1E), (0xAB, 0x1F),
      (0x05, 0x12), (0x70, 0x13), (0x85, 0x17), (0x9F, 0x1A), (0x5A, 0x1B)], b0.takes fr x.1 x.2 ∧ b0.ctlPasses fr.port x.1 x.2) ∧
    (bench (benchTt []) { rstEn := true }).takes fr 0x99 0x1D ∧ (bench (benchTt []) { rstEn := true }).ctlPasses 0 0x99 0x1D ∧
    ((bench (benchTt []) { rstEn := true }).port 0).rstEn = true ∧ (b0.port 0).rstEn = false := by
  have k : ∀ x ∈ [(0x06, 0x10), (0x04, 0x11), (0x50, 0x14), (0x01, 0x15), (0xB7, 0x18), (0xE9, 0x19), (0x66, 0x1C), (0x99, 0x1D), (0xB9, 0x1E), (0xAB, 0x1F),
      (0x05, 0x12), (0x70, 0x13), (0x85, 0x17), (0x9F, 0x1A), (0x5A, 0x1B)], b0.takes fr x.1 x.2 ∧ b0.clauseAt fr.port x.1 x.2 0 = none := by
    unfold State.takes State.portIdle State.inverseOk; decide
  refine ⟨fun x hx => ⟨(k x hx).1, passes_of_none (k x hx).2⟩, ?_, passes_of_none (by decide), by decide, by decide⟩
  unfold State.takes State.portIdle State.inverseOk; decide

/-- Write Mode Register: without WEL, accepted, with no command state, and forbidden by the Timetable. -/
theorem witness_WriteModeRegister :
    let w := bench (benchTt []) { wel := true }
    let n := bench { benchTt [] with modesPermitted := 1 } { wel := true }
    b0.takes fr 0x81 0x16 ∧ (b0.port 0).wel = false ∧ w.takes fr 0x81 0x16 ∧ (w.port 0).wel = true ∧ w.ctlPasses 0 0x81 0x16 ∧
    modeOfByte 0x08 = some (.d8, 2) ∧ bit (w.portTt 0).modesPermitted 2 = true ∧ modeOfByte 0x01 = none ∧
    n.takes fr 0x81 0x16 ∧ (n.port 0).wel = true ∧ n.ctlPasses 0 0x81 0x16 ∧ bit (n.portTt 0).modesPermitted 2 = false ∧ n.noLog 0 0x81 0x16 0 := by
  have p := passes_of_none (s := bench (benchTt []) { wel := true }) (h := 0) (op := 0x81) (shape := 0x16) (by decide)
  have q := passes_of_none (s := bench { benchTt [] with modesPermitted := 1 } { wel := true }) (h := 0) (op := 0x81) (shape := 0x16) (by decide)
  have l := quiet_of_none (s := bench { benchTt [] with modesPermitted := 1 } { wel := true }) (h := 0) (op := 0x81) (shape := 0x16) (a := 0) (by decide)
  refine ⟨?_, by decide, ?_, by decide, p, by decide, by decide, by decide, ?_, by decide, q, by decide, l⟩ <;>
    (unfold State.takes State.portIdle State.inverseOk; decide)

/-- Read SFDP without the CRC bytes of native mode. -/
theorem witness_StatusFrames : b0.takes fr 0x5A 0x1B ∧ b0.ctlPasses 0 0x5A 0x1B ∧ cfgNativeCrc (b0.port 0).cfg.toNat = false :=
  ⟨by unfold State.takes State.portIdle State.inverseOk; decide, passes_of_none (by decide), by decide⟩

def rd : State := { b1 with tt := b1.tt.set 0 { bankA := some (benchTt [anyClause 0]) } }
/-- The last byte of page 15. -/
def lastByte : Frame := { port := 0, addr := 0xFFFF, want := 1, avail := 4096 }

theorem witness_ReadFrames : ∃ pg c,
    frameCmd (.read lastByte) = some (lastByte, 3, 1) ∧ rd.takes lastByte 3 1 ∧ 0xFFFF = frameAddr (rd.port 0) 1 lastByte ∧
    rd.clauseAt 0 3 (standardShape 3) 0xFFFF = some (0, c) ∧ effAction (rd.hallPass 0) c ≤ 1 ∧
    rd.readPage 0 ((0xFFFF + c.arg0) % 2 ^ 32 / 4096) true = some pg ∧ 1 + (0xFFFF + c.arg0) % 2 ^ 32 % 4096 ≤ pg.length ∧
    cfgNativeCrc (rd.port 0).cfg.toNat = false ∧ cfgNative (rd.port 0).cfg.toNat = false := by
  refine ⟨rd.devPage 4 79, anyClause 0, rfl, ?_, by decide, by decide, by decide, rfl, ?_, by decide, by decide⟩
  · unfold State.takes State.portIdle State.inverseOk; decide
  · simp only [State.devPage, Mem.readN_length]; decide

/-- An armed port and an address-first frame of its opcode. -/
theorem witness_ReadFrames_continuous :
    let s := { rd with ports := rd.ports.set 0 { rd.ports.get 0 with armed := some 0xBC } }
    s.portIdle 0 ∧ (s.port 0).armed = some 0xBC ∧ s.clauseAt 0 0xBC (standardShape 0xBC) 0xFFFF = some (0, anyClause 0) := by
  unfold State.portIdle; decide

/-- No clause with a default of deny and of fill; and a clause that denies, substitutes and fills. -/
theorem witness_ReadsNotFromFlash :
    (b0.takes lastByte 3 1 ∧ b0.clauseAt 0 3 1 0xFFFF = none ∧ (b0.portTt 0).defaultAction ≠ 4 ∧ cfgNative (b0.port 0).cfg.toNat = false ∧
      1 + frameAddr (b0.port 0) 1 lastByte % 4096 ≤ 4096) ∧
    ((bench { benchTt [] with defaultAction := 4 } {}).takes lastByte 3 1 ∧ (bench { benchTt [] with defaultAction := 4 } {}).clauseAt 0 3 1 0xFFFF = none ∧
      ((bench { benchTt [] with defaultAction := 4 } {}).portTt 0).defaultAction = 4) ∧
    ∀ a ∈ [2, 3, 4], (bench (benchTt [anyClause a]) {}).takes lastByte 3 1 ∧
      (bench (benchTt [anyClause a]) {}).clauseAt 0 3 1 0xFFFF = some (0, anyClause a) ∧ (anyClause a).log = false ∧
      effAction ((bench (benchTt [anyClause a]) {}).hallPass 0) (anyClause a) = a := by
  unfold State.takes State.portIdle State.inverseOk; decide

def wr : State := bench (benchTt [anyClause 0]) { wel := true }
/-- A program that fills the unit to its last byte. -/
def progFrame : Frame := { port := 0, addr := 0xFF, data := [0xA5] }

theorem witness_ProgramAndEraseFrames :
    (frameCmd (.pp progFrame) = some (progFrame, 2, 0xA) ∧ wr.takes progFrame 2 0xA ∧ (wr.port 0).wel = true ∧ (wr.port 0).wip = false ∧
      splitCrc (cfgNativeCrc (wr.port 0).cfg.toNat) ((wr.port 0).cmd = .d8) (BitVec.ofNat 32 (frameAddr (wr.port 0) 0xA progFrame)) progFrame.data = ([0xA5], true) ∧
      frameAddr (wr.port 0) 0xA progFrame % cfgProgUnit (wr.port 0).cfg.toNat + 1 ≤ cfgProgUnit (wr.port 0).cfg.toNat ∧
      wr.clauseAt 0 2 0xA (frameAddr (wr.port 0) 0xA progFrame) = some (0, anyClause 0) ∧ effAction (wr.hallPass 0) (anyClause 0) ≤ 1) ∧
    (wr.takes fr 0x20 0x0C ∧ (wr.portTt 0).lookup 0x20 (ifaceMode (wr.port 0).cmd 0x0C) 0 4095 = some (0, anyClause 0)) ∧
    (wr.takes fr 0xD8 0x0E ∧ (wr.portTt 0).lookup 0xD8 (ifaceMode (wr.port 0).cmd 0x0E) 0 65535 = some (0, anyClause 0)) ∧
    (wr.takes fr 0xC7 0x0F ∧ ((wr.portTt 0).span 0xC7).filter (fun x => opTest 0xC7 x.2 && bit x.2.modes (ifaceMode (wr.port 0).cmd 0x0F)) ≠ []) := by
  unfold State.takes State.portIdle State.inverseOk; decide

/-- A port that does not decode; one in P3; a cut frame; a wrong inverse byte; an opcode with no shape; a denied control frame. -/
theorem witness_FramesTurnedAway :
    (State.reset.decodes 0 = false ∧ frameCmd (.wren fr) = some (fr, 6, 0x10)) ∧
    (({ b0 with power := .p3 } : State).decodes 0 = true ∧ fr.honoursRdy = true ∧ ({ fr with honoursRdy := false } : Frame).honoursRdy = false) ∧
    (b0.portIdle 0 ∧ (b0.port 0).armed = none) ∧
    ((bench (benchTt []) { cmd := .d8 }).portIdle 0 ∧ ((bench (benchTt []) { cmd := .d8 }).port 0).cmd = .d8 ∧ fr.inverse ≠ ~~~(BitVec.ofNat 8 6)) ∧
    (b0.inverseOk fr 0xBC ∧ (bench { benchTt [] with index := [] } {}).portIdle 0 ∧
      shapeIn ((bench { benchTt [] with index := [] } {}).portTt 0) .s1 0xBC 5 = false ∧ idxShape (((bench { benchTt [] with index := [] } {}).portTt 0).entry 0) = 0) ∧
    ((bench (benchTt [anyClause 2]) {}).takes fr 6 0x10 ∧ (bench (benchTt [anyClause 2]) {}).clauseAt 0 6 0x10 0 = some (0, anyClause 2) ∧
      effAction ((bench (benchTt [anyClause 2]) {}).hallPass 0) (anyClause 2) = 2 ∧ (anyClause 2).log = false) := by
  unfold State.takes State.portIdle State.inverseOk; decide

def mb : State := bench (benchTt [anyClause 5]) {}

/-- A write of the last word of the request buffer, a read of the last word of the window, a read of HPW_TIME, and frames that no clause serves. -/
theorem witness_MailboxFrames :
    (mb.takes { port := 0, addr := 0x4FC, data := [1, 2, 3, 4] } 0xE3 0x20 ∧ mb.clauseAt 0 0xE3 0x20 0 = some (0, anyClause 5) ∧
      effAction (mb.hallPass 0) (anyClause 5) = 5 ∧ bit (mb.portTt 0).hpwDeny 15 = false) ∧
    (mb.takes { port := 0, addr := 0xDFC, want := 5 } 0xE4 0x21 ∧ mb.clauseAt 0 0xE4 0x21 0 = some (0, anyClause 5) ∧
      ∀ i, i < (5 - 1 + 3) / 4 ∨ i = 0 → mb.hpwAllowed 0 (0xDFC + 4 * i) = true) ∧
    (mb.takes { port := 0, addr := 0x18, want := 9 } 0xE4 0x21 ∧ ∀ i, i < (9 - 1 + 3) / 4 ∨ i = 0 → mb.hpwAllowed 0 (0x18 + 4 * i) = true) ∧
    (b0.takes fr 0xE3 0x20 ∧ b0.clauseAt 0 0xE3 0x20 0 = none ∧ b0.takes { fr with want := 1 } 0xE4 0x21 ∧ b0.clauseAt 0 0xE4 0x21 0 = none) := by
  refine ⟨?_, ⟨?_, ?_, ?_⟩, ⟨?_, ?_⟩, ?_⟩
  · unfold State.takes State.portIdle State.inverseOk; decide
  · unfold State.takes State.portIdle State.inverseOk; decide
  · decide
  · intro i hi; have : i = 0 := by omega
    subst this; decide
  · unfold State.takes State.portIdle State.inverseOk; decide
  · intro i hi; have : i = 0 ∨ i = 1 := by omega
    rcases this with rfl | rfl <;> decide
  · unfold State.takes State.portIdle State.inverseOk; decide

/-- The window: each register writable; an LTV that permits the state and one that does not; GO while pending, served, and with no firmware; and a
register that the Timetable withholds. -/
theorem witness_WindowWrites :
    let p2 := { b0 with power := .p2 }
    let pe := bench (benchTt []) { hpw := { mbPending := true } }
    let den := bench { benchTt [] with hpwDeny := 0xFFFFFFFF } {}
    b0.decodes 0 = true ∧ (∀ a ∈ [0x08, 0x0C, 0x10, 0x28, 0x44], b0.hpwAllowed 0 a = true) ∧
    (p2.decodes 0 = true ∧ p2.hpwAllowed 0 0x08 = true ∧ (p2.putHpw 0 { (p2.port 0).hpw with ltv := 0 }).permit.code < p2.power.code) ∧
    b0.power.code ≤ (b0.putHpw 0 { (b0.port 0).hpw with ltv := 0 }).permit.code ∧
    ((pe.port 0).hpw.mbPending = true ∧ pe.hpwAllowed 0 0x44 = true ∧ (1 : Word).getLsbD 0 = true) ∧
    ((b0.port 0).hpw.mbPending = false ∧ b0.fwRuns = true) ∧ ({ b0 with restarting := true } : State).fwRuns = false ∧
    (den.decodes 0 = true ∧ den.hpwAllowed 0 0x10 = false ∧ (den.gates.get 21).valid = false) := by decide

/-! ## Witnesses: mailbox services and the end of a write -/

/-- `s` with a mailbox request of host 0. -/
def askedOf (s : State) (code : Nat) (b : Bytes) : State :=
  s.putHpw 0 { (s.port 0).hpw with mbPending := true, request := some { service := code, len := b.length, tag := 9, payload := b } }

/-- Host 0 serves every mailbox service, and the archive holds two records, of which the first page is one. -/
def page0 : ArcPage :=
  { pageNo := 0, term := 0, termFirst := true, termLast := false, firstSeq := 0, tbOpen := 0, chainIn := [], records := [List.replicate 64 1, List.replicate 64 2]
    chainOut := [], tbClose := none, flushed := false, copies := [], lost := false }
def sv : State := { b0 with
  arc := { b0.arc with created := true, next := 2, pages := [page0], cards := b0.arc.cards.set 0 (some [7, 8, 9]), tokens := 1 }
  evl := { b0.evl with ring := [{ seq := 5, ev := { code := 1, source := 1, params := [], tb := 0, boot := 0 } }] } }

theorem witness_MailboxReads :
    (askedOf sv 8 []).asked 0 8 [] ∧
    ((askedOf sv 4 [63, 0, 0, 0]).asked 0 4 [63, 0, 0, 0] ∧ ((askedOf sv 4 [63, 0, 0, 0]).ring 63).bad = []) ∧
    (askedOf sv 10 [63, 0, 0, 0]).asked 0 10 [63, 0, 0, 0] ∧ (askedOf sv 10 [0xFF, 0, 0, 0]).asked 0 10 [0xFF, 0, 0, 0] ∧
    ((askedOf sv 7 (p64 5 ++ p16 42 ++ [0, 0])).asked 0 7 (p64 5 ++ p16 42 ++ [0, 0]) ∧ ∀ r ∈ sv.evl.ring.head?, r.seq ≤ u64 (p64 5 ++ p16 42 ++ [0, 0]) 0) ∧
    ((askedOf sv 9 (p64 1 ++ p16 31 ++ [0, 0])).asked 0 9 (p64 1 ++ p16 31 ++ [0, 0]) ∧ (sv.arc.recordAt 1).isSome = true ∧ 1 < sv.arc.next.toNat) ∧
    ({ sv.arc with pages := [] } : Arc).recordAt 1 = none ∧
    ((askedOf sv 2 [1, 0, 0, 0, 2, 0, 0, 0]).asked 0 2 [1, 0, 0, 0, 2, 0, 0, 0] ∧ sv.arc.cards.get 0 = some [7, 8, 9]) ∧ b0.arc.cards.get 0 = none := by
  refine ⟨⟨_, rfl, ?_⟩, ⟨⟨_, rfl, ?_⟩, ?_⟩, ⟨_, rfl, ?_⟩, ⟨_, rfl, ?_⟩, ⟨⟨_, rfl, ?_⟩, ?_⟩, ⟨⟨_, rfl, ?_⟩, ?_⟩, ?_, ⟨⟨_, rfl, ?_⟩, ?_⟩, ?_⟩ <;> decide

/-- A service with a result, one that does not exist, and the shared checks: too long, masked, On Hall pass. -/
theorem witness_MailboxReads_shared :
    let l := sv.putHpw 0 { (sv.port 0).hpw with mbPending := true, request := some { service := 1, len := 1025, tag := 0, payload := [] } }
    let d := (askedOf sv 8 []).putHpw 0 { ((askedOf sv 8 []).port 0).hpw with result := some { code := 0, retry := 0, rsp := [1] } }
    let n := bench { benchTt [] with serviceMask := 0 } {}
    let hp := { sv with img := sv.img.set 0 { state := .hallPass } }
    ((d.port 0).hpw.request.isSome = true ∧ (d.port 0).hpw.result = some { code := 0, retry := 0, rsp := [1] }) ∧
    (((askedOf sv 11 []).port 0).hpw.request.isSome = true ∧ ((askedOf sv 11 []).port 0).hpw.result = none ∧ (askedOf sv 11 []).fwRuns = true) ∧
    (l.mbWaiting 0 1).elim 0 MbRequest.len = 1025 ∧
    (((askedOf n 10 []).mbWaiting 0 10).isSome = true ∧ bit ((askedOf n 10 []).committedTt 0).serviceMask 10 = false) ∧
    (((askedOf hp 5 []).mbWaiting 0 5).isSome = true ∧ bit ((askedOf hp 5 []).committedTt 0).serviceMask 5 = true ∧ (askedOf hp 5 []).hallPass 0 = true) := by
  decide

/-- An append of one record of 48 bytes. -/
def appendReq : Bytes := [0x40, 0, 48, 0] ++ List.replicate 48 0xA5
/-- A digest request over two bytes of data. -/
def digestReq (k : Nat) : Bytes := [1, 0, 0, BitVec.ofNat 8 k] ++ p32 2 ++ p32 0 ++ p32 0 ++ [0x61, 0x62]
/-- A card request with a MAC under slot 2. -/
def cardReq (kind slot : Nat) : Bytes := [0, BitVec.ofNat 8 kind, BitVec.ofNat 8 slot, 0, 0, 0, 0, 0] ++ List.replicate 32 3
/-- The cores run, and slot 2 holds an HMAC key with every use. -/
def sk : State := { sv with
  dgc := { sv.dgc with on := 0xFFFF, ok := 0xFFFF }
  keys := { sv.keys with slots := sv.keys.slots.set 2 { typ := 2, policy := 0xFFFFFFFF, key := [1, 2, 3] } } }
/-- The counter of host 0 is saturated. -/
def skFull : State := { sk with ctr := { sk.ctr with rings := sk.ctr.rings.set 32 { words := [(0, 0xFFFFFFFF)] } } }

theorem witness_MailboxEffects :
    ((askedOf sk 1 appendReq).asked 0 1 appendReq ∧ appendOk appendReq = true ∧ sk.arc.created = true ∧ sk.lcAppends = true ∧ sk.arc.retire = false ∧
      sk.arc.onlyReserve = false ∧ sk.arc.tail < 32 ∧ sk.arc.tail + sk.arc.newPages ((appendReq.length - 4 + 47) / 48) ≤ 32) ∧
    ((askedOf sk 3 []).asked 0 3 [] ∧ (askedOf sk 3 []).counter 32 < 0xFFFFFFFF ∧ ((askedOf sk 3 []).ring 32).bad = []) ∧
    ((askedOf skFull 3 []).asked 0 3 [] ∧ (askedOf skFull 3 []).counter 32 = 0xFFFFFFFF) ∧
    ((askedOf sk 6 (digestReq 0)).asked 0 6 (digestReq 0) ∧ digestLen (digestReq 0) = true ∧ digestOk false (digestReq 0) = true ∧ dgFlash (digestReq 0) = false ∧
      sk.dgc.queue.length < 64 ∧ sk.freeSet.isSome = true ∧ (sk.coresOn.filter sk.coreFree).length ≠ 0 ∧ sk.verifying = false) ∧
    ((askedOf sk 5 (digestReq 2)).asked 0 5 (digestReq 2) ∧ digestLen (digestReq 2) = true ∧ digestOk true (digestReq 2) = true ∧
      (sk.slot 2).revoked = false ∧ sk.keyedAdmit 2 .mgpPriv (some (0, 3)) (b2n (dgCompare (digestReq 2))) 0 = true) ∧
    ((askedOf sk 2 (cardReq 2 2)).asked 0 2 (cardReq 2 2) ∧ (cardReq 2 2).length = 40 ∧ allZero (field (cardReq 2 2) 3 5) = true ∧
      sk.arc.cardWait = [] ∧ sk.cardPolicy 0 2 = true ∧ sk.macSlotOk 2 4 (some 0) = true ∧
      sk.pwr.fits (sk.jobCost 5 (waiterHost ((sk.arc.cardWait ++ [0]).headD 0))) (sk.reservedAbove 7) = false) := by
  refine ⟨⟨⟨_, rfl, ?_⟩, ?_⟩, ⟨⟨_, rfl, ?_⟩, ?_⟩, ⟨⟨_, rfl, ?_⟩, ?_⟩, ⟨⟨_, rfl, ?_⟩, ?_⟩, ⟨⟨_, rfl, ?_⟩, ?_⟩, ⟨⟨_, rfl, ?_⟩, ?_⟩⟩ <;> decide

/-- A waiting frame of three bytes at 0x1FFD of host 0. -/
def waitFr (w : Waiting) (pg : Bytes) : InFrame :=
  { opcode := 3, addr := 0x1FFD, left := 3, page := pg, flash := true, filling := false, counted := false, waiting := w, honours := true, cont := false
    mode := 0, crcAcc := [], inBlock := 0, keepsSelect := false }
def waits (w : Waiting) (native : Bool) (pg : Bytes) : State :=
  bench (benchTt []) { frame := some (waitFr w pg), cfg := if native then 4 else 0 }

theorem witness_PortTimersAndPrefetch :
    ((waits .rdy false []).port 0).frame = some (waitFr .rdy []) ∧ ((waits .rdy false []).ttOf 0).pend = false ∧
    cfgNative ((waits .rdy false []).port 0).cfg.toNat = false ∧ (waitFr .rdy []).left ≤ 4096 - (waitFr .rdy []).addr % 4096 ∧
    cfgNative ((waits .native true []).port 0).cfg.toNat = true ∧ cfgNativeCrc ((waits .native true []).port 0).cfg.toNat = false ∧
    ((waits .native true []).port 0).frame = some (waitFr .native []) ∧
    ((waits .rdy false [1, 2, 3]).port 0).frame = some (waitFr .rdy [1, 2, 3]) ∧ (waitFr .rdy [1, 2, 3]).left ≤ [1, 2, 3].length ∧
    ((bench (benchTt []) { prefetch := some { vpage := 5, valid := false } }).port 0).prefetch = some { vpage := 5, valid := false } := by decide

/-- A pending write of page 1 of host 0 whose destinations have the states given. -/
def pend (a b : DestState) : PendingWrite :=
  { erase := false, stage := [], pages := [(1, some [9])], waitsStaging := false, held := false
    dests := [{ vpage := 1, kind := .journal0, select := 4, state := a }, { vpage := 1, kind := .shadow0, select := 4, state := b }] }
def writing (w : PendingWrite) : State :=
  { b1 with ports := b1.ports.set 0 { b1.ports.get 0 with pending := some w, wip := true } }

/-- A write that waits, one that lands and one that does not; and frames that R45, R46, R49 and R42 turn away. -/
theorem witness_WriteEnds :
    (((writing (pend .waiting .durable)).port 0).pending = some (pend .waiting .durable) ∧ (pend .waiting .durable).settled = false) ∧
    ((pend .durable .durable).settled = true ∧ (pend .durable .durable).lands = true ∧ ((pend .durable .durable).pages.map Prod.fst).Nodup) ∧
    ((pend .failed .failed).settled = true ∧ (pend .failed .failed).lands = false ∧
      ((pend .failed .failed).pages.find? fun q => !(pend .failed .failed).dests.any fun d => d.vpage = q.1 && d.state = .durable).map Prod.fst = some 1) ∧
    (b0.takes progFrame 2 0xA ∧ (b0.port 0).wel = false ∧ progFrame.data ≠ [] ∧ cfgNativeCrc (b0.port 0).cfg.toNat = false ∧
      frameAddr (b0.port 0) 0xA progFrame % cfgProgUnit (b0.port 0).cfg.toNat + 1 ≤ cfgProgUnit (b0.port 0).cfg.toNat) ∧
    (b0.takes fr 0xC7 0x0F ∧ fr.data = []) ∧
    ((bench (benchTt []) { wel := true, wip := true }).takes progFrame 2 0xA ∧ ((bench (benchTt []) { wel := true, wip := true }).port 0).wip = true) ∧
    ((bench (benchTt []) { wel := true, cfg := 0xC }).takes { progFrame with data := [1, 2] } 2 0xA ∧
      cfgNativeCrc ((bench (benchTt []) { wel := true, cfg := 0xC }).port 0).cfg.toNat = true ∧
      (splitCrc true false (BitVec.ofNat 32 0xFF) [1, 2]).2 = false ∧ (splitCrc true false (BitVec.ofNat 32 0xFF) [1, 2]).1 = [1]) ∧
    (b0.takes { progFrame with data := [1, 2] } 2 0xA ∧ cfgProgUnit (b0.port 0).cfg.toNat < 0xFF % cfgProgUnit (b0.port 0).cfg.toNat + 2) := by
  unfold State.takes State.portIdle State.inverseOk; and_intros <;> decide

/-- Host 0 with both clause banks, staged and ready. -/
def banks (ready pend_ : Bool) (f : Option InFrame) : State :=
  { b0 with tt := b0.tt.set 0 { bankA := some (benchTt []), bankB := some { benchTt [] with rdyTmo := 77 }, ready := ready, pend := pend_, active := pend_, epoch := 3 }
            ports := b0.ports.set 0 { b0.ports.get 0 with frame := f } }

theorem witness_TimetableCommits :
    (0 ∈ (banks false false none).hostsOf 1 ∧ ((banks false false none).ttOf 0).ready = false) ∧
    ((∀ h ∈ (banks true false none).hostsOf 1, ((banks true false none).ttOf h).ready = true ∧ ((banks true false none).imgOf h).state ≠ .held ∧
        ((banks true false none).imgOf h).state ≠ .detention) ∧ 0 ∈ (banks true false none).hostsOf 1 ∧
      ((banks true false none).port 0).frame = none ∧ ((banks true false none).ttOf 0).inactiveTt = some { benchTt [] with rdyTmo := 77 }) ∧
    ((banks true false (some (waitFr .rdy []))).port 0).frame.isSome = true ∧
    (((banks false true none).ttOf 0).pend = true ∧ ((banks false true none).ttOf 0).activeTt = some { benchTt [] with rdyTmo := 77 } ∧
      ((banks false true none).ttOf 0).waiting = none ∧ ((banks false true none).ttOf 0).pendLogged = false) := by decide

/-! ## Witnesses: flash channels -/

/-- The Bell schedule of the bench channel: the factory's, with a class, an ID and a density of select 0. -/
def bellOf (cls : Nat) (id : Bytes) (d : Nat) : BellSchedule :=
  { factoryBell 1 with descs := (factoryBell 1).descs.set 0 { (factoryBell 1).desc 0 with cls := cls, idBytes := id, densityMbit := d } }
def b2 (b : BellSchedule) : State := { b1 with chans := b1.chans.set 1 { b1.chans.get 1 with bankA := some b } }
def answers : DeviceAnswers := { idBytes := [0xEF, 0x40], sfdp := true, sfdpComplete := true, densityMbit := 256, label := List.replicate 32 0xFF, label2 := List.replicate 32 0xFF }
def label0 : Bytes :=
  let l : Bytes := p32 labelMagic ++ p16 1 ++ [0, 1, 0, 0] ++ p64 77 ++ List.replicate 10 0
  l ++ p32 (crc32c l)
/-- Channel 1 with select 0 in a state, over a change. -/
def selSt (st : SelState) : State := withSel b1 { nor with state := st }

theorem witness_Discovery :
    ({ b1.chan 1 with parked := true } : Channel).parked = true ∧ (((selSt .failed).chan 1).sels.get 0).state = .failed ∧
    ((b1.chan 1).parked = false ∧ ((b1.chan 1).sels.get 0).state ≠ .failed) ∧
    ((b2 (bellOf 3 [] 0)).descOf 1 0).cls = 3 ∧ (∀ b ∈ List.replicate 5 (0 : Byte), b = 0) ∧ (∀ b ∈ List.replicate 5 (0xFF : Byte), b = 0xFF) ∧
    ((∃ b ∈ answers.idBytes, b ≠ 0) ∧ (∃ b ∈ answers.idBytes, b ≠ 0xFF) ∧ ((b2 (bellOf 0 [] 0)).descOf 1 0).cls = 0 ∧ ((b2 (bellOf 0 [] 0)).descOf 1 0).idBytes = []) ∧
    (((b2 (bellOf 0 [0xEF, 0x41] 0)).descOf 1 0).idBytes ≠ [] ∧ field answers.idBytes 0 2 ≠ ((b2 (bellOf 0 [0xEF, 0x41] 0)).descOf 1 0).idBytes) ∧
    ((b2 (bellOf 1 [0xEF] 256)).descOf 1 0).cls = 1 ∧ ((b2 (bellOf 2 [] 4096)).descOf 1 0).cls = 2 ∧ ((b2 (bellOf 1 [0xEF] 256)).descOf 1 0).densityMbit = answers.densityMbit ∧
    (((withSel b1 { nor with admitWord := 2 }).chan 1).sels.get 0).admitWord ≠ 0 ∧ ((b1.chan 1).sels.get 0).admitWord = 0 ∧
    (∀ b ∈ answers.label, b = 0xFF) ∧ labelValid (List.replicate 32 1) = false ∧ labelValid label0 = true ∧
    labelMine { b1 with plc := { b1.plc with poolId := 77 } } 1 0 label0 = true ∧ labelMine b1 1 0 label0 = false := by
  and_intros <;> decide

/-- Select 4 of the pool holds a copy of host 0, and select 8 can take it. -/
def b3 : State := { b1 with chans := b1.chans.set 2 { b1.chans.get 2 with en := true, sels := (b1.chans.get 2).sels.set 0 nor } }

theorem any_rotateLeft (l : List Nat) (n : Nat) (p : Nat → Bool) : (l.rotateLeft n).any p = l.any p := by
  unfold List.rotateLeft
  dsimp only
  split
  · rfl
  · rw [List.any_append, Bool.or_comm, ← List.any_append, List.take_append_drop]

/-- A choice among the candidates changes no answer of `any`. -/
theorem any_candidates (s : State) (t : Timetable) (h : Nat) (a b : Bool) (p : Nat → Bool) :
    (s.candidates t h a b).any p = ((List.range 96).filter (s.mayPlace t h a b)).any p := by
  unfold State.candidates
  dsimp only
  split
  · rw [any_rotateLeft]
  · rw [List.any_append, any_rotateLeft, any_rotateLeft, Bool.eq_iff_iff]
    simp only [Bool.or_eq_true, List.any_eq_true, List.mem_filter, Bool.not_eq_true', List.mem_range]
    constructor
    · rintro (⟨x, ⟨hx, _⟩, e⟩ | ⟨x, ⟨hx, _⟩, e⟩) <;> exact ⟨x, hx, e⟩
    · rintro ⟨x, hx, e⟩
      cases hn : (s.selAt x).nand
      · exact .inr ⟨x, ⟨hx, hn⟩, e⟩
      · exact .inl ⟨x, ⟨hx, hn⟩, e⟩

theorem b3_canRetire : b3.canRetire 4 = true := by
  unfold State.canRetire
  simp only [any_candidates]
  decide

theorem witness_ChannelCommands :
    (((selSt .unformatted).chan 1).sels.get 0).state ≠ .ready ∧
    (((b1.chan 1).sels.get 0).state = .ready ∧ b1.canRetire 4 = false) ∧
    (((b3.chan 1).sels.get 0).state = .ready ∧ b3.copiesOn 4 ≠ []) ∧
    ((((withSel b0 { nor with state := .retiring }).chan 1).sels.get 0).state = .retiring ∧ (withSel b0 { nor with state := .retiring }).usedRuns 4 = [] ∧
      (withSel b0 { nor with state := .retiring }).plc.journal ++ (withSel b0 { nor with state := .retiring }).plc.shadows = []) ∧
    (∀ j : Sel, ((b1.chan 0).sels.get j).state ≠ .ready ∧ ((b1.chan 0).sels.get j).state ≠ .retiring) ∧
    (b1.chan 0).parked = false ∧ (((after (exec (.park 0) b1)).chan 0).parked = true ∧ ((after (exec (.park 0) b1)).chan 0).pwrenFalling = true) ∧
    (b1.chan 0).pwrenFalling = false := by
  and_intros <;> decide

theorem witness_Admission :
    (((selSt .foreign).chan 1).sels.get 0).state ∈ [SelState.unformatted, .foreign, .retired] ∧
    ((b1.chan 1).sels.get 0).state ∉ [SelState.unformatted, .foreign, .retired, .formatting] ∧
    (((withSel b1 { nor with state := .formatting, admitWord := 3 }).chan 1).sels.get 0).state = .formatting ∧
    (((withSel b1 { nor with state := .formatting, admitWord := 3 }).chan 1).sels.get 0).admitWord = 3 ∧
    (((withSel b1 { nor with state := .formatting, admitWord := 3 }).chan 1).sels.get 0).nand = false := by
  and_intros <;> decide

/-- A read of the page at 64 of select 4 for host 0, and one of no host. -/
def ask (k : ReqKind) (h : Nat) : Request :=
  { kind := k, host := h, sel := 0, op := .read, dpage := 64, vpage := 0, dest := none, bytesDone := 0, wasCut := false, retried := false }
/-- ADMIT at its label: a NAND device with a bad block 0, a pool whose POOL_ID is known, and one whose POOL_ID must be drawn. -/
theorem witness_Admission_label :
    let l := withSel b1 { nor with state := .formatting, admitWord := 3 }
    let n := withSel b1 { nor with state := .formatting, admitWord := 3, nand := true, badBlocks := [0] }
    let p : State := { l with plc := { l.plc with poolId := 5 } }
    (((n.chan 1).sels.get 0).state = .formatting ∧ ((n.chan 1).sels.get 0).admitWord = 3 ∧ ((n.chan 1).sels.get 0).nand = true ∧
      0 ∈ ((n.chan 1).sels.get 0).badBlocks) ∧
    (((p.chan 1).sels.get 0).state = .formatting ∧ ((p.chan 1).sels.get 0).admitWord = 3 ∧ ((p.chan 1).sels.get 0).nand = false ∧
      p.plc.poolId ≠ 0) ∧
    l.plc.poolId = 0 := by
  and_intros <;> decide

theorem witness_Admission_refused :
    ∃ u, (withSel b1 { nor with state := .formatting, admitWord := 3 }).draw 8 true conPool = (none, u) := ⟨_, rfl⟩

/-- Channel 1 with a queue and a running transfer; every slot gives host 0 rank 1 and background work the last row. -/
def queued (q : List Request) (r : Option Request) : State :=
  { b1 with chans := b1.chans.set 1 { b1.chans.get 1 with
      queue := q, running := r, bankA := some { factoryBell 1 with slots := List.replicate 64 (2 ^ 24 + 32, 0xFFFFFE) } } }

theorem witness_Transfers :
    let w := (2 ^ 24 + 32, 0xFFFFFE)
    let s := queued [ask (.background 2) 24, ask .demand 0] none
    let c := queued [ask .demand 0] (some (ask (.background 2) 24))
    let d := queued [ask (.background 2) 24] (some (ask .demand 0))
    ((s.chan 1).en = true ∧ (s.chan 1).parked = false ∧ (s.chan 1).running = none ∧ s.power ≠ .p3 ∧ s.power ≠ .p4 ∧
      w = ((s.chan 1).activeBell.getD (factoryBell 1)).slotAt (s.timeBase.toNat / 2 % 64)) ∧
    (∃ q ∈ (s.chan 1).queue, s.mayStart 1 q = true ∧ reqRow w (s.chan 1).lastGuest q ≠ none) ∧
    (∀ q ∈ (b1.chan 1).queue, b1.mayStart 1 q = true → reqRow w (b1.chan 1).lastGuest q = none) ∧
    ((c.chan 1).running = some (ask (.background 2) 24) ∧
      (c.chan 1).next (((c.chan 1).activeBell.getD (factoryBell 1)).slotAt (c.timeBase.toNat / 2 % 64)) (c.mayStart 1) = some ((1, 0), ask .demand 0) ∧
      1 < (reqRow w (c.chan 1).lastGuest (ask (.background 2) 24)).elim 8 Prod.fst) ∧
    ((d.chan 1).next (((d.chan 1).activeBell.getD (factoryBell 1)).slotAt (d.timeBase.toNat / 2 % 64)) (d.mayStart 1) = some ((7, bgOrder 2), ask (.background 2) 24) ∧
      (reqRow w (d.chan 1).lastGuest (ask .demand 0)).elim 8 Prod.fst ≤ 7) := by
  and_intros <;> decide

/-- Select 0 of channel 1 works on `r`; host 0 writes page 1 with `w` pending. -/
def working (r : Request) (w : PendingWrite) : State := withSel (writing w) { nor with busy := some r }
def pageOf (b : Byte) : Bytes := List.replicate 4096 b
def copyWrite : PendingWrite :=
  { erase := true, stage := [], pages := [(1, none)], waitsStaging := false, held := false, dests := [{ vpage := 1, kind := .copy0, select := 4, state := .waiting }] }
def prog (d : Option DestKind) (retried : Bool) : Request := { ask (.background 1) 0 with op := .program, dpage := 65, vpage := 1, dest := d, retried := retried }

theorem witness_DeviceCompletes :
    ((((working (prog none false) copyWrite).chan 1).running = none ∧ (((working (prog none false) copyWrite).chan 1).sels.get 0).busy = some (prog none false))) ∧
    ((((working (prog (some .copy0) false) copyWrite).chan 1).sels.get 0).busy = some (prog (some .copy0) false) ∧
      ((working (prog (some .copy0) false) copyWrite).port 0).pending = some copyWrite ∧ (copyWrite.pages.find? fun x => x.1 = 1) = some (1, none)) ∧
    (∀ a b : Bool, ({ b1.chan 1 with rdyEn := true, rdyLevel := a, ignoreRdy := b } : Channel).rdyEn = true) ∧ (b1.chan 1).rdyEn = false ∧
    ((queued [] (some (prog none false))).chan 1).running = some (prog none false) ∧ (prog none false).op ≠ .read ∧ (b1.chan 1).running = none := by
  and_intros <;> decide

theorem witness_DeviceCompletes_page : (contentBytes none).length = 4096 := List.length_replicate ..

theorem witness_DeviceErrors :
    let s := fun r => working r copyWrite
    (∀ r ∈ [prog none false, prog none true, { prog none true with op := .pageRead }], ((s r).chan 1).running = none ∧ (((s r).chan 1).sels.get 0).busy = some r) ∧
    (((s (prog none true)).chan 1).sels.get 0).pageErrors = [] ∧ (((s (prog none true)).chan 1).sels.get 0).timeouts < 2 ∧
    (((s (prog none true)).chan 1).sels.get 0).blockOf 65 ∉ (((s (prog none true)).chan 1).sels.get 0).scrubAsked ∧
    ({ nor with scrubAsked := [nor.blockOf 65] } : Select).blockOf 65 ∈ ({ nor with scrubAsked := [nor.blockOf 65] } : Select).scrubAsked := by
  and_intros <;> decide

/-- A staged schedule that passes every check on channel 1, and one with a slot that does not. -/
def goodBell : BellSchedule := { bellOf 0 [] 0 with descs := (factoryBell 1).descs }
def staged (b : Option BellSchedule) (r p : Bool) : State := { b0 with chans := b0.chans.set 1 { b0.chans.get 1 with bankB := b, ready := r, commitPending := p } }

theorem witness_BellSchedules :
    ((staged none false false).chan 1).inactiveBell = none ∧
    (((staged (some goodBell) false false).chan 1).inactiveBell = some goodBell ∧ (staged (some goodBell) false false).bellStagedFailed 1 goodBell true = 0) ∧
    (staged (some { goodBell with headBytes := 8 }) false false).bellStagedFailed 1 { goodBell with headBytes := 8 } true ≠ 0 ∧
    (∀ c : Chan, (2 : Word).getLsbD c.val = true → (staged (some goodBell) true false).maskBits.getLsbD c.val = true → ((staged (some goodBell) true false).chan c).ready = true) ∧
    ((2 : Word).getLsbD 1 = true ∧ (staged none false false).maskBits.getLsbD 1 = true ∧ ((staged none false false).chan 1).ready = false) ∧
    (((staged (some goodBell) true true).chan 1).commitPending = true ∧ ((staged (some goodBell) true true).chan 1).inactiveBell = some goodBell) ∧
    ((staged (some goodBell) true true).chan 0).commitPending = false := by
  and_intros <;> decide

/-! ## Witnesses: placement -/

/-- Host 0 has extent 7 as given, and three NOR selects on channels 1, 2 and 3 serve. -/
def pool (x : Extent) : State :=
  { b0 with
    plc := { b0.plc with extents := b0.plc.extents.set 0 [x], scanning := false }
    chans := ((b0.chans.set 1 { b0.chans.get 1 with en := true, sels := (b0.chans.get 1).sels.set 0 { nor with densityMbit := 8 } }).set 2
      { b0.chans.get 2 with en := true, sels := (b0.chans.get 2).sels.set 0 { nor with densityMbit := 8 } }).set 3
      { b0.chans.get 3 with en := true, sels := (b0.chans.get 3).sels.set 0 { nor with densityMbit := 8 } } }
/-- A relocation of extent 7, to channel 2, with a number of pages copied; draining with `d`. -/
def reloc7 (d : Option Loc) : Reloc :=
  { slot := 0, host := 0, extent := 7, cls := 2, fold := false, startWseq := 0, waitedOn := true, queuedAt := 0, overdue := false, draining := d }
def moving7 (n : Nat) : Extent := { ext0 with moving := true, target := { valid := true, chan := 2, sel := 0, dpage := 15 }, copied := n, replaces := 0 }
def moves (n : Nat) (d : Option Loc) : State := { pool (moving7 n) with plc := { (pool (moving7 n)).plc with relocs := [reloc7 d] } }

theorem witness_Relocations :
    ((pool ext0).extentAt 0 7 = some ext0 ∧ ext0.state = .live ∧ ext0.moving = false ∧ (pool ext0).relocOf 0 7 = none ∧ (pool ext0).plc.relocs.length < 8 ∧
      (pool ext0).plc.steady = false ∧ ext0.copy0.valid = true ∧ ext0.copies.length < 2 ∧
      (pool ext0).targetOk 0 ext0 { chan := 2, sel := 0, dpage := 15 } 0 false = true ∧ (pool ext0).targetOk 0 ext0 { chan := 2, sel := 0, dpage := 15 } 2 false = true) ∧
    ((moves 15 none).extentAt 0 7 = some (moving7 15) ∧ (moves 15 none).relocOf 0 7 = some (reloc7 none) ∧ (moving7 15).copied < (moving7 15).pages) ∧
    ((moves 16 none).extentAt 0 7 = some (moving7 16) ∧ (moving7 16).copied = (moving7 16).pages ∧ ((moves 16 none).port 0).pending = none ∧
      ((moves 16 none).ttOf 0).waiting = none) ∧
    (moves 16 (some ext0.copy0)).relocOf 0 7 = some (reloc7 (some ext0.copy0)) ∧
    ({ moves 15 none with plc := { (moves 15 none).plc with steady := true } } : State).plc.steady = true := by
  and_intros <;> decide

theorem witness_Relocations_target : ((moves 15 none).selAt (moving7 15).target.index).state = .ready := by decide

theorem witness_Relocations_page : ∃ b, (moves 15 none).copySource 0 (moving7 15) 15 = some b ∧ b.length = 4096 :=
  ⟨(moves 15 none).devPage 4 79, rfl, by simp only [State.devPage, Mem.readN_length]; decide⟩

def waitWrite : PendingWrite := { pend .waiting .waiting with waitsStaging := true, dests := [] }

theorem witness_Staging :
    ({ b0.plc.registry with ckptRunning := true } : Registry).ckptRunning = true ∧ b0.plc.registry.ckptRunning = false ∧
    ({ pool ext0 with plc := { (pool ext0).plc with steady := true } } : State).plc.steady = true ∧ reasonBits (pool ext0).updReasons.plc = 0 ∧
    reasonBits (pool { ext0 with degraded := true, byFailure := true, mirror := true }).updReasons.plc ≠ 0 ∧
    ({ b0 with plc := { b0.plc with discard := 1 } } : State).plc.discard.getLsbD 0 = true ∧ b0.plc.discard.getLsbD 0 = false ∧
    (((writing waitWrite).port 0).pending = some waitWrite ∧ waitWrite.waitsStaging = true ∧ (writing waitWrite).writeHeld 0 waitWrite.pages = false ∧
      (b0.port 0).pending = none) := by
  and_intros <;> decide

/-- Select 8 is a NAND device that serves. -/
def nandSel : Select := { state := .ready, cls := 2, nand := true, densityMbit := 4096, pagesPerBlock := 64 }
def withNand (s : State) : State := { s with chans := s.chans.set 2 { s.chans.get 2 with en := true, sels := (s.chans.get 2).sels.set 0 nandSel } }
theorem witness_Staging_room : (withNand (writing waitWrite)).noStagingRoom 0 waitWrite.stage waitWrite.pages = false ∧
    (withNand (writing waitWrite)).writeHeld 0 waitWrite.pages = false := by decide

/-- A lost extent with two copies' worth of room. -/
def lost7 : Extent := { ext0 with state := .lost, copy0 := {}, pages := 16, mirror := true }

theorem witness_PlacementLife :
    ({ b0 with plc := { b0.plc with scanning := true } } : State).plc.scanning = true ∧ b0.fwRuns = true ∧ b0.sys.recovery = false ∧ b0.fused 0 = false ∧
    (pool ext0).plc.scanning = false ∧ State.reset.fwRuns = false ∧ b0.upd.state ≠ .trial ∧ b0.extentAt 0 7 = none ∧
    ((pool { ext0 with dormant := false }).extentAt 0 7 = some { ext0 with dormant := false }) ∧ ext0.dormant = true ∧ ext0.state = .live ∧
    ((pool lost7).extentAt 0 7 = some lost7 ∧ lost7.state = .lost) ∧
    ({ b0 with plc := { b0.plc with extents := b0.plc.extents.set 0 [lost7] } } : State).extentAt 0 7 = some lost7 := by
  and_intros <;> decide

/-- No room for a lost extent, and room on two channels: whichever the Registrar tries first. -/
def two7 : State := withSel (withNand { b0 with plc := { b0.plc with extents := b0.plc.extents.set 0 [lost7] } }) { nandSel with densityMbit := 8192 }
theorem witness_PlacementLife_places :
    ({ b0 with plc := { b0.plc with extents := b0.plc.extents.set 0 [lost7] } } : State).choosePlaces (b0.committedTt 0) 0 false true false 16 = none ∧
    ∃ a b, two7.choosePlaces (two7.committedTt 0) 0 lost7.pinned lost7.mirror lost7.writable lost7.pages = some [a, b] ∧ a.valid = true ∧ b.valid = true := by
  constructor
  · decide
  · have e : (List.range 96).filter (two7.mayPlace (two7.committedTt 0) (0 : Nat) false false) = [4, 8] := by decide
    have e1 : [4, 8].filter (fun i => (two7.selAt i).nand) = [4, 8] := by decide
    have e2 : [4, 8].filter (fun i => !(two7.selAt i).nand) = [] := by decide
    have f4 : two7.findRun 4 16 = some 0 := by decide
    have f8 : two7.findRun 8 16 = some 0 := by decide
    have c : ∀ n, [4, 8].rotateLeft n = [4, 8] ∨ [4, 8].rotateLeft n = [8, 4] := by
      intro n
      have : n % 2 = 0 ∨ n % 2 = 1 := by omega
      rcases this with h | h <;> simp [List.rotateLeft, h]
    have k : two7.choosePlaces (two7.committedTt 0) (0 : Nat) false true false 16 = (let cs := [4, 8].rotateLeft (Config.choice two7.free % 2)
        let runs := cs.filterMap fun i => (two7.findRun i 16).map fun d => ({ valid := true, chan := i / 4, sel := i % 4, dpage := d } : Loc)
        (runs.flatMap fun a => (runs.filter fun b => b.chan ≠ a.chan).map fun b => [a, b]).head?) := by
      unfold State.choosePlaces State.candidates
      simp only [e, e1, e2]
      simp [needCopies]
    rcases c (Config.choice two7.free % 2) with h | h
    · refine ⟨{ valid := true, chan := 1, sel := 0, dpage := 0 }, { valid := true, chan := 2, sel := 0, dpage := 0 }, Eq.trans k ?_, rfl, rfl⟩
      rw [h]; simp [f4, f8]
    · refine ⟨{ valid := true, chan := 2, sel := 0, dpage := 0 }, { valid := true, chan := 1, sel := 0, dpage := 0 }, Eq.trans k ?_, rfl, rfl⟩
      rw [h]; simp [f4, f8]

/-! ## Witnesses: hosts -/

/-- A caller with role 1 on no session. -/
def owner : Caller := { session := 0, role := 1 }
/-- An envelope of `n` blocks with class 7, with no list and no signature worth checking. -/
def envOf (n : Nat) : Bytes :=
  p32 0x4549524B ++ p16 1 ++ p16 0x80 ++ p16 7 ++ [0, 1] ++ p32 1 ++ p32 0 ++ p32 (65536 * n) ++ p32 n ++ [16, 62, 0, 0] ++ List.replicate 16 0 ++ p32 0x80 ++
    p32 (32 * n) ++ p32 (0x80 + 32 * n) ++ p32 1 ++ List.replicate 64 0 ++ List.replicate (32 * n + 1) 0
/-- Host 0 is in a state, with the envelope in slot A selected and passed. -/
def imgAs (st : HostState) (e : Bytes) : HostImg :=
  { state := st, selected := some 0, passed := true, settled := true, hostClass := 7, releaseMode := 1, slotPage := (Vector.replicate 3 0xFFFFFFFF).set 0 0, pagesAB := 64
    slots := (Vector.replicate 3 {}).set 0 { envelope := some e } }
def hostAs (i : HostImg) : State := { bench { benchTt [] with cfg := 0x0088FF41 } {} with img := State.reset.img.set 0 i, plc := { b0.plc with scanning := false } }
/-- Slot A of host 0 stands in Trial. -/
def inTrial (s : State) : State :=
  { s with upd := { s.upd with state := .trial, actSel := false, rec0 := { s.upd.rec0 with trial := true, trialHosts := 1, hosts := s.upd.rec0.hosts.set 0 { s.upd.rec0.hosts.get 0 with trial := true } } } }

theorem witness_HostCommands :
    (∀ c ∈ [1, 2, 3, 4], (hostAs (imgAs .off (envOf 1))).allowed owner 0x2300 0x10 (p32 c)) ∧
    (∀ st ∈ [HostState.off, .held, .measuring, .hallPass, .trial, .running, .detention], ((hostAs (imgAs st (envOf 1))).imgOf 0).state = st) ∧
    ((hostAs (imgAs .off (envOf 1))).ttOf 0).activeTt.elim true Timetable.detain = false ∧
    (State.reset.ttOf 0).activeTt.elim true Timetable.detain = true ∧ (hostAs (imgAs .off (envOf 1))).upd.inTrial = false ∧
    ((inTrial (hostAs (imgAs .running (envOf 1)))).upd.inTrial = true ∧ (inTrial (hostAs (imgAs .running (envOf 1)))).upd.recOf.trialHosts.getLsbD 0 = true) ∧
    ({ imgAs .detention (envOf 1) with reason := 3 } : HostImg).reason ≠ 1 := by
  unfold State.allowed
  and_intros <;> decide

/-- Host 0 is Held and selects: slot A has an envelope that check 1 refuses. -/
def selects : State := hostAs { imgAs .held [] with selected := none, passed := false }

theorem witness_HostSelection :
    ((selects.imgOf 0).state = .held ∧ (selects.imgOf 0).selected = none ∧ (selects.ttOf 0).pend = false ∧ selects.lcReleases = true ∧ selects.fwRuns = true ∧
      0 ∉ selects.lcc.heldHosts ∧ selects.fused 0 = false ∧ selects.candidateSlots 0 = [0] ∧ selects.slotEnv 0 0 = some [] ∧ envCheck1 [] = false ∧
      selects.slotTrial 0 0 = false) ∧
    (let s := hostAs { imgAs .held (envOf 1) with verified := [0] }
     (s.imgOf 0).selected = some 0 ∧ ((s.imgOf 0).slots.get 0).envelope = some (envOf 1) ∧ (s.imgOf 0).passed = true ∧ (s.imgOf 0).settled = true ∧
       s.plc.scanning = false ∧ s.lcReleases = true ∧ envBlocks (envOf 1) ≤ (s.imgOf 0).verified.length ∧ s.slotTrial 0 0 = false) ∧
    (inTrial (hostAs { imgAs .held (envOf 1) with verified := [0] })).slotTrial 0 0 = true := by
  and_intros <;> decide

theorem witness_HostSelection_pass :
    let s := hostAs (imgAs .held (envOf 1))
    (s.imgOf 0).verified.length < envBlocks (envOf 1) ∧ s.listPlace (envListLen (envOf 1)) = some listArea ∧ s.bitmapUsed + envBlocks (envOf 1) ≤ 16384 ∧
    s.mayHallPass 0 (envOf 1) = true ∧
    (hostAs { imgAs .held (envOf 1) with releaseMode := 0 }).mayHallPass 0 (envOf 1) = false := by
  and_intros <;> decide

theorem witness_HallPass :
    let s := hostAs (imgAs .measuring (envOf 1))
    let t := hostAs (imgAs .hallPass (envOf 1))
    let r := hostAs { imgAs .hallPass (envOf 1) with releasing := true }
    ((s.imgOf 0).selected = some 0 ∧ ((s.imgOf 0).slots.get 0).envelope = some (envOf 1) ∧ (s.imgOf 0).passed = true ∧ 0 < envBlocks (envOf 1) ∧
      0 ∉ (s.imgOf 0).verified ∧ (s.imgOf 0).releasing = false ∧ s.fwRuns = true ∧ s.blockGood 0 (envOf 1) 0 false = false ∧ s.slotTrial 0 0 = false ∧
      (insertNat 0 (s.imgOf 0).verified).length < envBlocks (envOf 2)) ∧
    ((t.imgOf 0).state = .hallPass ∧ t.blockGood 0 (envOf 1) 0 false = false ∧ (t.imgOf 0).deadlinePaused = false ∧ (t.imgOf 0).releasing = false) ∧
    ((r.imgOf 0).releasing = true ∧ (r.port 0).pending = none) ∧ (pend .waiting .waiting).held = false ∧ (s.imgOf 0).state ≠ .hallPass := by
  and_intros <;> decide

/-! ## Witnesses: digests, signatures and updates -/

/-- A descriptor of a digest over SRAM (source 0), PUSH data (1) with LEN, and its bytes. -/
def desc (src len prio : Nat) : Desc := { w := [16 + 256 * src + 2048 + 2 ^ 30 * prio, len, 0x10000000, 31, 0, 0, 0, 1] }
def descBytes (d : Desc) : Bytes := d.w.flatMap p32
/-- A descriptor in SRAM at 0x10000100. -/
def withDesc (d : Desc) : State := { sk with sram := Mem.writeN 0 [] 0x10000100 (descBytes d) }
/-- Set 0 belongs to the processor with a PUSH job, queued or running. -/
def jobOf (d : Desc) (fed : Bytes) (n : Nat) : DgcJob := { set := 0, master := .mgpPriv, desc := d, fed := fed, ended := false, buffered := n, started := 0 }
def dgcWith (j : DgcJob) (run : Bool) (r : ResSet) : State :=
  { sk with dgc := { sk.dgc with
      queue := if run then [] else [j], running := if run then [(0, j)] else []
      sets := sk.dgc.sets.set 0 { r with alloc := true, push := true, owner := some .mgpPriv, queued := !run, running := run } } }
def doneSet : State := { sk with dgc := { sk.dgc with sets := sk.dgc.sets.set 0 { alloc := true, done := true, owner := some .mgpPriv } } }
/-- The descriptor of a PUSH job in KR1208 mode. -/
def descK : Desc := { w := [16 + 256 + 1024 + 2048, 0, 0, 31, 0, 0, 0, 1] }

theorem memRead_clear {s : State} {m : Master} {a n : Nat} (h : s.refusedPiece m a n false = none) (b : s.badWord a n = none) :
    s.memRead m a n = (some (s.bytesAt a n), s) := by simp [State.memRead, h, b]
theorem memRead_same {s : State} {m : Master} {a n : Nat} (h : s.refusedPiece m a n false = none) (b : s.badWord a n = none) :
    (s.memRead m a n).2 = s := by simp [State.memRead, h, b]

theorem witness_DigestJobs_submit :
    let s := withDesc (desc 0 64 0)
    (s.reaches .mgpPriv 0x4009000C ∧ (0x10000104 : Word).toNat % 32 ≠ 0 ∧ (0x10000100 : Word).toNat % 32 = 0) ∧
    (s.memRead .mgpPriv 0x10000100 32).1 = some (descBytes (desc 0 64 0)) ∧ (s.memRead .mgpPriv 0x10000100 32).2 = s ∧
    desc 0 64 0 = { w := (List.range 8).map fun i => u32 (descBytes (desc 0 64 0)) (4 * i) } ∧
    s.descOk .mgpPriv (desc 0 64 0) = true ∧ s.keyOk .mgpPriv (desc 0 64 0) = true ∧ s.freeSet = some 0 ∧ s.dgc.queue.length < 64 ∧
    s.descOk .mgpPriv { w := [] } = false ∧
    (s.descOk .mgpPriv { w := [17 + 2048, 64, 0x10000000, 31, 0, 0, 0, 1] } = true ∧ s.keyOk .mgpPriv { w := [17 + 2048, 64, 0x10000000, 31, 0, 0, 0, 1] } = false) ∧
    ({ sk with dgc := { sk.dgc with sets := sk.dgc.sets.map fun r => { r with alloc := true } } } : State).freeSet = none := by
  unfold State.reaches
  and_intros <;> first | decide | rfl | decide +kernel | (refine memRead_same ?_ ?_ <;> decide)

theorem witness_DigestJobs_sets :
    (doneSet.reaches .mgpPriv 0x40090014 ∧ doneSet.reaches .mgpPriv 0x40090018 ∧ (doneSet.resSet 0).done = true ∧ (doneSet.resSet 0).owner = some .mgpPriv ∧
      (sk.resSet 0).done = false ∧ (sk.resSet 0).owner ≠ some .mgpPriv) ∧
    (let s := dgcWith (jobOf (desc 1 8 0) [] 0) false {}
     s.reaches .mgpPriv 0x40091050 ∧ s.reaches .mgpPriv 0x40091054 ∧ (s.resSet 0).owner = some .mgpPriv ∧ (s.resSet 0).queued = true ∧ (s.resSet 0).orphan = false ∧
       (s.resSet 0).alloc = true ∧ (s.resSet 0).push = true ∧ (s.resSet 0).done = false ∧ s.jobOfSet 0 = some (jobOf (desc 1 8 0) [] 0) ∧
       (s.resSet 0).lenMode = false) ∧
    ((dgcWith (jobOf (desc 1 8 0) [1, 2, 3, 4] 0) true {}).jobOfSet 0 = some (jobOf (desc 1 8 0) [1, 2, 3, 4] 0) ∧ (desc 1 8 0).lenMode = false ∧
      [1, 2, 3, 4].length < (desc 1 8 0).len ∧ (desc 1 4 0).len ≤ [1, 2, 3, 4].length ∧ ((dgcWith (jobOf (desc 1 8 0) [1, 2, 3, 4] 0) true {}).resSet 0).queued = false) ∧
    (descK.lenMode = true ∧ (jobOf descK [] 63).ended = false ∧ (jobOf descK [] 63).buffered < 64 ∧ 64 ≤ (jobOf descK [] 64).buffered ∧
      ((dgcWith (jobOf descK [] 64) false { lenMode := true }).resSet 0).lenMode = true) ∧
    (doneSet.debugStopped .mgpUser = false ∧ doneSet.judge .mgpUser 0x40090014 true doneSet.lists false = some 8) := by
  unfold State.reaches
  and_intros <;> first | decide | rfl | decide +kernel | (refine memRead_same ?_ ?_ <;> decide)

theorem witness_DigestRuns :
    sk.dgc.queue = [] ∧
    (let s := dgcWith (jobOf (desc 0 64 0) [] 0) false {}
     firstJob s.dgc.queue = some (jobOf (desc 0 64 0) [] 0) ∧ s.coresOn.filter s.coreFree = 0 :: (List.range 16).tail ∧ s.verifying = false ∧
       s.keyOk .mgpPriv (desc 0 64 0) = true ∧ ({ s with power := .p3 } : State).coresOn = [] ∧
       ({ s with img := s.img.set 0 { state := .measuring }, dgc := { s.dgc with excluded := 0xFFFC } } : State).verifying = true ∧
       ({ s with dgc := { s.dgc with excluded := 0xFFFC } } : State).coresOn.filter ({ s with dgc := { s.dgc with excluded := 0xFFFC } } : State).coreFree = [0, 1]) ∧
    (let d : Desc := { w := [17 + 2048, 64, 0x10000000, 31, 0, 0, 0, 1] }
     firstJob (dgcWith (jobOf d [] 0) false {}).dgc.queue = some (jobOf d [] 0) ∧ (dgcWith (jobOf d [] 0) false {}).keyOk .mgpPriv d = false) ∧
    (State.reset.dgc.ok.getLsbD 3 = false ∧ State.reset.dgc.excluded.getLsbD 3 = false ∧ State.reset.dgc.queue = []) := by
  and_intros <;> first | decide | rfl | decide +kernel | (refine memRead_same ?_ ?_ <;> decide)

/-- A job that ends with a result, one that compares, one that cannot be read and one that stalls. -/
theorem witness_DigestRuns_ends :
    let r := fun d fed => dgcWith (jobOf d fed 0) true {}
    ((r (desc 1 8 0) [1]).dgc.running.find? (fun x => x.2.set = (0 : Fin 64).val) = some (0, jobOf (desc 1 8 0) [1] 0) ∧ (jobOf (desc 1 8 0) [1] 0).complete = false ∧
      ((r (desc 1 8 0) [1]).resSet 0).orphan = false) ∧
    ((jobOf (desc 1 1 0) [1] 0).complete = true ∧ (r (desc 1 1 0) [1]).jobData (jobOf (desc 1 1 0) [1] 0) = (some [1], r (desc 1 1 0) [1]) ∧ (desc 1 1 0).stateIn = false ∧
      (desc 1 1 0).dest = 0 ∧ (jobOutput (desc 1 1 0) [] none [1]).isSome = true) ∧
    (let d : Desc := { w := [16 + 256 + 2048 + 8192, 1, 0, 31, 0x10000000, 0, 0, 1] }
     d.dest = 1 ∧ d.stateIn = false ∧ ((r d [1]).memRead .mgpPriv d.aux d.outBytes).1.isSome = true ∧ ((r d [1]).memRead .mgpPriv d.aux d.outBytes).2 = r d [1]) ∧
    (let d : Desc := { w := [17 + 256 + 2048 + 16384 + 2 * 65536, 1, 0, 31, 0, 0, 0, 1] }
     d.dest = 2 ∧ d.stateIn = false) ∧
    (let d : Desc := { w := [16 + 512 + 2048, 64, 0, 0, 0, 0, 0, 0] }
     (jobOf d [] 0).complete = true ∧ ((r d []).jobData (jobOf d [] 0)).1 = none) := by
  and_intros <;> first | decide | rfl | decide +kernel | (refine memRead_same ?_ ?_ <;> decide)

def sigSt (busy : Bool) (n : BitVec 15) : State := { sk with sig := { sk.sig with busy := busy, sigLen := n, sigAddr := 0x10801000 } }
/-- The sequencer works on the signature at 0x10801000 of the message at 0x10800000 by the key of slot 41. -/
def sigGood : State := { keyed (sigSt true 784) 41 (testKey [0]) with
  sig := { (sigSt true 784).sig with slot := 41, cls := 7, msgAddr := 0x10800000, msgLen := 1 }, sram := Mem.writeN 0 [] 0x10801000 testSig }

theorem witness_Signatures :
    (sigSt true 784).sig.busy = true ∧ (sigSt false 784).sig.busy = false ∧ (sigSt false 1).sig.sigLen.toNat = 1 ∧ (sigSt false 16384).sig.sigLen.toNat = 16384 ∧
    (sigSt false 0).sig.sigLen.toNat = 0 ∧ (sigSt true 784).slotVerifies (sigSt true 784).sig.slot.toNat (sigSt true 784).sig.cls.toNat = false ∧
    sigGood.slotVerifies sigGood.sig.slot.toNat sigGood.sig.cls.toNat = true := by
  and_intros <;> first | decide | rfl | decide +kernel | (refine memRead_same ?_ ?_ <;> decide)

theorem sigGood_sig : sigGood.memRead (.hw 1) sigGood.sig.sigAddr.toNat sigGood.sig.sigLen.toNat = (some testSig, sigGood) := by
  rw [memRead_clear (by decide +kernel) (by decide +kernel)]
  exact congrArg (fun x => (some x, sigGood)) (by decide +kernel)

theorem sigGood_msg : sigGood.sigMessage = (some [0], sigGood) :=
  memRead_clear (s := sigGood) (m := .hw 1) (a := 0x10800000) (n := 1) (by decide +kernel) (by decide +kernel)

theorem witness_Signatures_pass :
    sigGood.memRead (.hw 1) sigGood.sig.sigAddr.toNat sigGood.sig.sigLen.toNat = (some testSig, sigGood) ∧ sigGood.sigMessage = (some [0], sigGood) ∧
    (0, 0) = Lms.verify (sigGood.slot sigGood.sig.slot.toNat).key testSig (some [0]) :=
  ⟨sigGood_sig, sigGood_msg, (verify_test [0]).symm⟩

/-! ## Witnesses: updates -/

/-- Bundle header (Table 8.1). -/
def bundleHdr (len syl : Nat) : Bytes :=
  let h := p32 0x424C524B ++ p16 1 ++ p16 0x40 ++ p32 len ++ p32 syl ++ zs 0x2C
  h ++ p32 (crc32c h)
/-- Syllabus header for one item, signed by slot 40 with a signature of `n` bytes (Table 8.2). -/
def sylHdr (n : Nat) : Bytes :=
  let h := p32 0x5953524B ++ p16 1 ++ p16 0x80 ++ p32 9 ++ [0, 40] ++ p16 1 ++ zs 16 ++ [3, 0] ++ p16 60 ++ p32 n ++ zs 84
  h ++ p32 (crc32c h)
/-- One item with its payload's place and digest (Table 8.3). -/
def itemRow (typ targets off : Nat) (p d : Bytes) : Bytes := [BitVec.ofNat 8 typ, 0] ++ p16 0 ++ p32 targets ++ p32 off ++ p32 p.length ++ zs 16 ++ d
/-- A bundle of one item: its payload begins at 0x100 + 784 = 0x410. -/
def bundleOf (typ targets : Nat) (p d : Bytes) : Bytes := bundleHdr (0x410 + p.length) 976 ++ sylHdr 784 ++ itemRow typ targets 0x410 p d ++ testSig ++ p
/-- A bundle with the factory gate set. -/
def gateBundle : Bytes := bundleOf 0x40 0 factoryGateSet (Hash.sha256 factoryGateSet)
/-- The same with a digest that is not the payload's. -/
def badBundle : Bytes := bundleOf 0x40 0 factoryGateSet (zs 32)
def piece (o : Nat) (b : Bytes) : Bytes := p32 o ++ b
/-- The update engine in a state, with slot 40 holding the key that the bundle's signature matches. -/
def updAs (u : Update) : State := { keyed b0 40 (testKey (sylSigned gateBundle)) with upd := u, pwr := { b0.pwr with vbakMv := 3000 } }
def engineer : Caller := { session := 0, role := 2 }
def inState (st : UpdState) : State := updAs { State.reset.upd with state := st }
def receiving : State := updAs { State.reset.upd with state := .receiving, bundle := gateBundle.take 100, resume := 100, bundleLen := gateBundle.length }

theorem witness_Bundles_pieces :
    (∀ b ∈ [[], piece 5 [1], piece 0 [1], piece 0 gateBundle, piece 100 (gateBundle.drop 100), piece 100 (gateBundle.drop 99), piece 100 [0], piece 101 [0]],
      receiving.allowed engineer 0x2801 0 b) ∧
    (∀ st ∈ [UpdState.idle, .receiving, .checking, .staged, .activating, .trial, .reverting], (inState st).upd.state = st) ∧
    (receiving.sys.listen = 0 ∧ receiving.refusals = 0 ∧ ({ receiving with pwr := b0.pwr } : State).refusals ≠ 0 ∧
      receiving.upd.bundle.length = receiving.upd.resume ∧ u32 (piece 100 []) 0 = receiving.upd.resume ∧ u32 (piece 0 []) 0 = 0 ∧
      100 + (gateBundle.drop 100).length = receiving.upd.bundleLen) ∧
    (gateBundle.length = bundleLenOf gateBundle ∧ gateBundle.length ≤ bundleLenOf gateBundle) := by
  unfold State.allowed
  and_intros <;> decide +kernel

theorem keyed_key {s : State} {b : Bytes} : ((keyed s 40 b).slot 40).key = b := by
  show ((keyed s 40 b).keys.slots.get 40).key = b
  simp only [keyed, vget_eq]
  rw [Vector.getElem_set_self]
theorem slot40 {u : Update} : ((updAs u).slot 40).key = testKey (sylSigned gateBundle) := keyed_key (s := b0)

/-- The first piece passes: all but its signature is read off, and the signature is that of the key. -/
theorem witness_Bundles_first : (inState .idle).firstPieceFailed gateBundle ((inState .idle).upd.bundleAreaMib * 2 ^ 20) false = 0 := by
  have h1 : bundleHeaderOk gateBundle = true := by decide +kernel
  have h2 : bundleLenOf gateBundle = 1060 := by decide +kernel
  have h3 : (inState .idle).sylSound gateBundle false = true := by decide +kernel
  have h4 : sylSig gateBundle = testSig := by decide +kernel
  have h5 : sylKey gateBundle = 40 := by decide +kernel
  have h6 : (inState .idle).sylVerify gateBundle = (0, 0) := by
    unfold State.sylVerify State.verifySig
    rw [h4, h5, if_neg (by decide), show ((inState .idle).slot 40).key = _ from slot40]
    exact verify_test _
  simp [State.firstPieceFailed, h1, h2, h3, h6, Lms.rPass, show (inState .idle).upd.bundleAreaMib = 1024 from rfl]

/-- A bundle stands in the engine. -/
def withBundle (st : UpdState) (b : Bytes) : State := updAs { State.reset.upd with state := st, bundle := b, bundleLen := b.length, resume := b.length }

theorem witness_Bundles_checking :
    ((withBundle .checking badBundle).upd.state = .checking ∧ (withBundle .checking badBundle).fwRuns = true ∧ (withBundle .checking badBundle).sys.listen = 0) ∧
    (withBundle .checking badBundle).checkItems badBundle = some (1, 0, 5) ∧ (withBundle .checking gateBundle).checkItems gateBundle = none ∧
    (withBundle .checking gateBundle).buildAll gateBundle none = (none, withBundle .checking gateBundle) ∧
    (withBundle .checking gateBundle).checkBuilt gateBundle = none :=
  ⟨by and_intros <;> decide, by decide +kernel, by decide +kernel, rfl, by decide +kernel⟩

theorem witness_Bundles_commands :
    (∀ c ∈ [1, 2, 3], (withBundle .staged gateBundle).allowed engineer 0x2802 1 [c]) ∧
    ((withBundle .staged gateBundle).refusals = 0 ∧ ((withBundle .staged gateBundle).answered 0).setRefused gateBundle = false ∧
      (((withBundle .staged gateBundle).answered 0).prepareTables gateBundle).isSome = true) ∧
    (({ withBundle .staged gateBundle with pwr := b0.pwr } : State).refusals ≠ 0 ∧ (inState .trial).upd.recOf.fwNamed = false) := by
  unfold State.allowed
  and_intros <;> decide +kernel

/-- Host 0 stands in Trial with its condition met, past its deadline, with a write `p`. -/
def confirming (p : Option PendingWrite) : State :=
  let s := inTrial (hostAs (imgAs .trial (envOf 1)))
  { s with upd := { s.upd with met := 1, deadline := some 0 }, ports := s.ports.set 0 { s.port 0 with pending := p } }

theorem witness_TrialsAndPatches :
    (let s : State := { withBundle .activating gateBundle with upd := { (withBundle .activating gateBundle).upd with deadline := some 0 } }
     s.upd.state = .activating ∧ s.fwRuns = true ∧ s.setRefused s.upd.bundle = false ∧
       (syllabusTables s.upd.bundle).all (fun x => (s.withBells s.upd.bundle).ttPlaceable x.2 x.1) = true ∧ s.mayActivate s.upd.bundle = true ∧
       fwItem s.upd.bundle = none ∧ 1 ≤ (s.newRecord s.upd.bundle).budget ∧ (∃ d, s.upd.deadline = some d ∧ d ≤ s.timeBase.toNat)) ∧
    (inState .idle).upd.state ≠ .activating ∧ (∃ d, some 99999999 = some d ∧ (inState .idle).timeBase.toNat < d) ∧
    (let s := confirming none
     s.upd.state = .trial ∧ s.fwRuns = true ∧ s.upd.inForce = some s.upd.recOf ∧ s.mayConfirm s.upd.recOf = true ∧
       (∃ d, s.upd.deadline = some d ∧ d ≤ s.timeBase.toNat) ∧ (∀ h ∈ hostsIn s.upd.recOf.trialHosts, (s.port h).pending = none) ∧ (∀ k ∈ List.range 64, (s.slot k).revWord = 0) ∧
       ({ s with upd := { s.upd with met := 0 } } : State).mayConfirm s.upd.recOf = false) ∧
    (let s := confirming (some (pend .waiting .waiting))
     ∃ h ∈ hostsIn s.upd.recOf.trialHosts, ∃ w, (s.port h).pending = some w ∧ w.held = false) := by
  and_intros <;> first | exact ⟨_, rfl, by decide⟩ | exact ⟨0, by decide, _, rfl, rfl⟩ | decide +kernel

/-- PAT is to build an image of one byte into slot A of host 0. -/
def shortEnv : Bytes := (envOf 1).take 0x14 ++ p32 1 ++ (envOf 1).drop 0x18
def imgBundle : Bytes := bundleOf 0x10 1 (shortEnv ++ [0xAB]) (zs 32)
def patRuns (es : List Extent) (b : Bytes) (item : BitVec 6) : State :=
  let s := withBundle .idle b
  { s with
    upd := { s.upd with pat := { busy := true, item := item } }, plc := { s.plc with extents := s.plc.extents.set 0 es }
    img := s.img.set 0 { s.imgOf 0 with slotPage := (Vector.replicate 3 0xFFFFFFFF).set 0 0, pagesAB := 64 } }

theorem witness_TrialsAndPatches_patches :
    ((inState .idle).upd.pat.busy = false ∧ (patRuns [] gateBundle 5).upd.pat.busy = true ∧ (itemsOf (patRuns [] gateBundle 5).upd.bundle)[5]? = none) ∧
    (let s := patRuns [{ ext0 with staged := true }] imgBundle 0
     let i := Item.parse imgBundle 0
     (itemsOf s.upd.bundle)[s.upd.pat.item.toNat]? = some i ∧ s.upd.pat.host.toNat = 0 ∧ s.upd.pat.slot.toNat = 0 ∧ i.isImage = true ∧ i.names 0 = true ∧
       s.runPlaced 0 (s.slotFirst 0 0) (16 * envBlocks (payloadEnv (i.payload s.upd.bundle))) = true ∧
       (s.extents 0).all (fun x => !overlaps x.vbase x.pages (s.slotFirst 0 0) (16 * envBlocks (payloadEnv (i.payload s.upd.bundle))) || x.staged) = true ∧
       (s.buildHost i (i.payload s.upd.bundle) 0).err = 0 ∧
       (patRuns [] imgBundle 0).runPlaced 0 (s.slotFirst 0 0) (16 * envBlocks (payloadEnv (i.payload s.upd.bundle))) = false) := by
  and_intros <;> decide +kernel

/-! ## Witnesses: the archive and signing -/

def integrator : Caller := { session := 0, role := 1 }
def gridOps : Caller := { session := 0, role := 3 }
/-- In Integrator with an archive not yet created. -/
def noArchive : State := { b0 with lcc := { b0.lcc with state := .integrator }, pwr := { b0.pwr with level := 1000000000, vbakMv := 3000 } }
/-- An open session of a role on port 0 with the partner at address 1. -/
def sess (role : Nat) : Session :=
  { open_ := true, role := role, port := 0, addr := [0, 0, 0, 0, 0, 1], np := zs 16, nc := zs 16, chal := [], seqOut := 5, high := 7, seen := 0, lastHeard := 0
    lastXid := 0, lastBody := [], lastAnswer := [], replayLogged := none, pageSel := 0, termSel := 0, eventSel := 0, appendRsp := [], card := []
    cardReq := none, chal2003 := none }

/-- An archive page. -/
def page (no : Nat) (close : Option Nat) : ArcPage :=
  { pageNo := no, term := no, termFirst := true, termLast := close.isSome, firstSeq := no, tbOpen := 0, chainIn := zs 32, records := [zs 64], chainOut := zs 32
    tbClose := close, flushed := false, copies := [], lost := false }
def term0 : ArcTerm := { term := 0, records := 1, firstSeq := 0, lastSeq := 0, chainIn := zs 32, chainOut := zs 32, firstPage := 0, pages := 1, cause := 0 }
/-- The archive is created, Term 0 awaits its seal, and Term 1 is open. -/
def archive : State := { noArchive with arc := { noArchive.arc with
  created := true, term := 1, next := 2, pages := [page 0 (some 0), page 1 none], nextPage := 2, termFirst := 1, termPage := 1, termTb := noArchive.timeBase.toNat
  oldest := 1, awaiting := [term0], tokens := 4 } }
def later (s : State) (n : Nat) : State := { s with timeBase := s.timeBase + BitVec.ofNat 64 n }
/-- Slot 3 keys MACs and slot 0 signs. -/
def macKeyed (s : State) : State :=
  { s with keys := { s.keys with slots := s.keys.slots.set 3 { typ := 2, policy := 0xFFFFFFFF, key := zs 32 } }, arc := { s.arc with sealMacSlot := 3 } }
def signKeyed (s : State) : State := { s with keys := { s.keys with slots := s.keys.slots.set 0 { typ := 4, policy := 0, key := zs 48 } } }
def withSess (s : State) (k role : Nat) : State := s.setSession k (some (sess role))
/-- A bucket with nothing in it. -/
def broke (s : State) : State := { s with pwr := { s.pwr with level := 0 } }

theorem witness_ArchiveTerms :
    (noArchive.allowed integrator 0x2902 1 [1] ∧ archive.allowed integrator 0x2902 1 [1] ∧ noArchive.allowed gridOps 0x2902 1 [2]) ∧
    (noArchive.arc.created = false ∧ archive.arc.created = true ∧ archive.mayClose) ∧
    (({ archive with arc := { archive.arc with seqStuck := true } } : State).arc.seqStuck = true ∧ archive.termDue = none ∧
      (later archive (2 * 86400 * 1000000)).termDue = some 0 ∧ (later archive (2 * 86400 * 1000000)).mayClose ∧ noArchive.arc.awaiting = []) ∧
    (archive.arc.awaiting = [term0] ∧ archive.lcSeals = true ∧ (signKeyed archive).admits 4 3 none = true ∧ (signKeyed archive).signOk = true) ∧
    (archive.signOk = false ∧ archive.macSlotOk archive.arc.sealMacSlot.toNat 5 none = false ∧ (macKeyed archive).signOk = false ∧
      (macKeyed archive).macSlotOk 3 5 none = true ∧ (macKeyed archive).admits 4 3 none = true) ∧
    ((∀ p ∈ noArchive.arc.pages, p.flushed = true ∨ p.tbClose = none) ∧
      (withNand archive).arc.pages.find? (fun p => !p.flushed && p.tbClose.isSome) = some (page 0 (some 0)) ∧
      (withNand archive).pickSelects (if (withNand archive).nandReady.isEmpty then (withNand archive).shadowSelects else (withNand archive).nandReady) true ≠ []) := by
  unfold State.allowed State.mayClose
  and_intros <;> decide

/-- A partner's append of `n` bytes of a kind. -/
def appendOf (k n : Nat) : Bytes := [BitVec.ofNat 8 k, 0] ++ p16 n ++ zs n

theorem witness_ArchivePartners_append :
    (∀ b ∈ [appendOf 5 1, appendOf 5 480, appendOf 0xF0 1], archive.allowed gridOps 0x2905 0 b) ∧
    (appendOk (appendOf 0xF0 1) = false ∧ appendOk (appendOf 0xEF 1) = true ∧ appendOk (appendOf 5 480) = true ∧ noArchive.arc.created = false) ∧
    (∀ n ∈ [1, 10], archive.arc.next.toNat + n < 2 ^ 64 ∧ archive.arc.tail + archive.arc.newPages n ≤ 32) ∧ (archive.arc.onlyReserve = false ∧ archive.arc.tail < 32) ∧
    (let s : State := { archive with arc := { archive.arc with next := BitVec.ofNat 64 (2 ^ 64 - 1) } }
     2 ^ 64 - 1 ≤ s.arc.next.toNat + (1 - 1) ∧ s.arc.created = true ∧ s.allowed gridOps 0x2905 0 (appendOf 5 1)) ∧
    (let s : State := { archive with arc := { archive.arc with next := BitVec.ofNat 64 (2 ^ 64 - 2) } }
     s.arc.next.toNat + 1 < 2 ^ 64) := by
  unfold State.allowed
  and_intros <;> decide

/-- Two Terms are sealed. -/
def withSeals : State := { archive with arc := { archive.arc with seals := [zs 64, zs 64] } }

/-- The first 16 bytes of SHA-256 of 64 zeros. -/
def ack64 : Bytes := [0xF5, 0xA5, 0xFD, 0x42, 0xD1, 0x6A, 0x20, 0x30, 0x27, 0x98, 0xEF, 0x6E, 0xD3, 0x09, 0x97, 0x9B]
theorem ack64_eq : (Hash.sha256 ((zs 64).take 0x980)).take 16 = ack64 := by decide +kernel

theorem witness_ArchivePartners_ack :
    (withSeals.allowed gridOps 0x2903 0 (p32 1 ++ ack64) ∧ u32 (p32 1 ++ ack64) 0 = withSeals.arc.acked.toNat + 1 ∧
      withSeals.arc.sealOf (u32 (p32 1 ++ ack64) 0) = some (zs 64)) ∧
    (field (p32 1 ++ ack64) 4 16 = ack64 ∧ field (p32 1 ++ zs 16) 4 16 ≠ ack64) ∧
    (withSeals.allowed gridOps 0x2903 0 (p32 1 ++ zs 16) ∧ u32 (p32 0 ++ zs 16) 0 ≠ withSeals.arc.acked.toNat + 1 ∧ archive.arc.sealOf 1 = none) := by
  unfold State.allowed
  and_intros <;> decide

theorem witness_ArchivePartners :
    (archive.allowed gridOps 0x2907 0 (p32 (7 : Word).toNat) ∧ archive.allowed gridOps 0x2909 0 (p32 (7 : Word).toNat)) ∧
    (noArchive.allowed gridOps 0x3000 2 (p64 (5 : DWord).toNat) ∧ noArchive.allowed gridOps 0x3000 2 (p64 (BitVec.allOnes 64).toNat)) ∧ noArchive.arc.created = false := by
  unfold State.allowed
  and_intros <;> decide

/-- A card request of a kind with a MAC slot. -/
def cardOf (k m : Nat) : Bytes := [BitVec.ofNat 8 k, BitVec.ofNat 8 m, 0, 0] ++ zs 32
def on2 : Caller := { session := 2, role := 3 }

theorem witness_Signing_cards :
    (∀ b ∈ [cardOf 3 0, cardOf 1 0, cardOf 2 3], (withSess archive 2 3).allowed on2 0x2920 0 b) ∧
    (u8 (cardOf 3 0) 0 ≠ 1 ∧ u8 (cardOf 3 0) 0 ≠ 2 ∧ u16 (cardOf 1 0) 2 = 0 ∧ archive.signOk = false ∧ (signKeyed archive).signOk = true ∧ noArchive.arc.tokens = 0 ∧
      archive.macSlotOk (u8 (cardOf 2 3) 1) 5 none = false) ∧
    (let s := withSess (broke (macKeyed (signKeyed archive))) 2 3
     s.allowed on2 0x2920 0 (cardOf 1 0) ∧ s.allowed on2 0x2920 0 (cardOf 2 3) ∧ s.session on2.session = some (sess 3) ∧ s.arc.cardWait.length < 8 ∧
       (32 + on2.session) ∉ s.arc.cardWait ∧ s.signOk = true ∧ 0 < s.arc.tokens ∧ s.macSlotOk (u8 (cardOf 2 3) 1) 5 none = true ∧
       s.admits 5 7 (waiterHost ((s.arc.cardWait ++ [32 + on2.session]).headD 0)) = false) := by
  unfold State.allowed
  and_intros <;> decide

def signing (n : Word) (busy : Bool) (len : BitVec 15) : State :=
  let s := signKeyed archive
  { s with signer := { s.signer with next := n, busy := busy, msgLen := len, msgAddr := 0x10800000, outAddr := 0x10000000 } }

theorem witness_Signing :
    ((signing 0 false 0).signer.busy = false ∧ (signing 0 false 0).signOk = true ∧ (signing (2 ^ 30 - 1) false 0).signOk = true ∧ 2 ^ 30 ≤ (signing (2 ^ 30) false 0).signer.next.toNat) ∧
    ((signing 0 true 0).signer.busy = true ∧ (signing 0 true 0).signer.msgLen.toNat = 0 ∧ 16384 < (signing 0 true 16385).signer.msgLen.toNat) ∧
    (1 ≤ (signing 1 true 1).signer.msgLen.toNat ∧ (signing 1 true 16384).signer.msgLen.toNat ≤ 16384 ∧
      ((signing 1 true 1).memRead (.hw 1) ((signing 1 true 1).signer.msgAddr.toNat / 4 * 4) 1).1.isSome = true ∧
      ((signing 1 true 1).memWrite .mgpPriv ((signing 1 true 1).signer.outAddr.toNat / 4 * 4) (zs 64)).1 = true) := by
  and_intros <;> decide

/-! ## Witnesses: field networks and the Duner dictionary protocol -/

/-- Every port runs with its factory parameters, and slots 1 to 4 hold role keys of zeros. -/
def netUp (s : State) : State :=
  { s with
    net := { s.net with ports := Vector.ofFn fun k => { cfg := factoryNet k } }, clk := { s.clk with netLock := true }
    keys := { s.keys with slots := Vector.ofFn fun k => if 1 ≤ k.val ∧ k.val ≤ 4 then { typ := 1, policy := rolePolicy, key := zs 32 } else s.keys.slots.get k } }
def onNet : State := netUp archive
def peer : Bytes := [2, 0, 0, 0, 0, 9]
/-- A session on T1S port 0 (port 4) with the partner `peer`. -/
def sessT (role : Nat) (isOpen : Bool) : Session := { sess role with port := 4, addr := peer, open_ := isOpen, seqOut := if isOpen then 5 else 1, high := if isOpen then 7 else 0 }
def inSess (role : Nat) : State := onNet.setSession 2 (some (sessT role true))
def halfOpen : State := onNet.setSession 2 (some (sessT 3 false))
def frameOf (b : Bytes) : DdpIn := { port := 4, addr := peer, bytes := b ++ zs (46 - b.length) }
/-- A message of the partner in session 2, with its MAC. -/
def msgIn (typ flags xid seq : Nat) (body : Bytes) : DdpIn :=
  let b := msgBytes typ flags 2 xid seq body true
  frameOf (b ++ macOf (zs 32) 0x50 (zs 16) (zs 16) b)
/-- A message in no session. -/
def msgOut (typ flags xid : Nat) (body : Bytes) : DdpIn := frameOf (msgBytes typ flags 0 xid 0 body false)
def reqBody (op sub idx : Nat) (d : Bytes) : Bytes := p8 op ++ p8 sub ++ p16 idx ++ d

/-- What the partner's messages parse to, in session 2 and in none. -/
def xIn (typ flags xid seq : Nat) (body : Bytes) : Msg :=
  { typ, flags, session := 2, xid, seq, body, signed := msgBytes typ flags 2 xid seq body true
    mac := macOf (zs 32) 0x50 (zs 16) (zs 16) (msgBytes typ flags 2 xid seq body true) }
def xOut (typ flags xid : Nat) (body : Bytes) : Msg :=
  { typ, flags, session := 0, xid, seq := 0, body, signed := msgBytes typ flags 0 xid 0 body false ++ zs (34 - body.length - body.length), mac := [] }

def canF (id : Nat) (d : Bytes) : CanFrame := { id := BitVec.ofNat 11 id, fd := true, data := d }
def t1sF (et : Nat) (n : Nat) (ok : Bool) : T1sFrame :=
  { dst := groupAddr 4, src := peer, etherType := BitVec.ofNat 16 et, payload := zs n, fcsOk := ok, foreignBeacon := false }

theorem witness_NetworkFrames :
    (archive.netRuns (canPort 0) = false ∧ onNet.netRuns (canPort 0) = true ∧ onNet.power = .p0 ∧ (onNet.net.ports.get (canPort 0)).canState ≠ 2) ∧
    ((canF 0x105 [0, 2]).id.toNat / 0x80 = 2 ∧ (canF (0x200 + (onNet.net.ports.get 0).cfg.node) [1]).id.toNat % 0x80 = (onNet.net.ports.get (canPort 0)).cfg.node ∧
      (canF 0x105 [0, 2]).id.toNat % 0x80 ≠ (onNet.net.ports.get (canPort 0)).cfg.node ∧ (canF 0x105 [0, 2]).id.toNat % 0x80 ≠ 0 ∧
      (canF 0x105 [0, 2]).data ≠ [] ∧ u8 (canF 0x105 [0, 2]).data 0 = 0 ∧ (onNet.net.ports.get (canPort 0)).rx.length < 64) ∧
    64 ≤ (({ onNet with net := { onNet.net with ports := onNet.net.ports.set 0 { cfg := factoryNet 0, rx := List.replicate 64 (frameOf []) } } } : State).net.ports.get (canPort 0)).rx.length ∧
    (onNet.netRuns (t1sPort 0) = true ∧ (t1sF 0x88B5 46 true).payload.length = 46 ∧ (t1sF 0x88B5 1500 true).payload.length ≤ 1500 ∧
      (onNet.net.ports.get (t1sPort 0)).rx.length < 16 ∧ (t1sF 0x88B6 46 true).etherType ≠ 0x88B5) ∧
    ((onNet.net.ports.get (t1sPort 0)).cfg.node ≠ 255 ∧ (onNet.net.ports.get (t1sPort 0)).cfg.node ≠ 0 ∧ (onNet.net.ports.get (t1sPort 0)).beaconOk = false) ∧
    (onNet.dictServed = true ∧ State.reset.dictServed = false ∧ onNet.power ≠ .p4 ∧ onNet.net.partners = []) := by
  and_intros <;> decide

/-- A Roll call's body, and the message. -/
def rollBody : Bytes := [1, 2] ++ p16 33 ++ p32 77 ++ zs 16
theorem witness_NetworkFrames_rollcall : ∃ x, onNet.takesMsg (msgOut 0 0 0 rollBody) 0 x ∧ x.session = 0 :=
  ⟨_, ⟨by decide, rfl, rfl⟩, rfl⟩

def openBody (role : Nat) : Bytes := p8 role ++ [0, 0, 0] ++ zs 16
theorem witness_Sessions_open : (∃ x, onNet.takesMsg (msgOut 1 0 9 (openBody 3)) 1 x ∧ x.session = 0 ∧ u8 x.body 0 = 3) ∧
    (onNet.arrives (msgOut 1 0 9 (openBody 3))).openRefused (msgOut 1 0 9 (openBody 3)) 3 = 0 ∧
    (onNet.arrives (msgOut 1 0 9 (openBody 5))).openRefused (msgOut 1 0 9 (openBody 5)) 5 ≠ 0 ∧
    (sessionNos.find? fun k => ((onNet.arrives (msgOut 1 0 9 (openBody 3))).session k).elim false fun y =>
      !y.open_ && y.boundTo (msgOut 1 0 9 (openBody 3)) && y.np = zs 16 && y.role = 3) = none ∧
    (sessionNos.find? fun j => ((onNet.arrives (msgOut 1 0 9 (openBody 3))).session j).isNone) = some 1 :=
  ⟨⟨_, ⟨by decide, rfl, rfl⟩, rfl, by decide⟩, by decide, by decide, by decide, by decide⟩
theorem draw_some {s : State} {w : Drbg.Work} {c : Nat} (h : s.rng.drbg = some w) (hr : s.drbgRefuses = false) :
    ∃ nc s1, s.draw 16 false c = (some nc, s1) := ⟨_, _, by simp [State.draw, h, hr]; exact ⟨rfl, rfl⟩⟩
/-- With a generator that runs, the bytes are drawn. -/
theorem witness_Sessions_draw : ∃ nc s1,
    (({ onNet with rng := { onNet.rng with drbg := some (Drbg.ofSeed []) } } : State).arrives (msgOut 1 0 9 (openBody 3))).draw 16 false conSession = (some nc, s1) :=
  draw_some (w := Drbg.ofSeed []) (by rfl) (by decide)

/-- The message with MAC `mac`, and what it parses to. -/
def macMsg (typ flags xid seq : Nat) (body mac : Bytes) : DdpIn := frameOf (msgBytes typ flags 2 xid seq body true ++ mac)
def xMac (typ flags xid seq : Nat) (body mac : Bytes) : Msg := { xIn typ flags xid seq body with mac := mac }
/-- A message of session 2 parses to what it was made of, if it does so with a MAC of zeros. -/
theorem parse_with {typ flags xid seq : Nat} {body c : Bytes} (hc : c.length = 16)
    (h : Msg.parse 4 (macMsg typ flags xid seq body (zs 16)).bytes = some { xIn typ flags xid seq body with mac := zs 16 })
    (hl : u16 (msgBytes typ flags 2 xid seq body true) 2 = (msgBytes typ flags 2 xid seq body true).length + 16)
    (hs : u8 (msgBytes typ flags 2 xid seq body true) 4 ≠ 0 ∧ 12 ≤ (msgBytes typ flags 2 xid seq body true).length) :
    Msg.parse 4 (macMsg typ flags xid seq body c).bytes = some (xMac typ flags xid seq body c) := by
  have e : ∀ c : Bytes, c.length = 16 → (macMsg typ flags xid seq body c).bytes =
      msgBytes typ flags 2 xid seq body true ++ c ++ zs (46 - (msgBytes typ flags 2 xid seq body true ++ zs 16).length) := by
    intro c hc
    simp [macMsg, frameOf, hc, show (zs 16).length = 16 from rfl]
  rw [e _ hc]
  rw [e _ rfl] at h
  have g := parse_mac (p := 4) hc hs.2 hl hs.1 h
  exact g
theorem parse_in {typ flags xid seq : Nat} {body : Bytes}
    (h : Msg.parse 4 (macMsg typ flags xid seq body (zs 16)).bytes = some { xIn typ flags xid seq body with mac := zs 16 })
    (hl : u16 (msgBytes typ flags 2 xid seq body true) 2 = (msgBytes typ flags 2 xid seq body true).length + 16)
    (hs : u8 (msgBytes typ flags 2 xid seq body true) 4 ≠ 0 ∧ 12 ≤ (msgBytes typ flags 2 xid seq body true).length) :
    Msg.parse 4 (msgIn typ flags xid seq body).bytes = some (xIn typ flags xid seq body) :=
  parse_with (macOf_length (zs 32) 0x50 (zs 16) (zs 16) (msgBytes typ flags 2 xid seq body true)) h hl hs
theorem parse_proof : ∀ q ∈ [0, 1], Msg.parse 4 (msgIn 3 0 9 q []).bytes = some (xIn 3 0 9 q []) := fun q hq => parse_in (by revert q; decide) (by revert q; decide) (by revert q; decide)
theorem witness_Sessions_proof : ∀ q ∈ [0, 1],
    halfOpen.takesMsg (msgIn 3 0 9 q []) 3 (xIn 3 0 9 q []) ∧ (halfOpen.arrives (msgIn 3 0 9 q [])).session 2 = some (sessT 3 false) ∧
    (sessT 3 false).boundTo (msgIn 3 0 9 q []) = true ∧ (halfOpen.arrives (msgIn 3 0 9 q [])).macOk (sessT 3 false) (xIn 3 0 9 q []) ∧ halfOpen.net.applyOld = none := by
  intro q hq
  have e : ∀ m : DdpIn, m.port = 4 → m.addr = peer → (halfOpen.arrives m).session 2 = some (sessT 3 false) ∧ (sessT 3 false).boundTo m = true := by
    rintro ⟨_, _, b⟩ rfl rfl
    exact ⟨rfl, rfl⟩
  exact ⟨⟨rfl, parse_proof q hq, rfl⟩, (e _ rfl rfl).1, (e _ rfl rfl).2, rfl, rfl⟩

/-- `s` with transfers open and, in session 2, a request already answered. -/
def withXf (us : List Transfer) (s : State) : State := { s with net := { s.net with transfers := us } }
/-- The state in which message number 8 of session 2 is handled. -/
def heard (s : State) (m : DdpIn) : State :=
  (s.arrives m).modSession 2 fun z => { z with high := 8, seen := 1, lastHeard := s.timeBase.toNat }
def base (r : Nat) (us : List Transfer) (y : Session) : State := withXf us (onNet.setSession 2 (some y))

/-- The message with number 8 is accepted in session 2. -/
theorem opens {r : Nat} {us : List Transfer} {y : Session} {typ flags xid : Nat} {body : Bytes} (hr : y.role = r) (h4 : 1 ≤ r ∧ r ≤ 4)
    (hb : y.port = 4 ∧ y.addr = peer ∧ y.open_ = true ∧ y.np = zs 16 ∧ y.nc = zs 16 ∧ y.high = 7 ∧ y.seen = 0)
    (hp : Msg.parse 4 (msgIn typ flags xid 8 body).bytes = some (xIn typ flags xid 8 body)) :
    (base r us y).inOpen (msgIn typ flags xid 8 body) typ (xIn typ flags xid 8 body) y (heard (base r us y) (msgIn typ flags xid 8 body)) := by
  obtain ⟨e1, e2, e3, e4, e5, e6, e7⟩ := hb
  refine ⟨⟨rfl, hp, rfl⟩, (by decide : (2 : Nat) ≠ 0), rfl, by simp only [Session.boundTo, e1, e2]; rfl, e3, ?_, 8, 1, ?_, by decide, rfl⟩
  · subst hr
    obtain ⟨h1, h2⟩ := h4
    have : y.role = 1 ∨ y.role = 2 ∨ y.role = 3 ∨ y.role = 4 := by omega
    have k : State.roleKey ((base y.role us y).arrives (msgIn typ flags xid 8 body)) y.role = zs 32 := by
      rcases this with h | h | h | h <;> rw [h] <;> rfl
    unfold State.macOk
    rw [k, e4, e5]
    rfl
  · rw [e6, e7]
    show acceptSeq 7 0 8 = some (8, 1)
    decide

theorem parse_close : Msg.parse 4 (msgIn 5 0 9 8 [1, 0, 0, 0]).bytes = some (xIn 5 0 9 8 [1, 0, 0, 0]) := parse_in (by decide) (by decide) (by decide)
theorem witness_Sessions_close :
    (base 3 [] (sessT 3 true)).inOpen (msgIn 5 0 9 8 [1, 0, 0, 0]) 5 (xIn 5 0 9 8 [1, 0, 0, 0]) (sessT 3 true)
      (heard (base 3 [] (sessT 3 true)) (msgIn 5 0 9 8 [1, 0, 0, 0])) ∧ (sessT 3 true).seqOut.toNat < 2 ^ 31 - 2 :=
  ⟨opens rfl (by decide) (by decide) parse_close, by decide⟩

theorem witness_Sessions_times :
    (halfOpen.session 2 = some (sessT 3 false) ∧ (sessT 3 false).open_ = false ∧ (sessT 3 false).lastHeard + 2000000 ≤ (later halfOpen 2000000).timeBase.toNat ∧
      ({ halfOpen with timeBase := 0 } : State).timeBase.toNat < (sessT 3 false).lastHeard + 2000000) ∧
    ((inSess 3).session 2 = some (sessT 3 true) ∧ (sessT 3 true).open_ = true ∧
      (sessT 3 true).lastHeard + (inSess 3).net.idleS * 1000000 ≤ (later (inSess 3) 60000000).timeBase.toNat ∧
      ({ inSess 3 with timeBase := 0 } : State).timeBase.toNat < (sessT 3 true).lastHeard + (inSess 3).net.idleS * 1000000) := by
  and_intros <;> decide

/-- A message of each kind, with the number 7 that session 2 has accepted, and with a MAC that is not the partner's. -/
def kinds : List (Nat × Bytes) := [(5, [1, 0, 0, 0]), (8, zs 12), (9, zs 4), (10, zs 20), (11, zs 8), (12, zs 8)]
theorem wrong_mac (b : Bytes) : ∃ c : Bytes, c.length = 16 ∧ b ≠ c := by
  by_cases h : b = zs 16
  · exact ⟨List.replicate 16 1, rfl, by rw [h] <;> decide⟩
  · exact ⟨zs 16, rfl, h⟩
theorem witness_Sessions_dropped : ∀ q ∈ kinds,
    (∃ c, (inSess 3).takesMsg (macMsg q.1 0 9 8 q.2 c) q.1 (xMac q.1 0 9 8 q.2 c) ∧ ((inSess 3).arrives (macMsg q.1 0 9 8 q.2 c)).session 2 = some (sessT 3 true) ∧
      (sessT 3 true).boundTo (macMsg q.1 0 9 8 q.2 c) = true ∧ ¬((inSess 3).arrives (macMsg q.1 0 9 8 q.2 c)).macOk (sessT 3 true) (xMac q.1 0 9 8 q.2 c)) ∧
    ((inSess 3).takesMsg (msgIn q.1 0 9 7 q.2) q.1 (xIn q.1 0 9 7 q.2) ∧ ((inSess 3).arrives (msgIn q.1 0 9 7 q.2)).macOk (sessT 3 true) (xIn q.1 0 9 7 q.2) ∧
      acceptSeq (sessT 3 true).high (sessT 3 true).seen 7 = none) := by
  intro q hq
  have a1 : ∀ q ∈ kinds, ∀ n ∈ [7, 8], Msg.parse 4 (macMsg q.1 0 9 n q.2 (zs 16)).bytes = some { xIn q.1 0 9 n q.2 with mac := zs 16 } := by decide
  have a2 : ∀ q ∈ kinds, ∀ n ∈ [7, 8], u16 (msgBytes q.1 0 2 9 n q.2 true) 2 = (msgBytes q.1 0 2 9 n q.2 true).length + 16 := by decide
  have a3 : ∀ q ∈ kinds, ∀ n ∈ [7, 8], u8 (msgBytes q.1 0 2 9 n q.2 true) 4 ≠ 0 ∧ 12 ≤ (msgBytes q.1 0 2 9 n q.2 true).length := by decide
  obtain ⟨c, hc, hn⟩ := wrong_mac (macOf (zs 32) 0x50 (zs 16) (zs 16) (msgBytes q.1 0 2 9 8 q.2 true))
  have p1 := parse_with hc (a1 q hq 8 (by decide)) (a2 q hq 8 (by decide)) (a3 q hq 8 (by decide))
  have p2 := parse_in (a1 q hq 7 (by decide)) (a2 q hq 7 (by decide)) (a3 q hq 7 (by decide))
  exact ⟨⟨c, ⟨rfl, p1, rfl⟩, rfl, rfl, hn⟩, ⟨rfl, p2, rfl⟩, rfl, by decide⟩

/-- Requests: a READ, a READ of nothing, a WRITE, one refused, and a NOP. -/
def reads : Bytes := reqBody 1 1 0x2C00 []
def reqs : List Bytes := [reads, reqBody 1 0x55 0x2900 [], reqBody 1 0 0x2A00 [], reqBody 2 0 0x2907 (p32 1), reqBody 2 0 0x2907 [1], reqBody 3 0 0 [], reqBody 1 0 0x2908 []]
theorem parse_reqs : ∀ b ∈ reqs, Msg.parse 4 (msgIn 6 0 9 8 b).bytes = some (xIn 6 0 9 8 b) :=
  fun b hb => parse_in (by revert b; decide) (by revert b; decide) (by revert b; decide)
def asks (b : Bytes) : State := heard (base 3 [] (sessT 3 true)) (msgIn 6 0 9 8 b)

theorem witness_Requests : ∀ b ∈ reqs,
    (base 3 [] (sessT 3 true)).inOpen (msgIn 6 0 9 8 b) 6 (xIn 6 0 9 8 b) (sessT 3 true) (asks b) ∧ (asks b).transfer 2 4 peer 9 = none ∧
    ¬((sessT 3 true).lastXid = 9 ∧ (sessT 3 true).lastBody = p8 6 ++ b) ∧ ∃ y1, (asks b).session 2 = some y1 ∧ y1.seqOut.toNat < 2 ^ 31 - 2 :=
  fun b hb => ⟨opens rfl (by decide) (by decide) (parse_reqs b hb), rfl, fun h => by simp [sessT, sess] at h, _, rfl, by decide⟩

theorem witness_Requests_values :
    (let g := (asks reads).dictGet ⟨2, 0⟩ 0x2C00 1
     g.1 = 0 ∧ g.2.1.length ≤ reqMax 4 true ∧ (g.2.2.session 2).isSome = true) ∧
    (let g := (asks (reqBody 1 0 0x2908 [])).dictGet ⟨2, 0⟩ 0x2908 0
     g.1 = 0 ∧ reqMax 4 true < g.2.1.length ∧ (asks (reqBody 1 0 0x2908 [])).transferRefused 2 (up4k g.2.1.length) = 0) ∧
    ((asks (reqBody 1 0x55 0x2900 [])).dictGet ⟨2, 0⟩ 0x2900 0x55).1 ≠ 0 ∧
    ((asks (reqBody 2 0 0x2907 (p32 1))).dictPut ⟨2, 0⟩ 0x2907 0 (p32 1)).code = 0 ∧
    ((asks (reqBody 2 0 0x2907 [1])).dictPut ⟨2, 0⟩ 0x2907 0 [1]).code ≠ 0 := by
  and_intros <;> decide +kernel

/-- The last request of session 2 is repeated, and requests come outside a session. -/
def repeated (b : Bytes) : Session := { sessT 3 true with lastXid := 9, lastBody := p8 6 ++ b, lastAnswer := [(7, 0, b.take 4)] }
theorem witness_Requests_again : ∀ b ∈ reqs,
    (base 3 [] (repeated b)).inOpen (msgIn 6 0 9 8 b) 6 (xIn 6 0 9 8 b) (repeated b) (heard (base 3 [] (repeated b)) (msgIn 6 0 9 8 b)) ∧
    (heard (base 3 [] (repeated b)) (msgIn 6 0 9 8 b)).transfer 2 4 peer 9 = none ∧ (repeated b).lastXid = 9 ∧ (repeated b).lastBody = p8 6 ++ b ∧
    (repeated b).lastAnswer = [(7, 0, b.take 4)] ∧ ∃ y1, (heard (base 3 [] (repeated b)) (msgIn 6 0 9 8 b)).session 2 = some y1 ∧ y1.seqOut.toNat < 2 ^ 31 - 2 :=
  fun b hb => ⟨opens rfl (by decide) ⟨rfl, rfl, rfl, rfl, rfl, rfl, rfl⟩ (parse_reqs b hb), rfl, rfl, rfl, rfl, _, rfl, (by decide : (5 : Word).toNat < 2 ^ 31 - 2)⟩

theorem witness_Requests_outside :
    (∃ x, onNet.takesMsg (msgOut 6 0 9 (reqBody 2 2 0x3000 (p64 1))) 6 x ∧ x.session = 0 ∧ u8 x.body 0 = 2 ∧
      (onNet.arrives (msgOut 6 0 9 (reqBody 2 2 0x3000 (p64 1)))).transfer 0 4 peer x.xid = none) ∧
    (∃ x, onNet.takesMsg (msgOut 6 0 9 reads) 6 x ∧ x.session = 0 ∧ u8 x.body 0 = 1 ∧ x.body.length = 4 ∧
      (onNet.arrives (msgOut 6 0 9 reads)).transfer 0 4 peer x.xid = none) ∧
    (let g := (onNet.arrives (msgOut 6 0 9 reads)).dictGet ⟨0, 0⟩ 0x2C00 1
     g.1 = 0 ∧ g.2.1.length ≤ reqMax 4 false) := by
  refine ⟨⟨_, ⟨by decide, rfl, rfl⟩, rfl, by decide, by decide⟩, ⟨_, ⟨by decide, rfl, rfl⟩, rfl, by decide, by decide, by decide⟩, ?_⟩
  decide +kernel

/-! ## Witnesses: segmented transfers -/

/-- A SEG_INIT body: a write of 0x2905 or 0x2801. -/
def initOf (idx total size win : Nat) : Bytes := reqBody 2 0 idx (p32 total ++ p16 size ++ [BitVec.ofNat 8 win, 0])
/-- A write of `total` bytes in segments of 100, window 3. -/
def xfer (w : Bool) (total : Nat) (held : List (Nat × Bytes)) (next limit : Nat) : Transfer :=
  { session := 2, port := 4, addr := peer, xid := 9, write := w, sub := 0, index := 0x2905, total := total, segsize := 100, window := 3
    initBody := initOf 0x2905 total 100 3, held := held, data := [], next := next, limit := limit, granted := true, sent := 0, endSent := false, retries := 0
    gapTimer := false, reserve := 4096 }
def inits : List Bytes := [initOf 0x2905 0 100 3, initOf 0x2905 200 1471 3, initOf 0x2905 200 1470 3, initOf 0x2905 200 100 200]
theorem parse_inits : ∀ b ∈ inits, Msg.parse 4 (msgIn 8 0 9 8 b).bytes = some (xIn 8 0 9 8 b) :=
  fun b hb => parse_in (by revert b; decide) (by revert b; decide) (by revert b; decide)
/-- The state in which message 8 of a type is handled while the transfers are open. -/
def during (us : List Transfer) (typ flags : Nat) (b : Bytes) : State := heard (base 3 us (sessT 3 true)) (msgIn typ flags 9 8 b)

theorem witness_SegmentedTransfers_init : ∀ b ∈ inits,
    (base 3 [] (sessT 3 true)).inOpen (msgIn 8 0 9 8 b) 8 (xIn 8 0 9 8 b) (sessT 3 true) (during [] 8 0 b) ∧ (during [] 8 0 b).transfer 2 4 peer 9 = none ∧
    (∃ y1, (during [] 8 0 b).session 2 = some y1 ∧ y1.seqOut.toNat < 2 ^ 31 - 2) ∧ u8 b 0 = 2 ∧ (during [] 8 0 b).transferRefused 2 (up4k (u32 b 4)) = 0 := by
  intro b hb
  have h : ∀ b ∈ inits, u8 b 0 = 2 ∧ (during [] 8 0 b).transferRefused 2 (up4k (u32 b 4)) = 0 := by decide
  exact ⟨opens rfl (by decide) (by decide) (parse_inits b hb), rfl, ⟨_, rfl, by decide⟩, h b hb⟩
theorem witness_SegmentedTransfers_sizes : ∀ b ∈ [initOf 0x2905 200 1470 3, initOf 0x2905 200 100 200],
    u32 b 4 ≠ 0 ∧ u16 b 8 ≠ 0 ∧ u16 b 8 ≤ segMax 4 true ∧ u8 b 10 ≠ 0 := by decide

/-- Segment 0 is held and counted, 2 is held; 4 is the limit. -/
def half : Transfer := xfer true 500 [(0, zs 100), (2, zs 100)] 1 4
def segs : List Bytes := [p16 0 ++ zs 100, p16 1 ++ zs 100, p16 2 ++ zs 100, p16 2 ++ List.replicate 100 1, p16 4 ++ zs 100]
theorem parse_segs : ∀ b ∈ segs, Msg.parse 4 (msgIn 9 0 9 8 b).bytes = some (xIn 9 0 9 8 b) :=
  fun b hb => parse_in (by revert b; decide) (by revert b; decide) (by revert b; decide)
theorem witness_SegmentedTransfers_data : ∀ b ∈ segs,
    (base 3 [half] (sessT 3 true)).inOpen (msgIn 9 0 9 8 b) 9 (xIn 9 0 9 8 b) (sessT 3 true) (during [half] 9 0 b) ∧
    (during [half] 9 0 b).transfer 2 4 peer 9 = some half ∧ half.session = 2 ∧ half.xid = 9 ∧ half.write = true :=
  fun b hb => ⟨opens rfl (by decide) (by decide) (parse_segs b hb), rfl, rfl, rfl, rfl⟩
theorem witness_SegmentedTransfers_places :
    (∀ n ∈ [0, 1, 2, 4], resolveSeg half.next n = some n) ∧ half.heldAt 2 = some (zs 100) ∧ zs 100 ≠ List.replicate 100 1 ∧ half.heldAt 1 = none ∧ half.heldAt 4 = none ∧
    half.limit ≤ 4 ∧ 1 + 1 < half.count ∧ (zs 100).length = half.segsize ∧
    ({ half with held := half.held ++ [(1, zs 100)], retries := 0 } : Transfer).settle.next < min half.limit half.count := by
  and_intros <;> decide

/-- Both segments of a partner's append are held. -/
def wholeValue : Bytes := appendOf 4 196
def whole : Transfer := xfer true 200 [(0, wholeValue.take 100), (1, wholeValue.drop 100)] 2 5
def ends : List Bytes := [p32 2 ++ p32 (crc32c wholeValue), p32 3 ++ p32 0]
theorem parse_ends : ∀ b ∈ ends, Msg.parse 4 (msgIn 11 0 9 8 b).bytes = some (xIn 11 0 9 8 b) :=
  fun b hb => parse_in (by revert b; decide) (by revert b; decide) (by revert b; decide)
theorem witness_SegmentedTransfers_end : ∀ b ∈ ends,
    (base 3 [whole] (sessT 3 true)).inOpen (msgIn 11 0 9 8 b) 11 (xIn 11 0 9 8 b) (sessT 3 true) (during [whole] 11 0 b) ∧
    (during [whole] 11 0 b).transfer 2 4 peer 9 = some whole ∧ (sessT 3 true).lastXid ≠ 9 ∧ whole.count = 2 :=
  fun b hb => ⟨opens rfl (by decide) (by decide) (parse_ends b hb), rfl, by decide, by decide⟩
theorem witness_SegmentedTransfers_commit :
    (List.range whole.count).all (fun n => whole.has n) = true ∧ whole.rest ≤ ((whole.heldAt (whole.count - 1)).getD []).length ∧
    crc32c whole.value = u32 (p32 2 ++ p32 (crc32c wholeValue)) 4 ∧ whole.value = wholeValue ∧
    ((during [whole] 11 0 (p32 2 ++ p32 (crc32c wholeValue))).dictPut ⟨2, 0⟩ 0x2905 0 wholeValue).code = 0 := by
  and_intros <;> decide +kernel

/-- A segmented read whose SEG_END is sent; ABORT and SEG_ACK of the partner; the timers. -/
def readDone : Transfer := { xfer false 200 [] 2 5 with endSent := true }
theorem parse_acks : (∀ f ∈ [0, 1], Msg.parse 4 (msgIn 10 f 9 8 (zs 20)).bytes = some (xIn 10 f 9 8 (zs 20))) ∧
    Msg.parse 4 (msgIn 12 0 9 8 (zs 8)).bytes = some (xIn 12 0 9 8 (zs 8)) :=
  ⟨fun f hf => parse_in (by revert f; decide) (by revert f; decide) (by revert f; decide), parse_in (by decide) (by decide) (by decide)⟩
theorem witness_SegmentedTransfers_acks :
    (base 3 [readDone] (sessT 3 true)).inOpen (msgIn 10 1 9 8 (zs 20)) 10 (xIn 10 1 9 8 (zs 20)) (sessT 3 true) (during [readDone] 10 1 (zs 20)) ∧
    (during [readDone] 10 1 (zs 20)).transfer 2 4 peer 9 = some readDone ∧ readDone.write = false ∧ readDone.endSent = true ∧ bits 1 0 1 = 1 ∧
    (base 3 [whole] (sessT 3 true)).inOpen (msgIn 10 0 9 8 (zs 20)) 10 (xIn 10 0 9 8 (zs 20)) (sessT 3 true) (during [whole] 10 0 (zs 20)) ∧
    (base 3 [whole] (sessT 3 true)).inOpen (msgIn 12 0 9 8 (zs 8)) 12 (xIn 12 0 9 8 (zs 8)) (sessT 3 true) (during [whole] 12 0 (zs 8)) :=
  ⟨opens rfl (by decide) (by decide) (parse_acks.1 1 (by decide)), rfl, rfl, rfl, by decide, opens rfl (by decide) (by decide) (parse_acks.1 0 (by decide)),
    opens rfl (by decide) (by decide) parse_acks.2⟩
theorem witness_SegmentedTransfers_timers :
    (let a := base 3 [{ half with gapTimer := true, retries := 8 }] (sessT 3 true)
     a.transfer 2 4 peer 9 = some { half with gapTimer := true, retries := 8 } ∧ a.serves 4 = true) ∧
    (half.gapTimer = false ∧ half.retries < 8 ∧ (base 3 [half] (sessT 3 true)).transfer 2 4 peer 9 = some half) := by
  and_intros <;> decide
/-! ## A Timetable image of host 0 that is accepted, without an opcode in it, and one that detains -/

def plainTt : Timetable := { benchTt [] with index := List.replicate 256 0 }
def hdrLit (fl en : Byte) : Bytes := [0x4B, 0x52, 0x54, 0x54, 1, 0, 0, 2, 0, 0, fl, 0, 0, 0, 0, 0, 0, 0, 0, 0, 0, 16, 0, 0, en, 255, 136, 0, 208, 7, 0, 0, 7, 2, 0, 0, 1, 0, 0, 0, 254, 7, 0, 0, 0, 0, 0, 0, 3]
def ttHead (fl en : Byte) (c1 : Bytes) : Bytes := hdrLit fl en ++ (zs 459 ++ c1)
def ttRest (c2 : Bytes) : Bytes := zs 1156 ++ ([255, 255, 255, 255] ++ (zs 8 ++ c2))
def ttImg (fl en : Byte) (c1 c2 : Bytes) : Bytes := ttHead fl en c1 ++ ttRest c2
def imgLit : Bytes := ttImg 0 1 [0x4F, 0x8A, 0xDB, 0xCA] [0xA9, 0xF8, 0x62, 0x5F]
theorem field_tail {b c : Bytes} {o n : Nat} (h : b.length ≤ o) : field (b ++ c) o n = field c (o - b.length) n := by
  simp only [field, List.drop_append, List.drop_of_length_le h, List.nil_append]
theorem u32_zero {m o : Nat} (c : Bytes) (h : o + 4 ≤ m) : u32 (zs m ++ c) o = 0 := by
  rw [u32_head (by simpa [zs] using h)]
  have e : field (zs m) o 4 = [0, 0, 0, 0] := by
    have : min 4 (m - o) = 4 := by omega
    simp [field, zs, this]
  simp only [u32, u, e]; rfl
theorem u32_rest {a : Bytes} (ha : a.length = 512) (c2 : Bytes) {o : Nat} (h : 512 ≤ o) (h2 : o + 4 ≤ 512 + 1156) : u32 (a ++ ttRest c2) o = 0 := by
  have e : u32 (a ++ ttRest c2) o = u32 (ttRest c2) (o - a.length) := by simp only [u32, u, field_tail (by omega : a.length ≤ o)]
  rw [e]; exact u32_zero _ (by omega)
theorem parse_img : Timetable.parse imgLit = plainTt := by
  have ha : (ttHead 0 1 [0x4F, 0x8A, 0xDB, 0xCA]).length = 512 := by decide
  have hi : words imgLit 0x200 256 = List.replicate 256 0 := by
    rw [List.eq_replicate_iff]
    refine ⟨by simp [words], fun b hb => ?_⟩
    simp only [words, List.mem_map, List.mem_range] at hb
    obtain ⟨i, hi, rfl⟩ := hb
    exact u32_rest ha _ (by omega) (by omega)
  have hc : ((List.range 16).map fun i => (u32 imgLit (0x600 + 8 * i), u32 imgLit (0x604 + 8 * i))) = List.replicate 16 (0, 0) := by
    rw [List.eq_replicate_iff]
    refine ⟨by simp, fun b hb => ?_⟩
    simp only [List.mem_map, List.mem_range] at hb
    obtain ⟨i, hi, rfl⟩ := hb
    rw [show u32 imgLit (0x600 + 8 * i) = 0 from u32_rest ha _ (by omega) (by omega), show u32 imgLit (0x604 + 8 * i) = 0 from u32_rest ha _ (by omega) (by omega)]
  unfold Timetable.parse
  simp only [hi, hc]
  rw [Timetable.mk.injEq]
  and_intros <;> first | rfl | decide +kernel
theorem span_plain (op : Nat) : plainTt.span op = [] := by simp [Timetable.span, plainTt, benchTt]
theorem uses_plain : plainTt.uses = [] := by simp [Timetable.uses, span_plain]
theorem entry_plain (op : Nat) : plainTt.entry op = 0 := by
  simp only [Timetable.entry, plainTt, List.getD_eq_getElem?_getD, List.getElem?_replicate]
  split <;> rfl
theorem img_good : ttFirstFailed imgLit 0 State.reset.partCode false = 0 := by
  have c1 : ttCheck1 imgLit = true := by decide +kernel
  have c2 : ttCheck2 plainTt 0 State.reset.partCode false = true := by decide
  have c3 : ttCheck3 imgLit plainTt = true := by decide +kernel
  have c4 : ttCheck4 plainTt = true := by decide
  have c5 : ttCheck5 imgLit plainTt = true := by decide
  have c6 : ttCheck6 plainTt = true := by
    have e : ∀ op, shapeAllowed op 0 = true := fun op => rfl
    simp only [ttCheck6, span_plain, entry_plain, e]; decide
  have c7 : ttCheck7 plainTt = true := by simp [ttCheck7, uses_plain]
  have c8 : ttCheck8 plainTt = true := by simp [ttCheck8, uses_plain]
  have c9 : ttCheck9 plainTt = true := by simp only [ttCheck9, uses_plain]; decide
  have c10 : ttCheck10 plainTt = true := by simp only [ttCheck10, uses_plain]; decide
  have c11 : ttCheck11 plainTt = true := by decide
  simp only [ttFirstFailed, parse_img, c1, c2, c3, c4, c5, c6, c7, c8, c9, c10, c11]
  rfl
/-! ## Witnesses: entries, APPLY and settings -/

def w1 : Caller := { session := 2, role := 1 }
def w2 : Caller := { session := 2, role := 2 }
def inLc (l : LcState) (s : State) : State := { s with lcc := { s.lcc with state := l } }
/-- The firmware is in session 2 with a partner of role 2, and the life cycle is Integrator. -/
def sI : State := inLc .integrator (inSess 2)
def due (s : State) : State := { s with net := { s.net with applyDue := true } }
/-- The idle time of port 0 was written as 7 before the APPLY, whose validation now waits. -/
def changed (s : State) : State := s.persistVal 0x1108 2 7 0
def validating : State := let t := after (exec .applyTakeEffect (due (changed (inSess 2)))); { t with net := { t.net with applyAt := 0 } }

theorem witness_Apply :
    (sI.allowed w2 0x1110 0x10 [1]) ∧ (inSess 2).net.applyDue = false ∧ (inSess 2).fwRuns = true ∧ State.reset.fwRuns = false ∧
    ((due (inSess 2)).net.applyDue = true ∧ (due (inSess 2)).net.applyAt ≤ (due (inSess 2)).timeBase.toNat) ∧
    ((inSess 2).net.applyOld = none ∧ validating.net.applyOld.isSome = true ∧ validating.net.applyAt ≤ validating.timeBase.toNat ∧ validating.fwRuns = true) ∧
    (let s : State := { inSess 2 with timeBase := 5, net := { (inSess 2).net with applyAt := 9 } }; s.timeBase.toNat < s.net.applyAt) := by
  and_intros <;> decide

theorem witness_DictionaryGates :
    (∀ i ∈ [Instr.powerOn w1 0, .keyRevoke w1 3, .discard w1, .apply w1, .gateSetWrite w1 []], (entryWrite i).isSome = true) ∧
    State.reset.dictServed = false ∧ sI.dictServed = true ∧ sI.writeRefused w2 0x2A00 0 [] ≠ 0 ∧
    ((0x2A00, 0, 1, lcI, anyBlob) ∈ writeRows 0 ∧ (0x2C01, 0, 1, lcIF, n8) ∈ writeRows 0 ∧ sI.sys.listen = 0 ∧ sI.fused 0 = false) ∧
    1 < sI.roleOf w2 ∧ State.reset.roleOf w1 = 0 ∧ (inSess 1).roleOf w1 = 1 ∧
    (LcState.maker ∉ lcI ∧ LcState.integrator ∈ lcI ∧ n8.fits 7 = false ∧ n8.fits 8 = true ∧ anyBlob.fits 1 = true) ∧
    (let s := inLc .fielded (inSess 3); s.sys.listen = 0 ∧ s.roleOf { session := 2, role := 3 } = 3 ∧ s.lcc.state = .fielded) := by
  and_intros <;> decide

/-- A derivation of the key of role 3 from slot 2 with a label of 8 bytes; port 4 is the provisioning port. -/
def drv (src tgt n : Nat) : Bytes := p8 src ++ p8 tgt ++ p8 n ++ [0] ++ zs 32
def sProv : State := { sI with net := { sI.net with provPort := 4 } }
def sOwn : State := inLc .integrator (inSess 1)
def barred (s : State) : State := { s with upd := { s.upd with state := .activating } }
theorem witness_Derivation :
    sProv.allowed w2 0x1210 0 (drv 2 3 8) ∧ sProv.deriveOk w2 (drv 2 3 8) = true ∧ sProv.allowed w2 0x1210 0 (drv 9 3 8) ∧ sProv.deriveOk w2 (drv 9 3 8) = false := by
  and_intros <;> decide
theorem witness_GateSet :
    sOwn.allowed w1 0x2A00 0 (zs 40) ∧ sOwn.gateSetOk (zs 40) = false ∧ sOwn.allowed w1 0x2A00 0 factoryGateSet ∧ sOwn.gateSetOk factoryGateSet = true ∧
    sOwn.upd.writesBarred = false ∧ (barred sOwn).allowed w1 0x2A00 0 factoryGateSet ∧ (barred sOwn).gateSetOk factoryGateSet = true ∧
    (barred sOwn).upd.writesBarred = true := by
  and_intros <;> decide +kernel
def adv (k v : Nat) : Bytes := p8 k ++ [0, 0, 0] ++ p32 v
def sCtr : State := after (exec (.counterAdvance w1 (adv 40 5)) sOwn)
theorem witness_CounterAdvance :
    sOwn.allowed w1 0x2C01 0 (adv 64 5) ∧ 64 ≤ u8 (adv 64 5) 0 ∧ allZero (field ([40, 1, 0, 0] ++ p32 6) 1 3) = false ∧
    sCtr.allowed w1 0x2C01 0 (adv 40 4) ∧ sCtr.ctrFused 40 = false ∧ allZero (field (adv 40 4) 1 3) = true ∧ u32 (adv 40 4) 4 < sCtr.counter 40 ∧
    sCtr.allowed w1 0x2C01 0 (adv 40 5) ∧ sCtr.counter 40 = 5 ∧ sCtr.counter 40 < u32 (adv 40 6) 4 := by
  and_intros <;> decide +kernel

def bellBad : Bytes := zs 40
theorem witness_BellWrite_refused :
    sI.allowed w2 0x2501 1 bellBad ∧ bellFirstFailed bellBad 1 sI.partCode (sI.fused 1) sI.fusedHost ≠ 0 := by
  refine ⟨by constructor <;> decide, ?_⟩
  have c : bellCheck1 bellBad = false := by decide +kernel
  simp [bellFirstFailed, c]
def newBell : BellSchedule := { factoryBell 1 with headBytes := 128 }
def selBytes : Bytes := [0, 0, 7, 8, 2, 2, 8, 0] ++ zs 24
def bellHead : Bytes :=
  [75, 82, 66, 83, 1, 0, 64, 0, 1, 0, 1, 0, 0, 0, 0, 0, 0, 0, 0, 0, 128, 0, 232, 3, 0, 0, 0, 0, 32, 78, 0, 0] ++ zs 28 ++ [95, 201, 115, 48] ++
    selBytes ++ selBytes ++ selBytes ++ selBytes
def slotBytes (n : Nat) : Bytes := (List.replicate n [0, 0, 0, 1, 255, 255, 255, 0]).flatten
def bellNew : Bytes := bellHead ++ (slotBytes 64 ++ [213, 26, 42, 38])
theorem slot_word (c : Bytes) {n i : Nat} (h : i < n) : (slotBytes n ++ c).drop (8 * i) = slotBytes (n - i) ++ c := by
  induction i generalizing n with
  | zero => rfl
  | succ i ih =>
    obtain ⟨m, rfl⟩ : ∃ m, n = m + 1 := ⟨n - 1, by omega⟩
    have e : slotBytes (m + 1) ++ c = [0, 0, 0, 1, 255, 255, 255, 0] ++ (slotBytes m ++ c) := by simp [slotBytes, List.replicate_succ]
    rw [e, show 8 * (i + 1) = ([0, 0, 0, 1, 255, 255, 255, 0] : Bytes).length + 8 * i by simp; omega, ← List.drop_drop, List.drop_left, ih (by omega)]
    rw [show m + 1 - (i + 1) = m - i by omega]
theorem slot_read {i : Nat} (h : i < 64) : u32 bellNew (0xC0 + 8 * i) = 2 ^ 24 ∧ u32 bellNew (0xC4 + 8 * i) = 0xFFFFFF := by
  have hl : bellHead.length = 0xC0 := by decide
  obtain ⟨m, hm⟩ : ∃ m, 64 - i = m + 1 := ⟨63 - i, by omega⟩
  have e : slotBytes (m + 1) = [0, 0, 0, 1, 255, 255, 255, 0] ++ slotBytes m := by simp [slotBytes, List.replicate_succ]
  have e1 : bellNew.drop (0xC0 + 8 * i) = [0, 0, 0, 1, 255, 255, 255, 0] ++ (slotBytes m ++ [213, 26, 42, 38]) := by
    rw [bellNew, ← hl, ← List.drop_drop, List.drop_left, slot_word _ h, hm, e, List.append_assoc]
  have e2 : bellNew.drop (0xC4 + 8 * i) = [255, 255, 255, 0] ++ (slotBytes m ++ [213, 26, 42, 38]) := by
    rw [show 0xC4 + 8 * i = (0xC0 + 8 * i) + 4 by omega, ← List.drop_drop, e1]; rfl
  have f1 : field bellNew (0xC0 + 8 * i) 4 = [0, 0, 0, 1] := by rw [field, e1]; rfl
  have f2 : field bellNew (0xC4 + 8 * i) 4 = [255, 255, 255, 0] := by rw [field, e2]; rfl
  rw [u32, u, f1, u32, u, f2]
  decide
theorem parse_bell : BellSchedule.parse bellNew = newBell := by
  have hs : ((List.range 64).map fun i => (u32 bellNew (0xC0 + 8 * i), u32 bellNew (0xC4 + 8 * i))) = List.replicate 64 (2 ^ 24, 0xFFFFFF) := by
    rw [List.eq_replicate_iff]
    refine ⟨by simp, fun b hb => ?_⟩
    simp only [List.mem_map, List.mem_range] at hb
    obtain ⟨i, hi, rfl⟩ := hb
    rw [(slot_read hi).1, (slot_read hi).2]
  unfold BellSchedule.parse
  simp only [hs]
  rw [BellSchedule.mk.injEq]
  and_intros <;> first | rfl | decide +kernel
theorem witness_BellWrite :
    sI.allowed w2 0x2501 1 bellNew ∧ bellFirstFailed bellNew 1 sI.partCode (sI.fused 1) sI.fusedHost = 0 ∧ sI.upd.writesBarred = false ∧
    sI.bellCheck7 1 (BellSchedule.parse bellNew) = true := by
  have c1 : bellCheck1 bellNew = true := by decide +kernel
  have c2 : bellCheck2 newBell 1 sI.partCode (sI.fused 1) = true := by decide
  have c3 : bellCheck3 bellNew newBell = true := by decide +kernel
  have c4 : bellCheck4 newBell = true := by decide
  have c5 : bellCheck5 newBell sI.fusedHost = true := by decide +kernel
  have c6 : bellCheck6 newBell = true := by decide
  refine ⟨⟨by decide, by decide⟩, ?_, by decide, ?_⟩
  · simp only [bellFirstFailed, parse_bell, c1, c2, c3, c4, c5, c6]; rfl
  · rw [parse_bell]; decide +kernel

def hostIn (x : HostState) : State := { sI with img := sI.img.set 0 { sI.img.get 0 with state := x } }
theorem witness_TimetableWrite :
    ((hostIn .running).allowed w2 0x2400 0 imgLit ∧ ((hostIn .running).imgOf 0).state ∉ [HostState.off, .held, .detention]) ∧
    ((hostIn .held).allowed w2 0x2400 0 imgLit ∧ ((hostIn .held).imgOf 0).state ∈ [HostState.off, .held, .detention] ∧
     ttFirstFailed imgLit 0 (hostIn .held).partCode ((hostIn .held).fused 0) = 0 ∧ (hostIn .held).upd.writesBarred = false) ∧
    (hostIn .held).allowed w2 0x2400 0 (zs 40) ∧ ttFirstFailed (zs 40) 0 (hostIn .held).partCode ((hostIn .held).fused 0) ≠ 0 := by
  refine ⟨⟨⟨by decide, by decide⟩, by decide⟩, ⟨⟨by decide, by decide⟩, by decide, img_good, by decide⟩, ⟨by decide, by decide⟩, ?_⟩
  have c : ttCheck1 (zs 40) = false := by decide +kernel
  simp [ttFirstFailed, c]
/-! ## Witnesses: power and the energy budget -/

def ps (p : PowerState) (s : State) : State := { s with power := p }
/-- The scan is done, and a minute has passed since reset. -/
def calm : State := { State.reset with timeBase := 70000000, plc := { State.reset.plc with scanning := false } }
theorem witness_PowerStateEntry : (∀ p ∈ [(1 : Fin 5), 2, 3, 4], calm.mayEnter p) ∧ ¬ calm.mayEnter 0 ∧ ¬ (ps .p2 calm).mayEnter 3 := by
  simp only [State.mayEnter]; and_intros <;> decide
/-- Host 0 is selected and powered, and the network ports run. -/
def rich : State := { b1 with net := onNet.net, hcs := { b1.hcs with pwren := 1 } }
theorem witness_PowerWakes :
    (let s := ps .p3 rich
     (s.port 0).cfg.getLsbD 0 = true ∧ s.hcs.padPwren 0 = true ∧ (s.port 1).cfg.getLsbD 0 = false ∧ (s.net.ports.get 4).cfg.enabled = true) ∧
    (State.reset.net.ports.get 4).cfg.enabled = false ∧ (ps .p1 calm).power = .p1 ∧ (ps .p2 calm).power = .p2 ∧ (ps .p4 rich).power = .p4 := by
  and_intros <;> decide

def jo (r c : Nat) : JobOffer := { rank := r, cls := c, host := none }
/-- The bucket holds 5 J, a reseed is due, and the generator and the pool are ready. -/
def budget : State :=
  { archive with pwr := { archive.pwr with level := 5000000, tmax := 250 }
                 rng := { archive.rng with dueSince := some 4, drbg := some (Drbg.ofSeed []), pool := [zs 32, zs 32] } }
def ranks : List JobOffer := [jo 2 3, jo 4 2, jo 5 0, jo 6 6, jo 8 1, jo 1 7]
def spentOut : State := { budget with pwr := { budget.pwr with level := 60 } }
theorem standsFor_one {o : JobOffer} : standsFor [o] o := by simp [standsFor]
theorem only_first {s : State} {o : JobOffer} : ∀ x ∈ [o], x.rank < o.rank → standsFor [o] x → s.offerFits [o] x = false := by
  intro x hx h; rw [List.mem_singleton] at hx; subst hx; exact absurd h (Nat.lt_irrefl _)
theorem witness_JobAdmission :
    (∀ o ∈ ranks, [o].filter budget.offerReal = [o] ∧ budget.offerFits [o] o = true ∧ standsFor [o] o) ∧ budget.power = .p0 ∧
    budget.rng.drbg = some (Drbg.ofSeed []) ∧ (∃ e s1, budget.takeEntropy = some (e, s1)) ∧
    (∀ o ∈ [jo 2 3, jo 4 2], standsFor [jo 2 3, jo 4 2] o ∧ spentOut.offerFits [jo 2 3, jo 4 2] o = false) := by
  have h : ∀ o ∈ ranks, [o].filter budget.offerReal = [o] ∧ budget.offerFits [o] o = true := by decide
  refine ⟨fun o ho => ⟨(h o ho).1, (h o ho).2, standsFor_one⟩, rfl, rfl, ?_, ?_⟩
  · exact ⟨_, _, rfl⟩
  · simp only [standsFor]; decide

theorem witness_SensorSample :
    (ps .p4 b1).power = .p4 ∧ b1.power ≠ .p4 ∧ readingOk (some 250) ∧ ¬ readingOk none ∧ ¬ readingOk (some 1501) ∧ readingOk (some (-550)) ∧ b1.pwr.sfail.getLsbD 1 = false := by
  refine ⟨rfl, by decide, ⟨250, rfl, by decide, by decide⟩, ?_, ?_, ⟨-550, rfl, by decide, by decide⟩, by decide⟩
  · rintro ⟨x, h, -⟩; cases h
  · rintro ⟨x, h, -, h2⟩; cases h; exact absurd h2 (by decide)

/-! ## Witnesses: counters and random numbers -/

theorem witness_Counters :
    (({ State.reset with part := .kr9612 } : State).ctrFused 50 = true ∧ State.reset.ctrFused 5 = false) ∧
    (State.reset.counter 5 < 0xFFFFFFFF ∧ (State.reset.ring 5).bad = []) ∧
    (let s := (State.reset.ctrAdvance 5 0xFFFFFFFF srcCtrCmd).2; s.ctrFused 5 = false ∧ s.counter 5 = 0xFFFFFFFF) ∧
    (State.reset.ctr.arg.toNat ≤ State.reset.counter 5 ∧ State.reset.counter 5 < ({ State.reset with ctr := { State.reset.ctr with arg := 7 } } : State).ctr.arg.toNat) := by
  and_intros <;> decide +kernel
def raw (b : Byte) : Bytes := List.replicate 128 b
def rg (f : Rng → Rng) (s : State) : State := { s with rng := f s.rng }
/-- The generator is ready, with two conditioned blocks in the pool. -/
def ready : State := rg (fun r => { r with src := .healthy, len := 20, addr := 0x10000103, drbg := some (Drbg.ofSeed []), pool := [zs 32, zs 32] }) archive
def asked (a : Nat) : State := rg (fun r => { r with request := some { addr := a, len := 20 } }) ready
theorem witness_EntropyBlock :
    (rctScan State.reset.rng.lastBit State.reset.rng.run (sampleBits (raw 0))).2.2 = true ∧
    ((rctScan State.reset.rng.lastBit State.reset.rng.run (sampleBits (raw 0xEF))).2.2 = false ∧ 793 ≤ aptCount (sampleBits (raw 0xEF))) ∧
    ((rctScan State.reset.rng.lastBit State.reset.rng.run (sampleBits (raw 0x55))).2.2 = false ∧ aptCount (sampleBits (raw 0x55)) < 793) ∧
    (raw 0).length = 128 ∧ (zs 127).length ≠ 128 ∧ State.reset.rng.src ≠ .healthy ∧ State.reset.rng.src ≠ .failed ∧ ready.rng.src = .healthy ∧
    State.reset.power = .p0 ∧ (rg (fun r => { r with src := .failed, pool := [zs 32] }) archive).takeEntropy.isNone = true := by
  and_intros <;> decide +kernel
theorem witness_RandomRequests :
    ((asked 0).rng.request.isSome = true ∧ ready.rng.request = none) ∧ (1 ≤ ready.rng.len.toNat ∧ ready.rng.len.toNat ≤ 65536) ∧ State.reset.rng.len.toNat < 1 ∧
    (ready.rng.drbg = some (Drbg.ofSeed []) ∧ ∃ e s1, ready.takeEntropy = some (e, s1)) ∧ archive.rng.drbg = none ∧
    ((asked 0x10000100).coresOn ≠ [] ∧ (asked 0x10000100).drbgRefuses = false) ∧ (ps .p2 (asked 0)).coresOn = [] ∧
    (rg (fun r => { r with drbg := none }) (asked 0)).drbgRefuses = true ∧ (asked 0x10000100).refusedPiece .mgpPriv 0x10000100 20 true = none := by
  refine ⟨⟨rfl, rfl⟩, by decide, by decide, ⟨rfl, ⟨_, _, rfl⟩⟩, by decide, by decide, by decide, by decide, by decide⟩
theorem generate_length {w : Drbg.Work} : (w.generate 20).1.length = 20 := by
  simp [Drbg.Work.generate, Drbg.hashgen, List.range_succ, Hash.sha256_length]
theorem witness_Reseeds :
    (rg (fun r => { r with sinceReseed := 2 ^ 20 }) ready).rng.dueSince = none ∧ ready.rng.sinceReseed < 2 ^ 23 ∧ ready.rng.dueSince = none ∧
    (let s : State := { rg (fun r => { r with dueSince := some 3 }) ready with timeBase := 86400000003 }; ∃ d, s.rng.dueSince = some d ∧ d + 86400000000 ≤ s.timeBase.toNat) ∧
    2 ^ 23 ≤ (rg (fun r => { r with sinceReseed := 2 ^ 23 }) ready).rng.sinceReseed := by
  refine ⟨rfl, by decide, rfl, ⟨3, rfl, by decide⟩, by decide⟩
/-! ## Witnesses: keys -/

/-- The debug port is open in a provisioning session in the Maker state. -/
def prov (s : State) : State := { s with dbg := { s.dbg with open_ := true, prov := true } }
def making (s : State) : State := prov (inLc .maker s)
def loading (ty len pol : Nat) (data : Bytes) : State :=
  let s := making archive
  { s with keys := { s.keys with hdrType := BitVec.ofNat _ ty, hdrLen := BitVec.ofNat _ len, loadPolicy := BitVec.ofNat _ pol, loadData := data } }
theorem witness_KeyLoad :
    (loading 3 60 0xFFFF00FF (zs 60)).reaches .debug 0x40060010 ∧ archive.reaches .mgpPriv 0x40060010 ∧
    archive.loadState .mgpPriv 5 = false ∧
    (let s := loading 3 60 0xFFFF00FF (zs 60); s.keys.busy = false ∧ s.loadState .debug 5 = true ∧ typeFits 1 s.keys.hdrType = false ∧
      s.loadState .debug 1 = true) ∧
    (let s := loading 1 32 0 (zs 31); s.loadState .debug 1 = true ∧ typeFits 1 s.keys.hdrType = true ∧ s.keys.loadData.length < s.keys.hdrLen.toNat) ∧
    (let s := loading 3 60 0xFFFF00FF (zs 60); s.loadState .debug 5 = true ∧ typeFits 5 s.keys.hdrType = true ∧ lenFits s.keys.hdrType s.keys.hdrLen.toNat = true ∧
      s.keys.hdrLen.toNat ≤ s.keys.loadData.length ∧ policyFits 5 s.keys.hdrType s.keys.loadPolicy = false) ∧
    (let s := loading 1 32 0 (zs 32); s.loadState .debug 1 = true ∧ typeFits 1 s.keys.hdrType = true ∧ lenFits s.keys.hdrType s.keys.hdrLen.toNat = true ∧
      s.keys.hdrLen.toNat ≤ s.keys.loadData.length ∧ policyFits 1 s.keys.hdrType s.keys.loadPolicy = true) := by
  unfold State.reaches
  and_intros <;> decide
/-- The generator answers in `gen`, and no entropy is to be had in `dry`. -/
def gen : State := making { ready with keys := State.reset.keys }
def dry : State := rg (fun r => { r with pool := [], src := .failed }) gen
theorem witness_KeyGenerate :
    gen.reaches .debug 0x40060010 ∧ dry.reaches .debug 0x40060010 ∧ gen.dbg.prov = true ∧ gen.lcc.state = .maker ∧ (gen.slot 0).state = 0 ∧ gen.keys.busy = false ∧
    gen.keys.generating = none ∧ (∃ b s1, gen.draw 48 true conKeygen = (some b, s1)) ∧ (∃ s1, dry.draw 48 true conKeygen = (none, s1)) ∧
    ({ gen with keys := { gen.keys with generating := some (zs 32, zs 16) } } : State).keys.generating = some (zs 32, zs 16) := by
  unfold State.reaches
  refine ⟨by decide, by decide, rfl, rfl, by decide, rfl, rfl, ?_, ⟨_, rfl⟩, rfl⟩
  have h : (gen.draw 48 true conKeygen).1.isSome = true := rfl
  obtain ⟨b, hb⟩ := Option.isSome_iff_exists.mp h
  exact ⟨b, _, Prod.ext hb rfl⟩

/-- The first POOL_ID is drawn where a reseed finds entropy. -/
theorem witness_Admission_draw : ∃ b s1, gen.draw 8 true conPool = (some b, s1) := by
  have h : (gen.draw 8 true conPool).1.isSome = true := rfl
  obtain ⟨b, hb⟩ := Option.isSome_iff_exists.mp h
  exact ⟨b, _, Prod.ext hb rfl⟩
/-- Slot 9 holds a key in Immediate mode. -/
def imm (s : State) (k : Fin 64) : State := { s with keys := { s.keys with slots := s.keys.slots.set k { typ := 3, policy := 0xFFFF00FF, key := zs 60, immediate := true } } }
def withKeys : State := imm (inLc .integrator (inSess 1)) 9
def revoked : State := after (exec (.keyCmdRevoke .mgpPriv 9 0x4B59) withKeys)
def signedHost (st : HostState) : State := (imm (inLc .integrator (netUp (hostAs (imgAs st (envOf 1))))) 62).setSession 2 (some (sessT 1 true))
theorem witness_Revocation :
    withKeys.reachesRevoke .mgpPriv ∧ withKeys.keys.busy = false ∧ (withKeys.slot 9).revWord = 0 ∧ withKeys.revokeRefused 9 = false ∧ withKeys.revokeRefused 8 = true ∧
    (revoked.slot 9).revWord ≠ 0 ∧ revoked.reachesRevoke .mgpPriv ∧ revoked.keys.busy = false ∧ (inLc .scrapped withKeys).reachesRevoke .mgpPriv ∧
    (withKeys.allowed w1 0x2701 1 [64] ∧ withKeys.allowed w1 0x2701 1 [9] ∧ revoked.allowed w1 0x2701 1 [9] ∧ withKeys.allowed w1 0x2701 1 [8]) ∧
    ((withKeys.slot 9).immediate = true ∧ withKeys.selectedKey 0 ≠ some 9) ∧
    (let s := signedHost .running
     (s.slot 62).immediate = true ∧ (s.slot 62).revWord = 0 ∧ s.revokeRefused 62 = false ∧ s.selectedKey 0 = some 62 ∧ s.reachesRevoke .mgpPriv ∧ s.keys.busy = false ∧ s.allowed w1 0x2701 1 [62] ∧ (s.imgOf 0).state = .running) ∧
    ((withKeys.slot 2).revWord = 0 ∧ withKeys.revokeRefused 2 = false ∧ (inSess 2).session 2 = some (sessT 2 true) ∧ (sessT 2 true).open_ = true ∧ (sessT 2 true).role = 2) := by
  unfold State.allowed State.reachesRevoke
  and_intros <;> decide
/-! ## Witnesses: life cycle, debug and JTAG -/

/-- The hold-up capacitors are charged. -/
def charged (s : State) : State := { s with lcc := { s.lcc with hue := 5000 } }
def lrq (t : Nat) : Bytes := p32 0x544C524B ++ p16 1 ++ p8 t ++ p8 0 ++ unitIdBytes
/-- A transition from Maker to Integrator has begun on the JTAG path, with dividers and a capacity as a board has them. -/
def sampling : State :=
  let s := making archive
  after (exec (.lccCmd .debug 0x4C430002) { s with lcc := { s.lcc with hue := 5000, div := 3, vmin := 30, capUf := 100 } })
def burning : State := { sampling with lcc := { sampling.lcc with phase := .writing } }
theorem request_ok (t : Nat) : lcRequestOk (lrq t) = true := by
  have hl : unitIdBytes.length = 16 := by simp [unitIdBytes]
  have e : lrq t = (p32 0x544C524B ++ p16 1 ++ p8 t ++ p8 0) ++ unitIdBytes ++ [] := by simp [lrq]
  have h : (p32 0x544C524B ++ p16 1 ++ p8 t ++ p8 0).length = 8 := by simp [p32, p16, p8]
  have f : field (lrq t) 8 16 = unitIdBytes := by
    have := field_mid (b := p32 0x544C524B ++ p16 1 ++ p8 t ++ p8 0) (c := unitIdBytes) (d := [])
    rw [h, hl] at this; rw [e, this]
  simp only [lcRequestOk, f]
  rw [e, List.append_nil, List.length_append, h, hl, u32_head (by rw [h] <;> decide), u16_head (by rw [h] <;> decide), u8_head (by rw [h] <;> decide)]
  have h2 : u8 (p32 0x544C524B ++ p16 1 ++ p8 t ++ p8 0) 7 = 0 := rfl
  have h3 : u16 (p32 0x544C524B ++ p16 1 ++ p8 t ++ p8 0) 4 = 1 := rfl
  have h4 : u32 (p32 0x544C524B ++ p16 1 ++ p8 t ++ p8 0) 0 = 0x544C524B := by rw [List.append_assoc, List.append_assoc, u32_head (by decide)]; decide
  rw [h2, h3, h4]; decide
theorem target_of (t : Nat) (h : t < 256) : u8 (lrq t) 6 = t := by
  show (BitVec.ofNat 8 t).toNat + 256 * 0 = t
  simp; omega
theorem witness_LcTransitionRequest :
    (let s := inLc .fielded (charged (inSess 1)); s.allowed w1 0x2001 0 (lrq 4) ∧ s.lcFailed (lcRequestOk (lrq 4)) (u8 (lrq 4) 6) (.role (s.roleOf w1)) = 0) ∧
    (let s := inLc .fielded (inSess 1); s.allowed w1 0x2001 0 (lrq 4) ∧ s.lcFailed (lcRequestOk (lrq 4)) (u8 (lrq 4) 6) (.role (s.roleOf w1)) = 4) := by
  simp only [request_ok, target_of 4 (by decide)]
  unfold State.allowed
  and_intros <;> decide
theorem witness_LccCmd :
    (let s := charged (making archive); s.reaches .debug 0x40030004 ∧ s.lcFailed true 2 .jtag = 0) ∧
    (archive.reaches .mgpPriv 0x40030004 ∧ archive.lcFailed true 2 .other = 2) ∧ (5 : Word).toNat / 65536 ≠ 0x4C43 ∧ (0x4C430002 : Word).toNat / 65536 = 0x4C43 := by
  unfold State.reaches
  and_intros <;> decide
theorem witness_HoldupAndFuses :
    (ps .p3 archive).power = .p3 ∧ archive.lcc.phase ≠ .sample ∧ sampling.lcc.phase = .sample ∧
    (let l := sampling.lcc
     2400 ≤ (BitVec.ofNat 32 (l.capUf.toNat * ((1800 * 2 ^ l.div.toNat) ^ 2 - (l.vmin.toNat * 100) ^ 2) / 2000000)).toNat ∧
     (400 * 2 ^ l.div.toNat) ^ 2 < 100000000) ∧
    (burning.clk.heldReset = none ∧ burning.lcc.phase = .writing ∧ archive.lcc.phase ≠ .writing) := by
  and_intros <;> decide

/-- A response of 60 s to the challenge of zeros, with a MAC of 32 bytes. -/
def resp (mac : Bytes) : Bytes := [1, 0, 0, 0, 60, 0, 0, 0] ++ mac
def goodMac : Bytes := Hash.hmac 1 (zs 32) (ascii "KRDU" ++ zs 32 ++ unitIdBytes ++ [1] ++ [60, 0, 0, 0])
theorem other_mac : ∃ m : Bytes, m.length = 32 ∧ goodMac ≠ m := by
  by_cases h : goodMac = zs 32
  · exact ⟨List.replicate 32 1, rfl, by rw [h] <;> decide⟩
  · exact ⟨zs 32, rfl, h⟩
def ownerHere : State := inLc .fielded (inSess 1)
def challenged (n : Nat) : State := ownerHere.setSession 2 (some { sessT 1 true with chal2003 := some (zs 32, n) })
theorem response_ok {mac : Bytes} (h : mac.length = 32) : (challenged 0).responseOk 0 (resp mac) := by
  refine ⟨by decide, by simp [resp, h], ?_, ?_, ?_, ?_, .inl rfl⟩
  · rw [resp, u8_head (by decide)]; rfl
  · rw [resp, field_head (by decide)]; rfl
  · rw [resp, u32_head (by decide)]; decide
  · rw [resp, u32_head (by decide)]; decide
theorem response_mac {mac : Bytes} (h : mac.length = 32) : (challenged 0).responseMacOk (zs 32) (resp mac) ↔ goodMac = mac := by
  have f : field (resp mac) 8 32 = mac := by
    have := field_mid (b := [1, 0, 0, 0, 60, 0, 0, 0]) (c := mac) (d := [])
    rw [h, List.append_nil] at this; exact this
  have g : ((challenged 0).slot 1).state = 1 := by decide
  have k : ((challenged 0).slot 1).key = zs 32 := rfl
  rw [State.responseMacOk, f, resp, field_head (by decide), field_head (by decide), k, goodMac]
  exact ⟨fun x => x.2, fun x => ⟨g, x⟩⟩
theorem goodMac_length : goodMac.length = 32 := by simp [goodMac]
/-- Bytes by fours are words. -/
theorem words_of : ∀ (k : Nat) (m : Bytes), m.length = 4 * k → ∃ ws : List Word, ws.length = k ∧ (ws.flatMap fun w => p32 w.toNat) = m
  | 0, m, h => ⟨[], rfl, by cases m with | nil => rfl | cons => simp at h⟩
  | k + 1, a :: b :: c :: d :: r, h => by
    obtain ⟨ws, hl, hw⟩ := words_of k r (by simp at h; omega)
    refine ⟨BitVec.ofNat 32 (a.toNat + 256 * (b.toNat + 256 * (c.toNat + 256 * d.toNat))) :: ws, by simp [hl], ?_⟩
    have ha := a.isLt; have hb := b.isLt; have hc := c.isLt; have hd := d.isLt
    have e : p32 (BitVec.ofNat 32 (a.toNat + 256 * (b.toNat + 256 * (c.toNat + 256 * d.toNat)))).toNat = [a, b, c, d] := by
      rw [BitVec.toNat_ofNat, Nat.mod_eq_of_lt (by omega)]
      simp only [p32, leBytes, List.cons.injEq]
      refine ⟨?_, ?_, ?_, ?_, trivial⟩ <;> (apply BitVec.eq_of_toNat_eq; simp; omega)
    rw [List.flatMap_cons, e, hw]; rfl
  | k + 1, [], h => by simp at h
  | k + 1, [_], h => by simp at h; omega
  | k + 1, [_, _], h => by simp at h; omega
  | k + 1, [_, _, _], h => by simp at h; omega
theorem resp_words {mac : Bytes} (h : mac.length = 32) : ∃ (w : Vector Word 10) (v : Word), resp mac = (w.set 9 v).toList.flatMap fun w => p32 w.toNat := by
  obtain ⟨ws, hl, hw⟩ := words_of 10 (resp mac) (by simp [resp, h])
  refine ⟨⟨ws.toArray, by simp [hl]⟩, ws[9], ?_⟩
  rw [← hw]
  simp
theorem witness_DebugChallenge :
    ownerHere.dictServed = true ∧ ownerHere.readRefused w1 0x2003 0 = 0 ∧ ownerHere.session 2 = some (sessT 1 true) ∧ ownerHere.dbg.suspended = none ∧
    (∃ s1, ownerHere.draw 32 true conChallenge = (none, s1)) ∧ (∃ b s1, ({ ownerHere with rng := ready.rng } : State).draw 32 true conChallenge = (some b, s1)) := by
  refine ⟨by decide, by decide, rfl, rfl, ⟨_, rfl⟩, ?_⟩
  have h : (({ ownerHere with rng := ready.rng } : State).draw 32 true conChallenge).1.isSome = true := rfl
  obtain ⟨b, hb⟩ := Option.isSome_iff_exists.mp h
  exact ⟨b, _, Prod.ext hb rfl⟩
theorem length_ok {mac : Bytes} (h : mac.length = 32) {s : State} (hs : s.writeRefused w1 0x2004 0 (zs 40) = 0) : s.writeRefused w1 0x2004 0 (resp mac) = 0 := by
  have e : s.writeRefused w1 0x2004 0 (resp mac) = s.writeRefused w1 0x2004 0 (zs 40) := by
    have : (resp mac).length = (zs 40).length := by simp [resp, h, zs]
    simp only [State.writeRefused, this]
    rfl
  rw [e]; exact hs
theorem witness_DebugResponse :
    (∀ mac : Bytes, mac.length = 32 → (challenged 0).allowed w1 0x2004 0 (resp mac) ∧ (challenged 0).responseOk 0 (resp mac)) ∧
    (challenged 0).responseMacOk (zs 32) (resp goodMac) ∧ (∃ mac : Bytes, mac.length = 32 ∧ ¬ (challenged 0).responseMacOk (zs 32) (resp mac)) ∧
    ownerHere.allowed w1 0x2004 0 (zs 40) ∧ (challenged 0).dbg.suspended = none ∧ (sessT 1 true).chal2003 = none ∧ ¬ (challenged 0).responseOk 0 (zs 40) ∧
    (challenged 0).allowed w1 0x2004 0 (zs 40) := by
  refine ⟨fun mac h => ⟨⟨by decide, length_ok h (by decide)⟩, response_ok h⟩, (response_mac goodMac_length).2 rfl, ?_, by constructor <;> decide, rfl, rfl, ?_,
    by constructor <;> decide⟩
  · obtain ⟨m, hm, hn⟩ := other_mac
    exact ⟨m, hm, fun x => hn ((response_mac hm).1 x)⟩
  · rintro ⟨-, -, h, -⟩; exact absurd h (by decide)
def db (f : Dbg → Dbg) (s : State) : State := { s with dbg := f s.dbg }
def jtagged (c : Option Challenge) (b : Vector Word 10) : State := db (fun d => { d with chal := c, resp := b }) ownerHere
theorem witness_DbgPort :
    (inLc .scrapped archive).keysOpen = false ∧ ownerHere.keysOpen = true ∧ ownerHere.dbg.open_ = false ∧ (prov ownerHere).dbg.open_ = true ∧
    (∃ b s1, ({ ownerHere with rng := ready.rng } : State).draw 32 false conChallenge = (some b, s1)) ∧
    (let s := db (fun d => { d with open_ := true }) (inLc .maker archive); s.keysOpen = true ∧ s.dbg.open_ = true ∧ s.dbg.prov = false ∧ s.lcc.state = .maker) ∧
    (prov ownerHere).dbg.prov = true ∧ (prov ownerHere).keysOpen = true := by
  refine ⟨by decide, by decide, by decide, by decide, ?_, by decide, by decide, by decide⟩
  have h : (({ ownerHere with rng := ready.rng } : State).draw 32 false conChallenge).1.isSome = true := rfl
  obtain ⟨b, hb⟩ := Option.isSome_iff_exists.mp h
  exact ⟨b, _, Prod.ext hb rfl⟩
theorem witness_DbgResponseSubmit :
    (∀ mac : Bytes, mac.length = 32 → ∃ w v, resp mac = ((jtagged (some { bytes := zs 32, issued := 0 }) w).dbg.resp.set 9 v).toList.flatMap (fun w => p32 w.toNat) ∧
      (jtagged (some { bytes := zs 32, issued := 0 }) w).responseOk 0 (resp mac) ∧
      ((jtagged (some { bytes := zs 32, issued := 0 }) w).responseMacOk (zs 32) (resp mac) ↔ goodMac = mac)) ∧
    (∀ c w, (jtagged c w).keysOpen = true ∧ (jtagged c w).dbg.suspended = none ∧ (jtagged c w).dbg.chal = c) ∧
    ¬ (jtagged (some { bytes := zs 32, issued := 0 }) (Vector.replicate 10 0)).responseOk 0 (((Vector.replicate 10 (0 : Word)).set 9 4).toList.flatMap fun w => p32 w.toNat) := by
  refine ⟨fun mac h => ?_, fun c w => ⟨rfl, rfl, rfl⟩, ?_⟩
  · obtain ⟨w, v, e⟩ := resp_words h
    exact ⟨w, v, e, response_ok h, response_mac h⟩
  · rintro ⟨-, -, h, -⟩; exact absurd h (by decide)
theorem witness_DebugTimes :
    (let s := db (fun d => { d with open_ := true, until_ := some 3, suspended := some 3, chal := some { bytes := zs 32, issued := 3 } }) { challenged 3 with timeBase := 600000003 }
     (3 : Nat) ≤ s.timeBase.toNat ∧ 3 + 300000000 ≤ s.timeBase.toNat ∧ 3 + 600000000 ≤ s.timeBase.toNat ∧ s.dbg.open_ = true ∧ s.dbg.until_ = some 3 ∧
       s.dbg.chal = some { bytes := zs 32, issued := 3 } ∧ s.dbg.suspended = some 3 ∧ s.session 2 = some { sessT 1 true with chal2003 := some (zs 32, 3) }) ∧
    (archive.dbg.until_ = none ∧ archive.dbg.chal = none ∧ archive.dbg.suspended = none) := by
  and_intros <;> decide

theorem witness_JtagPort :
    (inLc .maker archive).lcc.state = .maker ∧ archive.lcc.state ≠ .maker ∧ archive.dbg.prov = false ∧ (prov archive).dbg.prov = true ∧
    (inLc .indeterminate archive).keysOpen = false ∧ archive.keysOpen = true ∧ (0x20 : Byte).toNat < 0x40 ∧ (0x68 : Byte) ≠ 4 ∧ (0x44 : Byte).toNat = 0x40 + 4 * (1 : Fin 9).val ∧
    archive.dbg.open_ = false ∧
    (let s := making archive
     s.keysOpen = true ∧ s.dbg.open_ = true ∧ s.dbg.sticky = false ∧ (0x10000100 : Word).toNat < 0x40000000 ∧ s.refusedPiece .debug 0x10000100 4 true = none) := by
  and_intros <;> decide
theorem witness_JtagPort_read : ∃ b, (making archive).memRead .debug 0x10000100 4 = (some b, making archive) := ⟨_, rfl⟩
/-! ## Witnesses: resets, restarts and recovery -/

def cl (f : Clk → Clk) (s : State) : State := { s with clk := f s.clk }
def sy (f : Sys → Sys) (s : State) : State := { s with sys := f s.sys }
def allKat : ColdStart := { kat := (List.range 16).map fun k => (k, 1) }
theorem witness_ResetsAndRom :
    archive.lcc.phase ≠ .writing ∧ burning.lcc.phase = .writing ∧ (cl (fun c => { c with heldReset := some 3 }) burning).clk.heldReset = some 3 ∧
    archive.sys.inRom = false ∧ State.reset.sys.inRom = true ∧ State.reset.sys.listen = 0 ∧ State.reset.sys.kind = 0 ∧
    (∀ k, k < 16 → State.reset.dgc.excluded.getLsbD k = true ∨ (k ∈ allKat.kat.map Prod.fst ∧ State.reset.dgc.ok.getLsbD k = false)) ∧
    ¬ (∀ k, k < 16 → State.reset.dgc.excluded.getLsbD k = true ∨ (k ∈ ({} : ColdStart).kat.map Prod.fst ∧ State.reset.dgc.ok.getLsbD k = false)) := by
  and_intros <;> decide
def dogs : State := sy (fun y => { y with wdtEn := true, wdtMs := 5, cwdt := some 7 }) archive
theorem witness_Restarts :
    archive.upd.inTrial = false ∧ archive.restarting = false ∧ ({ archive with restarting := true } : State).restarting = true ∧ archive.sys.wdtEn = false ∧
    archive.sys.cwdt = none ∧ (dogs.sys.wdtEn = true ∧ dogs.sys.inRom = false ∧ dogs.sys.wdtKicked + dogs.sys.wdtMs.toNat * 1000 ≤ dogs.timeBase.toNat ∧
      dogs.sys.cwdt = some 7 ∧ 7 ≤ dogs.timeBase.toNat ∧ dogs.upd.inTrial = false) ∧ ({ dogs with timeBase := 6 } : State).timeBase.toNat < 7 ∧
    (5 : Word) ≠ 0x434F4E46 := by
  and_intros <;> decide

/-- The ROM listens, with a supply for the tamper inputs. -/
def listening : State :=
  let s : State := { State.reset with pwr := { State.reset.pwr with vbakMv := 3000 } }
  sy (fun y => { y with listen := 1 }) { s with lcc := { s.lcc with state := .integrator } }
def rcv : State := sy (fun y => { y with rState := .receiving, rLen := 20, rResume := 12 }) listening
/-- A bundle with one firmware item, as the ROM takes it. -/
def fwBundle : Bytes := bundleOf 1 0 (zs 4) (zs 32)
def listenKeyed : State := keyed listening 40 (testKey (sylSigned fwBundle))
theorem witness_Recovery_first : listenKeyed.firstPieceFailed fwBundle 8388608 true = 0 := by
  have h1 : bundleHeaderOk fwBundle = true := by decide +kernel
  have h2 : bundleLenOf fwBundle = 1044 := by decide +kernel
  have h3 : listenKeyed.sylSound fwBundle true = true := by decide +kernel
  have h4 : sylSig fwBundle = testSig := by decide +kernel
  have h5 : sylKey fwBundle = 40 := by decide +kernel
  have h6 : listenKeyed.sylVerify fwBundle = (0, 0) := by
    unfold State.sylVerify State.verifySig
    rw [h4, h5, if_neg (by decide), show (listenKeyed.slot 40).key = _ from keyed_key (s := listening)]
    exact verify_test _
  simp [State.firstPieceFailed, h1, h2, h3, h6, Lms.rPass]
theorem witness_RecoveryListen_pieces :
    (listenKeyed.allowed engineer 0x2801 0 (piece 0 fwBundle) ∧ listenKeyed.sys.listen ≠ 0 ∧ u32 (piece 0 fwBundle) 0 = 0 ∧ listenKeyed.refusals = 0 ∧
      pieceFit fwBundle.length fwBundle.length (bundleLenOf fwBundle) = 0) ∧
    (listening.allowed engineer 0x2801 0 [1, 2] ∧ listening.sys.rState ≠ .receiving) ∧ ({ listening with pwr := State.reset.pwr } : State).refusals ≠ 0 ∧
    (rcv.allowed engineer 0x2801 0 (piece 12 (zs 8)) ∧ rcv.sys.rState = .receiving ∧ u32 (piece 12 (zs 8)) 0 = rcv.sys.rResume ∧
      pieceFit 8 (u32 (piece 12 (zs 8)) 0 + 8) rcv.sys.rLen = 0 ∧ pieceFit 9 (u32 (piece 12 (zs 9)) 0 + 9) rcv.sys.rLen ≠ 0) := by
  unfold State.allowed
  and_intros <;> decide +kernel
theorem witness_RecoveryListen_commands :
    (∀ k ∈ [1, 2, 3], listening.writeRefused engineer 0x2802 1 [BitVec.ofNat 8 k] = 0) ∧ listening.dictServed = true ∧ listening.sys.rState = .idle ∧ archive.sys.listen = 0 ∧
    (let s := sy (fun y => { y with rState := .staged }) listening; s.sys.rState = .staged ∧ s.refusals = 0 ∧ s.recoveryWhole) ∧
    (sy (fun y => { y with rState := .checking }) listening).sys.rState = .checking ∧
    (let s := prov listening; s.reaches .debug 0x40000018 ∧ s.dbg.prov = true ∧ s.lcc.state = .integrator ∧ s.sys.listen ≠ 0 ∧
      bundleLenOf ({ s with sys := { s.sys with rLen := 5, rResume := 5 } } : State).rBundle ≠ 5) := by
  unfold State.recoveryWhole State.reaches
  and_intros <;> decide

/-! ## Witnesses: clocks, the NV store, gates and registers -/

def writingNv (s : State) : State := after (exec .nvcWrite { s with nvc := { s.nvc with addr := 0x100, wdata := 5 } })
theorem witness_ClocksAndNvWords :
    (cl (fun c => { c with netLock := false }) archive).clk.netLock = false ∧ (cl (fun c => { c with netLock := true }) archive).clk.netLock = true ∧
    (ps .p4 archive).power = .p4 ∧ archive.power ≠ .p4 ∧ (cl (fun c => { c with x32Fail := true }) archive).clk.x32Fail = true ∧
    (let s := cl (fun c => { c with x32Ok := true }) archive; s.clk.x32Ok = true ∧ s.clk.x32Fail = false) ∧ archive.clk.x32Ok = false ∧
    State.reset.fwRuns = false ∧ archive.fwRuns = true ∧ archive.vddWarn = false ∧ ({ archive with vddWarn := true } : State).vddWarn = true ∧
    archive.nvc.write = none ∧ (writingNv archive).nvc.write = some { offset := 0x100, value := 5, held := false } ∧
    (writingNv { archive with vddWarn := true }).nvc.write = some { offset := 0x100, value := 5, held := true } := by
  and_intros <;> decide
theorem witness_Gates :
    gatedWrite (.gateClr .mgpPriv 3) = some (.mgpPriv, 0x40040C18, false) ∧ gatedWrite (.keyCmdRevoke .debug 9 5) = some (.debug, 0x40060010, true) ∧
    archive.dbg.open_ = false ∧ archive.debugStopped .mgpPriv = false ∧ (archive.judge .mgpUser 0x40060010 true archive.lists false).isSome = true ∧
    archive.reaches .mgpPriv 0x40040C18 ∧ archive.reaches .mgpPriv 0x40041100 ∧ ((archive.gates.get 4).regions.get 0).lock = false ∧
    (let s : State := { archive with gates := archive.gates.set 4 { archive.gates.get 4 with regions := (archive.gates.get 4).regions.set 0 { lock := true } } }
     ((s.gates.get 4).regions.get 0).lock = true ∧ s.debugStopped .mgpPriv = false) ∧
    gateOf 0 = some 0 ∧ gateOf 0x20000000 = some 5 ∧ gateOf 0x40060000 = some 10 ∧ gateOf 0x80000000 = none ∧ archive.dbg.prov = false := by
  unfold State.reaches
  and_intros <;> decide
def regAddrs : List Nat :=
  [0x40500000, 0x40500004, 0x40500008, 0x40300004, 0x40300008, 0x40050030, 0x4001001C, 0x400D0018, 0x40000014, 0x400E000C, 0x40010004, 0x40010018, 0x40070004,
   0x400E0008, 0x4050000C, 0x40500014, 0x4060000C, 0x40000000, 0x40010000, 0x40020000, 0x40030000, 0x40050000]
theorem witness_RegisterWrites :
    (∀ a ∈ regAddrs, archive.reaches .mgpPriv a) ∧ archive.debugStopped .mgpUser = false ∧ (archive.judge .mgpUser 0x40500000 true archive.lists false).isSome = true ∧
    archive.refusedPiece .mgpPriv 0x10000100 4 true = none ∧
    (b1.decodes 0 = true ∧ ∀ a ∈ [0x08, 0x0C, 0x10, 0x28, 0x44, 0x40, 0x100, 0x4FC], b1.hpwAllowed 0 a = true) ∧
    (b1.hpwAllowed 0 0x500 = false ∧ (b1.gates.get 21).valid = false) := by
  unfold State.reaches
  and_intros <;> decide

/-! ## Witnesses: events, sidebands and the step -/

def ev (f : Evl → Evl) (s : State) : State := { s with evl := f s.evl }
def event (code : Nat) : Event := { code := code, source := 5, params := [1, 2], tb := 7, boot := 1 }
def inQueue (es : List Event) (s : State) : State := ev (fun e => { e with scanning := false, queue := es }) s
theorem witness_Events :
    (0x00110001 : Word).toNat / 65536 % 32 = 17 ∧ (0x00040001 : Word).toNat / 65536 % 32 = 4 ∧
    (State.reset.evl.queue.length < 256 ∧ State.reset.evl.dropped = 0 ∧ countOf (State.reset.evl.atSecond 60).counts 1 < 64) ∧
    256 ≤ (inQueue (List.replicate 256 (event 3)) archive).evl.queue.length ∧
    (State.reset.evl.queue = [] ∧ (inQueue [event 0x0701, event 3] archive).evl.scanning = false ∧ archive.vddWarn = false) ∧
    (isSecurity 3 = false ∧ isSecurity 0x0701 = true ∧ archive.arc.created = true ∧ archive.lcSeals = true) ∧
    (let a : Arc := { archive.arc with pages := [{ page 1 none with records := List.replicate 64 (zs 13 ++ [0xF4]) }] }; 64 ≤ a.eventCount) := by
  and_intros <;> decide
theorem witness_Patrol :
    (ps .p3 archive).power = .p3 ∧ archive.power ≠ .p3 ∧ archive.power ≠ .p4 ∧ archive.net.transfers = [] ∧ archive.fwRuns = true ∧ archive.upd.inTrial = false ∧
    (2 : Host24).val = (0x440000 - 0x400000) / 0x20000 := by
  and_intros <;> decide
def tm (f : Tmp → Tmp) (s : State) : State := { s with tmp := f s.tmp }
theorem witness_Sidebands :
    (let x : Tmp := { archive.tmp with level := archive.tmp.level ||| BitVec.ofNat 8 (2 ^ 3) }; x.active 3 ≠ archive.tmp.active 3) ∧
    (let s := tm (fun t => { t with cfg := 0x11111111 }) archive
     let x : Tmp := { s.tmp with level := s.tmp.level ||| BitVec.ofNat 8 (2 ^ 3) }; x.active 3 = s.tmp.active 3) ∧
    archive.reaches .mgpPriv 0x40600000 ∧ archive.dbg.prov = false ∧ (prov archive).reaches .debug 0x40600000 ∧ (prov archive).dbg.prov = true ∧
    (∀ k : Fin 8, ({ archive.tmp with cfg := archive.tmp.cfg } : Tmp).active k.val = archive.tmp.active k.val) := by
  unfold State.reaches
  and_intros <;> decide
theorem witness_StepKeepsInv : b1.Inv ∧ ∃ t, step b1 = .next t := by
  refine ⟨?_, _, rfl⟩
  unfold State.Inv State.memOk Hcs.ok
  and_intros <;> decide
/-! ## Witness: a slot that a host selects -/

theorem plain_image : plainTt.image = imgLit := by decide +kernel
/-- An envelope of one block for class 7, signed under slot 40. -/
def goodHead : Bytes :=
  p32 0x4549524B ++ p16 1 ++ p16 0x80 ++ p16 7 ++ [0, 1] ++ p32 1 ++ p32 0 ++ p32 65536 ++ p32 1 ++ [16, 40, 0, 0] ++ zs 16 ++ p32 0x80 ++ p32 32 ++ p32 0xA0 ++ p32 784 ++ zs 60
def goodEnv : Bytes := goodHead ++ p32 (crc32c goodHead) ++ zs 32 ++ testSig
theorem reaches_plain : plainTt.reaches = [] := by simp [Timetable.reaches, uses_plain]
def choosing : State :=
  keyed (hostAs { imgAs .held [] with selected := none, passed := false, slots := (Vector.replicate 3 {}).set 0 { envelope := some goodEnv, timetable := some plainTt } }) 40
    (testKey (envSigned goodEnv))
theorem witness_HostSelection_slot :
    (choosing.imgOf 0).state = .held ∧ (choosing.imgOf 0).selected = none ∧ (choosing.ttOf 0).pend = false ∧ choosing.lcReleases = true ∧ choosing.fwRuns = true ∧
    0 ∉ choosing.lcc.heldHosts ∧ choosing.fused 0 = false ∧ (choosing.candidateSlots 0).find? (fun j => !(choosing.imgOf 0).tried.contains j) = some 0 ∧
    choosing.slotEnv 0 0 = some goodEnv ∧ choosing.envFailed goodEnv 0 0 = 0 ∧ ((choosing.imgOf 0).slots.get 0).timetable = some plainTt ∧
    choosing.slotFits goodEnv plainTt 0 0 = true ∧ (∃ s1, (choosing.tieEvent 0).prepareSlot plainTt 0 = some (true, s1)) ∧ plainTt.detain = false := by
  have k : (choosing.slot 40).key = testKey (envSigned goodEnv) := keyed_key
  have v : choosing.envVerify true goodEnv = true := by
    have h1 : envKey goodEnv = 40 := by decide +kernel
    have h2 : envSig goodEnv = testSig := by decide +kernel
    unfold State.envVerify State.verifySig
    rw [h1, h2, if_neg (by decide), k, verify_test]; rfl
  have e1 : envCheck1 goodEnv = true := by decide +kernel
  have e2 : envCheck2 goodEnv 7 0 = true := by decide +kernel
  have e4 : choosing.slotForImage (envKey goodEnv) 7 = true := by decide +kernel
  have e5 : ¬ envSec goodEnv < choosing.ctrFor 0 0 := by decide +kernel
  have ef : choosing.envFailed goodEnv 0 0 = 0 := by
    simp only [State.envFailed, show (choosing.imgOf 0).hostClass.toNat = 7 from rfl, e1, e2, e4, v]
    rw [if_neg e5]; rfl
  have f1 : choosing.ttStatic plainTt 0 = true := by
    rw [State.ttStatic, plain_image]
    exact decide_eq_true img_good
  have f2 : (choosing.slotExists 0 0 && 16 * envBlocks goodEnv ≤ choosing.slotPages 0 0 && !writesInto plainTt (choosing.slotFirst 0 0) (choosing.slotPages 0 0)) = true := by
    simp only [writesInto, reaches_plain]; decide
  refine ⟨rfl, rfl, rfl, by decide, by decide, by decide, by decide, ?_, rfl, ef, rfl, by rw [State.slotFits, f1, f2]; rfl, ?_, by decide⟩
  · decide
  · have h : ((choosing.tieEvent 0).prepareSlot plainTt 0).map Prod.fst = some true := by decide +kernel
    obtain ⟨⟨b, s1⟩, h1, rfl⟩ := Option.map_eq_some_iff.1 h
    exact ⟨s1, h1⟩
theorem digest_sha256 (b : Bytes) : Hash.digest 1 32 b = Hash.sha256 b :=
  List.take_of_length_le (Nat.le_of_eq (Hash.sha256_length b))
def blk : Bytes := (b1.flashRead 0 false 0 65536).getD []
theorem blk_read : b1.flashRead 0 false 0 65536 = some blk := by
  have h : (b1.flashRead 0 false 0 65536).isSome = true := by decide
  obtain ⟨x, hx⟩ := Option.isSome_iff_exists.1 h
  rw [blk, hx]; rfl
/-- An envelope whose list holds the digest of that block. -/
def listHead : Bytes := (envOf 2).take 0x80
def goodList : Bytes := listHead ++ Hash.sha256 blk ++ zs 33
def measured : State := { hostAs (imgAs .measuring goodList) with plc := b1.plc, chans := b1.chans }
theorem witness_HallPass_good : measured.blockGood 0 goodList 0 true = true ∧ (measured.imgOf 0).state = .measuring ∧ envBlocks goodList = 2 := by
  have ha : envAlg goodList = 1 := by
    show u8 goodList 0xB = 1
    rw [goodList, List.append_assoc, u8_head (by decide)]; decide
  have he : envEntry goodList 0 = Hash.sha256 blk := by
    have := field_mid (b := listHead) (c := Hash.sha256 blk) (d := zs 33)
    rw [Hash.sha256_length, show listHead.length = 0x80 by decide] at this
    rw [envEntry, ha]; exact this
  have hr : measured.flashRead 0 false (measured.slotBase 0 + 0 * blockSize) blockSize = some blk := blk_read
  refine ⟨?_, rfl, ?_⟩
  · have e : measured.blockGood 0 goodList 0 true = decide (Hash.digest (envAlg goodList) (Hash.outSize (envAlg goodList)) blk = envEntry goodList 0) := by
      rw [State.blockGood, hr, Bool.true_and, Option.elim_some]
    rw [e, ha, he]
    rw [decide_eq_true_iff]
    exact digest_sha256 blk
  · show u32 goodList 0x18 = 2
    rw [goodList, List.append_assoc, u32_head (by decide)]; decide

/-! ## Ill-formed commands, one for each check of WellFormed -/

theorem test_illformed_frame : (Instr.wren { fr with keepsSelect := true, ending := .partialUnit }).wellFormed = false := by decide
theorem test_illformed_extent : (Instr.relocationPageCopied 0 4096).wellFormed = false := by decide
theorem test_illformed_raw : (Instr.entropyBlock (List.replicate 127 0)).wellFormed = false := by decide
theorem test_illformed_session : (Instr.halfOpenTimeout 0).wellFormed = false ∧ (Instr.sessionIdleTimeout 17).wellFormed = false := by decide
theorem test_illformed_caller : (Instr.powerOn { session := 1, role := 5 } 0).wellFormed = false := by decide
theorem test_illformed_addr : (Instr.rollcall { port := 0, addr := [1, 2, 3, 4, 5], bytes := [] }).wellFormed = false := by decide
theorem test_illformed_sram_word : (Instr.sramPatrol 0 (some 4)).wellFormed = false ∧ (Instr.sramPatrol 0 (some 0x1000000)).wellFormed = false := by decide
theorem test_illformed_torn : (Instr.registrarPowerUp [{ host := 0, vpage := 2 ^ 20, copy1 := false }]).wellFormed = false := by decide
theorem test_illformed_offer : (Instr.jobAdmission [{ rank := 0, cls := 1, host := none }]).wellFormed = false := by decide
theorem test_illformed_can : (Instr.canFrameReceived 0 { id := 0, fd := false, data := List.replicate 9 0 }).wellFormed = false := by decide
theorem test_illformed_t1s :
    (Instr.t1sFrameReceived 0 { dst := [], src := zs 6, etherType := 0, payload := [], fcsOk := true, foreignBeacon := false }).wellFormed = false := by decide
theorem test_illformed_key : (Instr.gapAckTimer { session := 17, port := 0, addr := zs 6, xid := 1 }).wellFormed = false := by decide
theorem test_illformed_temp : (Instr.sensorSample (some 3001) none none none).wellFormed = false := by decide
theorem test_illformed_answers : (Instr.selectDiscovery 0 0 { idBytes := zs 7 }).wellFormed = false := by decide
theorem test_wellformed : (Instr.wren fr).wellFormed = true ∧ (Instr.sramPatrol 0 (some 8)).wellFormed = true := by decide

/-- No row of the table gives bits, so no word spells a command. -/
theorem test_decode : decodeTableWord 32 0x06 = none := rfl

/-! ## Worked examples of the spec -/

/-- The worked example of host 2's image slots (chapter 3): the fields of clause 0 and of CFG. -/
theorem test_clause_of_host2 :
    let c : Clause := { w0 := 0x0044FFEC, w1 := 0x00704800, w2 := 0, w3 := 0 }
    c.opc = 0xEC ∧ c.mask = 0xFF ∧ c.modes = 4 ∧ c.addrTest = 1 ∧ c.range = 0 ∧ c.dummy = 18 ∧ c.action = 0 ∧
    c.pinned = true ∧ c.hall = true ∧ c.cont = true ∧ c.log = false := by decide
theorem test_cfg_of_host2 :
    cfgEn 0x0088FF51 = true ∧ cfgRdyEn 0x0088FF51 = false ∧ cfgNative 0x0088FF51 = false ∧ cfgContEn 0x0088FF51 = true ∧
    cfgHallOk 0x0088FF51 = true ∧ cfgFill 0x0088FF51 = 0xFF ∧ cfgProgUnit 0x0088FF51 = 256 ∧ cfgMbDummy 0x0088FF51 = 8 := by decide

/-- Table 4.16: FC0 of Tallowmere, with gateways 2, 6, 7 and 8 at ranks 1 to 4. -/
def fc0 : BellSchedule :=
  let d := { defaultDesc with cls := 1, mode := 4, div := 0, dummy := 16, lead := 0, trail := 0, idle := 1 }
  let rank (r h : Nat) : Nat := (32 + h) * 2 ^ (6 * r)
  { factoryBell 0 with headBytes := 64, descs := List.replicate 4 d, slots := List.replicate 64 (rank 0 2 + rank 1 6 + rank 2 7 + rank 3 8, 0) }
theorem test_latencies_of_fc0 :
    latency fc0 2 = some 150 ∧ latency fc0 6 = some 425 ∧ latency fc0 7 = some 700 ∧ latency fc0 8 = some 975 ∧ latency fc0 0 = none := by decide

/-- A 2 Gbit NOR device gives 61,425 data pages (chapter 5's worked example). -/
theorem test_nor_pages : ({ nor with densityMbit := 2048 } : Select).pages = 61425 := by decide

/-- A KR1208-style push (chapter 7's worked example): the one block of "abcdef", whose bit length is 48. -/
theorem test_padding_of_abcdef : Hash.fam256.pad 6 = [0x80] ++ zs 49 ++ zs 7 ++ [0x30] := by decide

/-- T_min of 60 µs permits P2 (chapter 12's worked example). -/
theorem test_tolerance_permits :
    (b0.putHpw 0 { (b0.port 0).hpw with ltv := 60 }).tMin = 60 ∧ (b0.putHpw 0 { (b0.port 0).hpw with ltv := 60 }).permit = .p2 := by decide
/-- At 88.0 °C under a ceiling of 95 °C, 250 mW become 175 mW. -/
theorem test_effective_rate : ({ tmax := 880, ceil := 95, rate := 250 } : Pwr).eff = 175 := by decide

/-- Chapter 13's worked example: from 10,000 in all words, three increments write words 17, 18 and 19; with word 19 lost the counter reads 10,003. -/
theorem test_counter_of_host2 :
    let s := (b0.ctrAdvance 34 10000 0).2
    let t := (((s.ctrInc 34 0).2.ctrInc 34 0).2.ctrInc 34 0).2
    s.counter 34 = 10000 ∧ t.counter 34 = 10003 ∧ (t.ring 34).words.contains (17, 10001) = true ∧ (t.ring 34).words.contains (19, 10003) = true ∧
    ({ t.ring 34 with bad := [19] } : CtrRing).value = 10003 := by decide

/-- Table 14.9: the debug master under the gate set of Tallowmere. -/
def gateSt (lc : LcState) : State :=
  let hole : Region := { base := 0x10B80000, en := true, lock := true, size := 19 }
  let evlR : Region := { base := 0x40050000, en := true, size := 16, perm := 0x10 }
  let hpcR : Region := { base := 0x40100000, en := true, size := 17, srd := 0xC0, perm := 0x10 }
  let put (s : State) (g : Fin 22) (r : Region) : State := { s with gates := s.gates.set g { s.gates.get g with regions := (s.gates.get g).regions.set 0 r } }
  put (put (put { b0 with lcc := { b0.lcc with state := lc }, dbg := { b0.dbg with open_ := true } } 9 evlR) 17 hpcR) 3 hole
theorem test_gates_fielded :
    (gateSt .fielded).judge .debug 0x40050200 false [] false = none ∧ (gateSt .fielded).judge .debug 0x10400000 false [] false = some 8 ∧
    (gateSt .fielded).judge .debug 0x4011A000 false [] false = some 0xB ∧ recordGate 0x4011A000 = 8 := by decide
theorem test_gates_returned :
    (gateSt .returned).judge .debug 0x10800000 false [] false = none ∧ (gateSt .returned).judge .debug 0x10B80000 false [] false = some 0 := by decide

/-- LCC_HUCFG 0x0212_03E8 with 1,250 mV on the ball holds 7,055 µJ (chapter 15's worked example). -/
theorem test_holdup_energy : holdupEnergy 1000 2 33 1250 = 7055 := by decide

/-- JTAG's IDCODE in a KR9624 (Table 15.7). -/
theorem test_idcode : (after (exec .idcode b0)).dbg.data = 0x196249CB := by decide

/-- Table 18.12, but for the CRC, in a ring that begins with it. -/
theorem test_event_record :
    (({ seq := 0x41A2C, ev := { code := 0x080B, source := 0, params := [1], tb := 41456206000, boot := 0x1F5 } } : EventRec).bytes.take 44) =
      [0x2C, 0x1A, 4, 0, 0, 0, 0, 0, 0xB0, 0x80, 0xFB, 0xA6, 9, 0, 0, 0, 0x0B, 8, 1, 1, 0xF5, 1, 0, 0, 1, 0, 0, 0, 1] ++ zs 15 := by decide

/-! ## Single steps -/

theorem test_wren_sets_wel : ((after (exec (.wren fr) b0)).port 0).wel = true ∧ ((after (exec (.wren fr) b0)).port 1).wel = false := by decide
theorem test_wrdi_clears_wel : ((after (exec (.wrdi fr) (bench (benchTt []) { wel := true }))).port 0).wel = false := by decide
theorem test_en4b_switches : (b0.port 0).addr4 = false ∧ ((after (exec (.en4b fr) b0)).port 0).addr4 = true := by decide
/-- R43: WIP at bit 0 and WEL at bit 1, and a fresh sample in each byte. -/
theorem test_rdsr_bytes : ((after (exec (.rdsr { fr with want := 2 }) (bench (benchTt []) { wel := true }))).port 0).out = [2, 2] := by decide
theorem test_unpowered_run : (after (exec (.hcsRunWrite 1) b0)).hcs.run = 0 := by decide
theorem test_step_takes_front : (after (step { b0 with pending := [.wren fr, .wrdi fr] })).pending = [.wrdi fr] := by decide

end Sys2Proof.Tests
end

/-! PROOFS. Frames that a port does not take, cannot decode, or that a clause denies (R28, R29, R32, R33, R39, R57, Table 3.7). -/
namespace Sys2Proof.Machine

/-! ## The command of a frame -/

/-- Every frame command hands its frame to `takeFrame`; the commands differ in the body alone. -/
theorem exec_frameCmd {i : Instr} {f : Frame} {op shape : Nat} (h : frameCmd i = some (f, op, shape)) :
    ∃ body : State → State, ∀ s, exec i s = .next (takeFrame op shape f body s) := by
  unfold frameCmd at h
  split at h <;> cases h <;> exact ⟨_, fun _ => rfl⟩

/-- An opcode to which the Timetable's index gives no shape is taken as a frame of shape 0, with an empty body. -/
theorem exec_unknownOpcode_without_shape {f : Frame} {s : State} (h0 : idxShape ((s.portTt f.port).entry f.lead.toNat) = 0) :
    exec (.unknownOpcode f) s = .next (takeFrame f.lead.toNat 0 f id s) := by
  change Host.Outcome.next (frameOf mailboxFrame f.lead.toNat f s) = _
  simp [frameOf, h0]

/-- The control shapes with a data phase that the port drives (Table 2.2). -/
def drivesData (shape : Nat) : Bool := decide (shape = 0x12 ∨ shape = 0x13 ∨ shape = 0x17 ∨ shape = 0x1A ∨ shape = 0x1B)

/-- With its data byte whole, Write Status Register is a control frame like the others (R43). -/
theorem frameWrsr_whole {f : Frame} (he : f.ending = .whole) (s : State) :
    frameWrsr f s = control 0x01 0x15 f false false (fun s => s.modPort f.port fun p => { p with wel := false }) s := by
  simp [frameWrsr, control, he]

/-- The body of a whole control frame is subject to its clause; Write Mode Register alone has further conditions and sets PROT. -/
theorem exec_controlCmd {i : Instr} {f : Frame} {op shape : Nat} (h : frameCmd i = some (f, op, shape)) (hlo : 0x10 ≤ shape)
    (hhi : shape ≤ 0x1F) (hne : shape ≠ 0x16) (he : f.ending = .whole) :
    ∃ effect : State → State, ∀ s, exec i s = .next (control op shape f (drivesData shape) false effect s) := by
  unfold frameCmd at h
  split at h <;> cases h <;> simp at hlo hhi hne
  case h_21 => -- Write Status Register, the only one with a data byte that may be cut
    exact ⟨_, fun s => congrArg Host.Outcome.next (frameWrsr_whole he s)⟩
  all_goals exact ⟨_, fun _ => rfl⟩

/-! ## Frames that do not reach the port -/

theorem takeFrame_of_not_decodes {s : State} {f : Frame} (op shape : Nat) (body : State → State) (hd : s.decodes f.port = false) :
    takeFrame op shape f body s = s := by
  simp [takeFrame, hd]

theorem frameWake_of_p3 {s : State} (h : Host24) (hp : s.power = .p3) : s.frameWake h = s.wake wkHost h.val := by
  simp [State.frameWake, hp]

theorem takeFrame_lost_in_p3 {s : State} {f : Frame} (op shape : Nat) (body : State → State) (hd : s.decodes f.port = true)
    (hp : s.power = .p3) (hr : f.honoursRdy = false) : takeFrame op shape f body s = s.wake wkHost f.port.val := by
  simp [takeFrame, hd, hp, hr, frameWake_of_p3]

/-- A change of power state touches the power manager, the digest cluster's cores and the entropy source only. -/
theorem setPower_eq (s : State) (p : PowerState) : ∃ w d r, s.setPower p = { s with power := p, pwr := w, dgc := d, rng := r } := by
  unfold State.setPower
  split
  case isTrue h => subst h; exact ⟨s.pwr, s.dgc, s.rng, rfl⟩
  case isFalse => exact ⟨_, _, _, rfl⟩

/-- A wake from P3 leads to P0 and logs nothing; only an exit from P4 does. -/
theorem wake_of_p3 {s : State} (kind port : Nat) (hp : s.power = .p3) :
    ∃ w d r, s.wake kind port = { s with power := .p0, pwr := w, dgc := d, rng := r } := by
  simp only [State.wake, hp, State.raiseIf, reduceCtorEq, decide_false, Bool.false_eq_true, if_false]
  exact setPower_eq _ _

theorem wake_decodes_of_p3 {s : State} {h : Host24} (kind port : Nat) (hp : s.power = .p3) (hd : s.decodes h = true) :
    (s.wake kind port).decodes h = true := by
  obtain ⟨w, d, r, e⟩ := wake_of_p3 kind port hp
  rw [e]
  simp only [State.decodes, Bool.and_eq_true, decide_eq_true_eq] at hd ⊢
  obtain ⟨⟨hen, _⟩, hst⟩ := hd
  exact ⟨⟨hen, nofun⟩, hst⟩

/-- A host that honours HPn_RDY has its frame served as in the woken state (R39). -/
theorem takeFrame_woken_from_p3 {s : State} {f : Frame} (op shape : Nat) (body : State → State) (hd : s.decodes f.port = true)
    (hp : s.power = .p3) (hr : f.honoursRdy = true) :
    takeFrame op shape f body s = takeFrame op shape f body (s.wake wkHost f.port.val) := by
  have hd' := wake_decodes_of_p3 wkHost f.port.val hp hd
  obtain ⟨w, d, r, e⟩ := wake_of_p3 wkHost f.port.val hp
  have hawake : (s.wake wkHost f.port.val).frameWake f.port = s.wake wkHost f.port.val := by simp [State.frameWake, e]
  have hport : (s.wake wkHost f.port.val).port f.port = s.port f.port := by rw [e]; rfl
  unfold takeFrame
  simp [hd, hd', hr, hport, hawake, frameWake_of_p3 f.port hp]

/-! ## Frames that an idle port turns away -/

/-- The flag, the count and the event of a torn frame, on a port with value `p` (R57). -/
theorem tornFrame_modPort (s : State) (h : Host24) (p : Port) (b op : Nat) :
    (s.modPort h fun _ => p).tornFrame h b op =
      State.raise { s with ports := s.ports.set h { p with stat := p.stat ||| BitVec.ofNat 9 (2 ^ b), torn := p.torn.inc } }
        0x0121 srcHPC (p8 h.val ++ p8 b ++ p8 op) := by
  simp only [State.tornFrame, State.modPort_modPort]; rfl

theorem takeFrame_cut_in_command {s : State} {f : Frame} (op shape : Nat) (body : State → State) (hi : s.portIdle f.port)
    (ha : (s.port f.port).armed = none) (he : f.ending = .inCommand) :
    takeFrame op shape f body s =
      (s.modPort f.port fun _ => s.fresh f.port).tornFrame f.port stTorn (Config.eventCode 0x0121 0).toNat := by
  have ⟨hd, hp, _, _⟩ := hi
  have ha' : (s.fresh f.port).armed = none := ha
  simp [takeFrame, idle_prelude s f.port hi, hd, hp, ha', he]

theorem takeFrame_bad_inverse {s : State} {f : Frame} {op : Nat} (shape : Nat) (body : State → State) (hi : s.portIdle f.port)
    (ha : (s.port f.port).armed = none) (he : f.ending ≠ .inCommand) (hv : ¬ s.inverseOk f op) :
    takeFrame op shape f body s =
      ((s.modPort f.port fun _ => s.fresh f.port).tornFrame f.port stCmdBad op).raise 0x0122 srcHPC
        (p8 f.port.val ++ p8 op ++ p8 f.inverse.toNat) := by
  have ⟨hd, hp, _, _⟩ := hi
  have ha' : (s.fresh f.port).armed = none := ha
  have hv' : (s.fresh f.port).cmd = .d8 ∧ f.inverse ≠ ~~~(BitVec.ofNat 8 op) := Classical.not_imp.mp hv
  simp [takeFrame, idle_prelude s f.port hi, hd, hp, ha', he, hv']

theorem takeFrame_without_shape {s : State} {f : Frame} {op shape : Nat} (body : State → State) (hi : s.portIdle f.port)
    (ha : (s.port f.port).armed = none) (he : f.ending ≠ .inCommand) (hv : s.inverseOk f op)
    (hsh : shapeIn (s.portTt f.port) (s.port f.port).cmd op shape = false) :
    takeFrame op shape f body s =
      { s with ports := s.ports.set f.port { s.fresh f.port with stat := (s.port f.port).stat ||| 0x080 } } := by
  have ⟨hd, hp, _, _⟩ := hi
  have ha' : (s.fresh f.port).armed = none := ha
  have hv' : ¬ ((s.fresh f.port).cmd = .d8 ∧ f.inverse ≠ ~~~(BitVec.ofNat 8 op)) := fun x => x.2 (hv x.1)
  have hsh' : shapeIn (s.portTt f.port) (s.fresh f.port).cmd op shape = false := hsh
  have hu : (s.modPort f.port fun _ => s.fresh f.port).unknownFrame f.port =
      { s with ports := s.ports.set f.port { s.fresh f.port with stat := (s.port f.port).stat ||| 0x080 } } := by
    simp only [State.unknownFrame, State.modPort_modPort]; rfl
  simp [takeFrame, idle_prelude s f.port hi, hd, hp, ha', he, hv', hsh', hu]

/-! ## Control frames that a clause denies (Table 3.7) -/

theorem raise_modPort (s : State) (code source : Nat) (bs : Bytes) (h : Host24) (g : Port → Port) :
    (s.raise code source bs).modPort h g = (s.modPort h g).raise code source bs := rfl

theorem logClause_quiet {c : Clause} (hl : c.log = false) (s : State) (h : Host24) (i a : Nat) : s.logClause h i c a = s := by
  simp [State.logClause, hl]

/-- What a denied control frame leaves of `s`: the port at `p` with DENIED set, fill in a data phase, and EV 0x0128. -/
def State.deniedControl (s : State) (f : Frame) (op shape : Nat) (p : Port) : State :=
  (s.modPort f.port fun _ => { p with
      stat := p.stat ||| 0x080
      out := if drivesData shape then p.out ++ List.replicate f.want (cfgFill p.cfg.toNat) else p.out }).raise
    0x0128 srcTTB (p8 f.port.val ++ p8 op ++ p32 0)

/-- A control frame that its clause denies runs nothing of its effect. -/
theorem controlBody_denied {s : State} {f : Frame} {op shape k : Nat} {c : Clause} (effect : State → State) (p : Port)
    (hp : p.cmd = (s.port f.port).cmd) (hc : s.clauseAt f.port op shape 0 = some (k, c)) (ha : effAction (s.hallPass f.port) c = 2)
    (hl : c.log = false) :
    controlBody op shape f (drivesData shape) false effect (s.modPort f.port fun _ => p) = s.deniedControl f op shape p := by
  have hk : (s.portTt f.port).lookup op (ifaceMode p.cmd shape) 0 0 = some (k, c) := by rw [hp]; exact hc
  simp only [controlBody, State.portTt_modPort, State.hallPass_modPort, State.modPort_port, hk, ha, logClause_quiet hl, if_true,
    State.denyFrame, State.modPort_modPort, Bool.or_false, raise_modPort, State.raise_port, State.deniedControl]
  cases drivesData shape <;> rfl

theorem control_denied {s : State} {f : Frame} {op shape k : Nat} {c : Clause} (effect : State → State) (ht : s.takes f op shape)
    (hc : s.clauseAt f.port op shape 0 = some (k, c)) (ha : effAction (s.hallPass f.port) c = 2) (hl : c.log = false) :
    control op shape f (drivesData shape) false effect s = s.deniedControl f op shape (s.fresh f.port) := by
  unfold control
  by_cases hs : shape = 0x1D
  · subst hs
    rw [takeFrame_rst _ ht,
      controlBody_denied effect { s.fresh f.port with rstEn := (s.port f.port).rstEn } rfl hc ha hl]
    simp only [State.deniedControl, raise_modPort, State.modPort_modPort]; rfl
  · rw [takeFrame_takes _ ht hs, controlBody_denied effect (s.fresh f.port) rfl hc ha hl]

end Sys2Proof.Machine

namespace Sys2Proof.Proofs
open Sys2Proof Sys2Proof.Machine

/-- Settles O8: `takeFrame` turns each of these frames away before its body runs, and a deny clause stands in for the body. -/
theorem framesTurnedAway : Obligations.FramesTurnedAway := by
  refine ⟨⟨fun i f op shape s hi => ?_, fun f s hidle ha he hv h0 => ?_⟩, fun i f op shape k c s hi hlo hhi hne ht hc ha hl => ?_⟩
  · obtain ⟨body, hx⟩ := exec_frameCmd hi
    simp only [hx]
    refine ⟨fun hd => ?_, fun hd hp hr => ?_, fun hd hp hr => ?_, fun hidle ha he => ?_, fun hidle ha he hc hv => ?_,
      fun hidle ha he hv hsh => ?_⟩
    · rw [takeFrame_of_not_decodes op shape body hd]
    · rw [takeFrame_lost_in_p3 op shape body hd hp hr]
    · rw [takeFrame_woken_from_p3 op shape body hd hp hr]
    · rw [takeFrame_cut_in_command op shape body hidle ha he, tornFrame_modPort]; rfl
    · rw [takeFrame_bad_inverse shape body hidle ha he fun ok => hv (ok hc), tornFrame_modPort]; rfl
    · rw [takeFrame_without_shape body hidle ha he hv hsh]
  · rw [exec_unknownOpcode_without_shape h0, takeFrame_without_shape id hidle ha he hv (by simp [shapeIn])]
  · have ⟨_, _, hwhole, _⟩ := ht
    obtain ⟨effect, hx⟩ := exec_controlCmd hi hlo hhi hne hwhole
    rw [hx, control_denied effect ht hc ha hl]
    simp only [State.deniedControl, drivesData, decide_eq_true_eq]
    rfl

end Sys2Proof.Proofs

/-! PROOFS. Relocations (R151, R153, Table 5.4): the reading rules of the extent table, what a held write and the rise of Steady mode may
change, and the five commands of a relocation. -/
namespace Sys2Proof.Machine

/-! ## The extent table -/

@[simp] theorem State.extents_modExtent (s : State) (h : Host24) (e : Nat) (f : Extent → Extent) :
    (s.modExtent h e f).extents h = (s.extents h).map fun y => if y.index = e then f y else y := vget_set ..

theorem State.extents_modExtent_ne (s : State) {h k : Host24} (hk : k ≠ h) (e : Nat) (f : Extent → Extent) :
    (s.modExtent h e f).extents k = s.extents k := vget_set_ne _ _ hk

theorem State.extentAt_of_extents {s t : State} (ht : t.plc.extents = s.plc.extents) (h : Host24) (e : Nat) :
    t.extentAt h e = s.extentAt h e := by
  simp only [State.extentAt, State.extents, ht]

theorem State.index_of_extentAt {s : State} {h : Host24} {e : Nat} {x : Extent} (hx : s.extentAt h e = some x) : x.index = e := by
  simpa using List.find?_some hx

/-- The extent that a lookup finds is the one that an update of the same index changes. -/
theorem State.extentAt_modExtent {s : State} {h : Host24} {e : Nat} {x : Extent} {f : Extent → Extent} (hx : s.extentAt h e = some x)
    (hf : (f x).index = e) : (s.modExtent h e f).extentAt h e = some (f x) := by
  have hxe := State.index_of_extentAt hx
  obtain ⟨-, before, after, hsplit, hbefore⟩ := List.find?_eq_some_iff_append.1 hx
  refine List.find?_eq_some_iff_append.2 ⟨by simpa using hf, before, after.map fun y => if y.index = e then f y else y, ?_, hbefore⟩
  have hkeep : before.map (fun y => if y.index = e then f y else y) = before := by
    refine (List.map_congr_left fun y hy => ?_).trans before.map_id
    have : y.index ≠ e := by simpa using hbefore y hy
    simp [this]
  simp [hsplit, hkeep, hxe]

/-- An update of another extent that keeps its index is not seen. -/
theorem State.extentAt_modExtent_ne (s : State) {h k : Host24} {e i : Nat} {f : Extent → Extent} (hf : ∀ y, (f y).index = y.index)
    (hne : ¬(k = h ∧ i = e)) : (s.modExtent k i f).extentAt h e = s.extentAt h e := by
  by_cases hk : k = h
  · subst hk
    have hi : i ≠ e := fun hi => hne ⟨rfl, hi⟩
    have hp : (fun y : Extent => decide (y.index = e)) ∘ (fun y => if y.index = i then f y else y) = fun y => decide (y.index = e) := by
      funext y
      by_cases hy : y.index = i <;> simp [hy, hf]
    rw [State.extentAt, State.extents_modExtent, List.find?_map, hp, ← State.extentAt]
    cases hx : s.extentAt k e with
    | none => rfl
    | some x => simp [State.index_of_extentAt hx, hi.symm]
  · rw [State.extentAt, State.extents_modExtent_ne s (fun q => hk q.symm), State.extentAt]

/-! ## The relocation table -/

theorem State.relocOf_names {s : State} {h : Host24} {e : Nat} {r : Reloc} (hr : s.relocOf h e = some r) :
    r ∈ s.plc.relocs ∧ r.host = h.val ∧ r.extent = e := by
  have := List.find?_some hr
  simp only [Bool.and_eq_true, decide_eq_true_eq] at this
  exact ⟨List.mem_of_find?_eq_some hr, this⟩

/-- Fewer than 256 relocations leave a slot unused. -/
theorem freeSlot_unused {rs : List Reloc} (hn : rs.length < 256) : ∀ q ∈ rs, q.slot ≠ freeSlot rs := by
  unfold freeSlot
  cases hi : (List.range 256).find? fun i => !rs.any fun r => r.slot = i with
  | some i => simpa using List.find?_some hi
  | none =>
    have hsub : List.range 256 ⊆ rs.map Reloc.slot := fun i hi' => by
      simpa using List.find?_eq_none.1 hi i hi'
    have := List.nodup_range.length_le_of_subset hsub
    simp only [List.length_range, List.length_map] at this
    omega

/-! ## A held write goes on -/

theorem State.issueDests_frame (s : State) (h : Host24) : ∃ c, s.issueDests h = { s with chans := c } := by
  unfold State.issueDests
  split
  · exact ⟨s.chans, rfl⟩
  · refine List.foldlRecOn (motive := fun t : State => ∃ c, t = { s with chans := c }) _ _ ⟨s.chans, rfl⟩ ?_
    rintro _ ⟨c, rfl⟩ d -
    split
    · dsimp only
      split
      · exact ⟨c, rfl⟩
      · exact ⟨_, rfl⟩
    · exact ⟨c, rfl⟩

theorem State.issueDests_modPort_frame (s : State) (n : Nat) (h : Host24) (g : Port → Port) :
    ∃ c, ({ s with free := n }.modPort h g).issueDests h = { s with free := n, chans := c }.modPort h g :=
  State.issueDests_frame ({ s with free := n }.modPort h g) h

theorem State.assignDests_frame (s : State) (h : Host24) :
    ∃ g n c, s.assignDests h = { s with free := n, chans := c }.modPort h g := by
  unfold State.assignDests
  split
  · exact ⟨fun p => p, s.free, s.chans, (s.modPort_id h).symm⟩
  · split
    · exact ⟨_, s.free, s.chans, rfl⟩
    · split
      · exact ⟨_, s.free, s.chans, rfl⟩
      · exact ⟨_, _, s.issueDests_modPort_frame _ h _⟩

/-- A write that is judged again changes its own port and the channels' queues. -/
theorem State.resumeWrite_frame (s : State) (h : Host24) :
    ∃ g n c, s.resumeWrite h = { s with free := n, chans := c }.modPort h g := by
  have hid : s = { s with free := s.free, chans := s.chans }.modPort h fun p => p := (s.modPort_id h).symm
  unfold State.resumeWrite
  split
  · split
    · exact s.assignDests_frame h
    · exact ⟨_, _, _, hid⟩
  · exact ⟨_, _, _, hid⟩

theorem State.resumeWrite_of_no_pending {s : State} {h : Host24} (hp : (s.port h).pending = none) : s.resumeWrite h = s := by
  simp [State.resumeWrite, hp]

theorem State.settleTt_of_no_waiting {s : State} {h : Host24} (hw : (s.ttOf h).waiting = none) : s.settleTt h = s := by
  simp [State.settleTt, hw]

/-! ## Steady mode begins (R161, R162) -/

/-- What the judgement of Steady mode may change: relocations that are given up, Timetables that waited for them, what every host is told, and
the conditions themselves. -/
structure State.SteadyChange (s t : State) : Prop where
  frame : t = { s with ports := t.ports, tt := t.tt, plc := t.plc, evl := t.evl }
  plc : t.plc = { s.plc with
    extents := t.plc.extents, relocs := t.plc.relocs, queued := t.plc.queued, mirrorLost := t.plc.mirrorLost
    stagingLow := t.plc.stagingLow, overdue := t.plc.overdue, steady := t.plc.steady, steadySince := t.plc.steadySince }
  port : ∀ k, t.port k = { s.port k with hpw := (t.port k).hpw }

theorem State.SteadyChange.refl (s : State) : s.SteadyChange s := ⟨rfl, rfl, fun _ => rfl⟩

/-- The outer frame goes on from a change of the same parts. -/
theorem State.SteadyChange.frame_of {s t u : State} (hst : t = { s with ports := t.ports, tt := t.tt, plc := t.plc, evl := t.evl })
    (htu : t.SteadyChange u) : u = { s with ports := u.ports, tt := u.tt, plc := u.plc, evl := u.evl } :=
  htu.frame.trans (by rw [hst])

theorem State.SteadyChange.trans {s t u : State} (hst : s.SteadyChange t) (htu : t.SteadyChange u) : s.SteadyChange u where
  frame := htu.frame_of hst.frame
  plc := htu.plc.trans (by rw [hst.plc])
  port k := (htu.port k).trans (by rw [hst.port k])

theorem State.SteadyChange.flash {s t : State} (hst : s.SteadyChange t) : t.plc.flash = s.plc.flash := by rw [hst.plc]

theorem State.SteadyChange.xepoch {s t : State} (hst : s.SteadyChange t) : t.plc.xepoch = s.plc.xepoch := by rw [hst.plc]

theorem State.updReasons_steadyChange (s : State) : s.SteadyChange s.updReasons := ⟨rfl, rfl, fun _ => rfl⟩

theorem State.failWaiting_frame (s : State) (r : Reloc) : ∃ tt evl, s.failWaiting r = { s with tt := tt, evl := evl } := by
  unfold State.failWaiting
  split
  · dsimp only
    split
    · exact ⟨_, _, rfl⟩
    · exact ⟨_, _, rfl⟩
  · exact ⟨_, _, rfl⟩

theorem State.failWaiting_steadyChange (s : State) (r : Reloc) : s.SteadyChange (s.failWaiting r) := by
  obtain ⟨tt, evl, ht⟩ := s.failWaiting_frame r
  rw [ht]
  exact ⟨rfl, rfl, fun _ => rfl⟩

@[simp] theorem State.failWaiting_plc (s : State) (r : Reloc) : (s.failWaiting r).plc = s.plc := by
  obtain ⟨tt, evl, ht⟩ := s.failWaiting_frame r
  rw [ht]

theorem State.abandonReloc_steadyChange (s : State) (r : Reloc) : s.SteadyChange (s.abandonReloc r) := by
  unfold State.abandonReloc
  split
  · next hh =>
    have hfree : s.SteadyChange (s.freeTarget ⟨r.host, hh⟩ r.extent) := ⟨rfl, rfl, fun _ => rfl⟩
    exact hfree.trans (State.failWaiting_steadyChange _ r)
  · exact .refl s

@[simp] theorem State.abandonReloc_relocs (s : State) (r : Reloc) : (s.abandonReloc r).plc.relocs = s.plc.relocs := by
  unfold State.abandonReloc
  split
  · simp [State.freeTarget, State.modExtent, State.setExtents]
  · rfl

/-- A relocation that is abandoned touches the extent it moves and no other. -/
theorem State.abandonReloc_extentAt (s : State) {r : Reloc} {h : Host24} {e : Nat} (hne : ¬(r.host = h.val ∧ r.extent = e)) :
    (s.abandonReloc r).extentAt h e = s.extentAt h e := by
  unfold State.abandonReloc
  split
  · next hh =>
    have hne' : ¬((⟨r.host, hh⟩ : Host24) = h ∧ r.extent = e) := fun ⟨hk, hi⟩ => hne ⟨congrArg Fin.val hk, hi⟩
    calc ((s.freeTarget ⟨r.host, hh⟩ r.extent).failWaiting r).extentAt h e
        = (s.freeTarget ⟨r.host, hh⟩ r.extent).extentAt h e := State.extentAt_of_extents (by rw [State.failWaiting_plc]) h e
      _ = s.extentAt h e := by
        unfold State.freeTarget
        dsimp only
        rw [State.extentAt_modExtent_ne _ ?_ hne', State.extentAt_modExtent_ne _ ?_ hne'] <;> exact fun _ => rfl
  · rfl

/-- The relocations that Steady mode leaves in progress. -/
def Reloc.survivesSteady (r : Reloc) : Bool := (r.fold || r.cls = 3) || r.draining.isSome

/-- Everything that Steady mode does not leave in progress is given up. -/
def State.giveUpRelocs (s : State) : State :=
  (s.plc.queued.filter fun r => !(r.fold || r.cls = 3)).foldl State.failWaiting
    ((s.plc.relocs.filter fun r => !(r.fold || r.cls = 3) && r.draining.isNone).foldl State.abandonReloc s)

def State.tellSteady (s : State) : State := forEach all24 (fun h t => t.modHpw h (setCause causeSteady)) s

/-- Steady mode is set, and the tables keep what it leaves in progress. -/
def State.beginSteady (s : State) (since : Nat) : State := s.modPlc fun p => { p with
  steady := true, steadySince := since
  relocs := p.relocs.filter Reloc.survivesSteady
  queued := p.queued.filter fun r => r.fold || r.cls = 3 }

theorem State.enterSteady_eq (s : State) : s.enterSteady =
    ((s.giveUpRelocs.beginSteady s.timeBase.toNat).raise 0x0601 srcPLC (p8 (reasonBits s.plc))).tellSteady.updReasons := rfl

theorem State.giveUpRelocs_steadyChange (s : State) : s.SteadyChange s.giveUpRelocs :=
  List.foldlRecOn _ _
    (List.foldlRecOn _ _ (.refl s) fun t ht r _ => ht.trans (t.abandonReloc_steadyChange r))
    fun t ht r _ => ht.trans (t.failWaiting_steadyChange r)

theorem State.giveUpRelocs_relocs (s : State) : s.giveUpRelocs.plc.relocs = s.plc.relocs := by
  refine List.foldlRecOn (motive := fun t : State => t.plc.relocs = s.plc.relocs) _ _ ?_ fun t ht r _ => by simpa using ht
  exact List.foldlRecOn (motive := fun t : State => t.plc.relocs = s.plc.relocs) _ _ rfl fun t ht r _ => by simpa using ht

theorem State.giveUpRelocs_extentAt {s : State} {h : Host24} {e : Nat}
    (hd : ∀ r ∈ s.plc.relocs, r.host = h.val → r.extent = e → r.draining.isSome = true) : s.giveUpRelocs.extentAt h e = s.extentAt h e := by
  refine List.foldlRecOn (motive := fun t : State => t.extentAt h e = s.extentAt h e) _ _ ?_ fun t ht r _ => ?_
  · refine List.foldlRecOn (motive := fun t : State => t.extentAt h e = s.extentAt h e) _ _ rfl fun t ht r hr => ?_
    obtain ⟨hmem, hgone⟩ := List.mem_filter.1 hr
    refine (t.abandonReloc_extentAt fun ⟨hh, he⟩ => ?_).trans ht
    simp [Option.isSome_iff_ne_none.1 (hd r hmem hh he)] at hgone
  · exact (State.extentAt_of_extents (by rw [State.failWaiting_plc]) h e).trans ht

@[simp] theorem State.tellSteady_plc (s : State) : s.tellSteady.plc = s.plc :=
  List.foldlRecOn (motive := fun t : State => t.plc = s.plc) _ _ rfl fun _ ht _ _ => ht

theorem State.modHpw_steadyChange (s : State) (h : Host24) (f : Hpw → Hpw) : s.SteadyChange (s.modHpw h f) where
  frame := rfl
  plc := rfl
  port k := by
    by_cases hk : k = h
    · subst hk
      simp [State.modHpw]
    · simp only [State.modHpw, State.modPort_port_ne s _ hk]

theorem State.tellSteady_steadyChange (s : State) : s.SteadyChange s.tellSteady :=
  List.foldlRecOn _ _ (.refl s) fun t ht h _ => ht.trans (t.modHpw_steadyChange h _)

theorem State.beginSteady_steadyChange (s : State) (since : Nat) : s.SteadyChange (s.beginSteady since) := ⟨rfl, rfl, fun _ => rfl⟩

theorem State.raise_steadyChange (s : State) (code source : Nat) (ps : Bytes) : s.SteadyChange (s.raise code source ps) :=
  ⟨rfl, rfl, fun _ => rfl⟩

theorem State.raiseIf_steadyChange (s : State) (b : Bool) (code source : Nat) (ps : Bytes) :
    s.SteadyChange (s.raiseIf b code source ps) := by
  cases b with
  | false => exact .refl s
  | true => exact s.raise_steadyChange code source ps

theorem State.enterSteady_steadyChange (s : State) : s.SteadyChange s.enterSteady := by
  rw [State.enterSteady_eq]
  exact (((s.giveUpRelocs_steadyChange.trans (State.beginSteady_steadyChange _ _)).trans (State.raise_steadyChange _ _ _ _)).trans
    (State.tellSteady_steadyChange _)).trans (State.updReasons_steadyChange _)

theorem State.updReasons_relocs (s : State) : s.updReasons.plc.relocs = s.plc.relocs := rfl
theorem State.updReasons_extents (s : State) : s.updReasons.plc.extents = s.plc.extents := rfl
theorem State.beginSteady_relocs (s : State) (since : Nat) :
    (s.beginSteady since).plc.relocs = s.plc.relocs.filter Reloc.survivesSteady := rfl
theorem State.beginSteady_extents (s : State) (since : Nat) : (s.beginSteady since).plc.extents = s.plc.extents := rfl

theorem State.enterSteady_relocs (s : State) : s.enterSteady.plc.relocs = s.plc.relocs.filter Reloc.survivesSteady := by
  rw [State.enterSteady_eq, State.updReasons_relocs, State.tellSteady_plc, State.raise_plc, State.beginSteady_relocs,
    State.giveUpRelocs_relocs]

theorem State.enterSteady_extents (s : State) : s.enterSteady.plc.extents = s.giveUpRelocs.plc.extents := by
  rw [State.enterSteady_eq, State.updReasons_extents, State.tellSteady_plc, State.raise_plc, State.beginSteady_extents]

/-- The judgement of Steady mode leaves it as it is, or enters it. -/
theorem State.checkSteady_cases (s : State) : s.checkSteady = s.updReasons ∨ s.checkSteady = s.updReasons.enterSteady := by
  unfold State.checkSteady
  dsimp only
  split
  · exact .inr rfl
  · exact .inl rfl

theorem State.checkSteady_of_steady {s : State} (hs : s.plc.steady = true) : s.checkSteady = s.updReasons := by
  have : s.updReasons.plc.steady = true := hs
  simp [State.checkSteady, this]

theorem State.checkSteady_steadyChange (s : State) : s.SteadyChange s.checkSteady := by
  obtain hs | hs := s.checkSteady_cases
  · exact hs ▸ s.updReasons_steadyChange
  · exact hs ▸ s.updReasons_steadyChange.trans (State.enterSteady_steadyChange _)

/-- Every relocation that survives is one that was there; one that drains stays. -/
theorem State.checkSteady_relocs (s : State) :
    s.checkSteady.plc.relocs = s.plc.relocs ∨ s.checkSteady.plc.relocs = s.plc.relocs.filter Reloc.survivesSteady := by
  obtain hs | hs := s.checkSteady_cases
  · exact .inl (hs ▸ rfl)
  · exact .inr (hs ▸ State.enterSteady_relocs _)

theorem State.mem_of_mem_checkSteady_relocs {s : State} {q : Reloc} (hq : q ∈ s.checkSteady.plc.relocs) : q ∈ s.plc.relocs := by
  obtain hs | hs := s.checkSteady_relocs
  · exact hs ▸ hq
  · exact (List.mem_filter.1 (hs ▸ hq)).1

theorem State.mem_checkSteady_relocs_of_draining {s : State} {q : Reloc} (hq : q ∈ s.plc.relocs) (hd : q.draining.isSome = true) :
    q ∈ s.checkSteady.plc.relocs := by
  obtain hs | hs := s.checkSteady_relocs
  · exact hs ▸ hq
  · exact hs ▸ List.mem_filter.2 ⟨hq, by simp [Reloc.survivesSteady, hd]⟩

/-- An extent whose relocations all drain stays as it is. -/
theorem State.checkSteady_extentAt {s : State} {h : Host24} {e : Nat}
    (hd : ∀ r ∈ s.plc.relocs, r.host = h.val → r.extent = e → r.draining.isSome = true) : s.checkSteady.extentAt h e = s.extentAt h e := by
  obtain hs | hs := s.checkSteady_cases
  · exact State.extentAt_of_extents (by rw [hs, State.updReasons_extents]) h e
  · calc s.checkSteady.extentAt h e
        = s.updReasons.giveUpRelocs.extentAt h e := State.extentAt_of_extents (by rw [hs, State.enterSteady_extents]) h e
      _ = s.updReasons.extentAt h e := State.giveUpRelocs_extentAt hd
      _ = s.extentAt h e := State.extentAt_of_extents s.updReasons_extents h e

/-! ## A relocation starts (Table 5.4, steps 1 and 2) -/

/-- The record of a relocation that starts: the one that was queued, or a new one, in an unused slot and with START_WSEQ. -/
def State.startedReloc (s : State) (h : Host24) (e : Nat) (fold : Bool) : Reloc :=
  let q := s.plc.queued.find? fun r => r.host = h.val && r.extent = e && r.fold == fold
  { q.getD (mkReloc s h.val e (q.elim 2 Reloc.cls) fold false) with slot := freeSlot s.plc.relocs, startWseq := s.plc.wseq.toNat }

/-- The extent with its TARGET, of which nothing is copied yet. -/
def Extent.startMove (x : Extent) (target : CopyLoc) (p : Fin 3) (slot : Nat) : Extent :=
  { x with
    target := { valid := true, chan := target.chan.val, sel := target.sel.val, dpage := target.dpage.toNat }
    rrec := slot, replaces := p.val, copied := 0, moving := true }

/-- The tables with the record moved from those that wait to those in progress. -/
def State.listReloc (s : State) (h : Host24) (e : Nat) (fold : Bool) : State := s.modPlc fun p => { p with
  relocs := p.relocs ++ [s.startedReloc h e fold]
  queued := p.queued.filter fun y => !(y.host = h.val && y.extent = e && y.fold == fold) }

theorem State.startedReloc_names (s : State) (h : Host24) (e : Nat) (fold : Bool) :
    (s.startedReloc h e fold).host = h.val ∧ (s.startedReloc h e fold).extent = e ∧ (s.startedReloc h e fold).fold = fold := by
  unfold State.startedReloc
  cases hq : s.plc.queued.find? fun r => r.host = h.val && r.extent = e && r.fold == fold with
  | none => exact ⟨rfl, rfl, rfl⟩
  | some q =>
    have := List.find?_some hq
    simp only [Bool.and_eq_true, decide_eq_true_eq, beq_iff_eq] at this
    obtain ⟨⟨hh, he⟩, hf⟩ := this
    exact ⟨hh, he, hf⟩

/-- The place that TARGET is to take is one that may be replaced, or one of two copies that is not there. -/
def Extent.mayReplace (x : Extent) (p : Fin 3) : Prop :=
  (p = 0 → x.copy0.valid = true) ∧ (p = 1 → x.copy1.valid = true) ∧ (p = 2 → x.copies.length < 2)

theorem exec_relocationStart {s : State} {h : Host24} {e : Nat} {x : Extent} {target : CopyLoc} {p : Fin 3} {fold : Bool}
    (hx : s.extentAt h e = some x) (hlive : x.state = .live) (hm : x.moving = false) (hr : s.relocOf h e = none)
    (hn : s.plc.relocs.length < 8) (hsteady : s.plc.steady = false) (hp : x.mayReplace p) (ht : s.targetOk h x target p.val fold = true) :
    exec (.relocationStart h e target p fold) s = .next ((s.listReloc h e fold).modExtent h e fun _ =>
      { x.startMove target p (freeSlot s.plc.relocs) with
        journal := (s.listReloc h e fold).wantsJournal (x.startMove target p (freeSlot s.plc.relocs)) }) := by
  obtain ⟨h0, h1, h2⟩ := hp
  have hpos : (if p = 0 then x.copy0.valid else if p = 1 then x.copy1.valid else decide (x.copies.length < 2)) = true := by
    split
    · exact h0 ‹_›
    · split
      · exact h1 ‹_›
      · exact decide_eq_true (h2 (by omega))
  change execRelocationStart h e target p fold s = _
  unfold execRelocationStart
  rw [hx]
  dsimp only
  rw [hpos, if_neg (by simp [hlive, hm, hr, hn]), if_neg (by simp [hsteady]), if_neg (by simp [ht])]
  rfl

/-! ## A page is copied (step 3) -/

/-- The content is durable on the TARGET; on NOR its spare record starts afresh. -/
def Placement.copyPage (p : Placement) (nand : Bool) (i d : Nat) (b : Bytes) : Placement :=
  if nand then p.storePage i d (some b) else (p.storePage i d (some b)).setSpare i d 1

theorem Placement.copyPage_flash (p : Placement) (nand : Bool) (i d : Nat) (b : Bytes) :
    (p.copyPage nand i d b).flash = (p.storePage i d (some b)).flash := by cases nand <;> rfl

theorem Placement.copyPage_frame (p : Placement) (nand : Bool) (i d : Nat) (b : Bytes) :
    p.copyPage nand i d b = { p with flash := (p.copyPage nand i d b).flash, spare := (p.copyPage nand i d b).spare } := by
  cases nand <;> rfl

/-- A stored page is read back whole, and no other byte changes. -/
theorem Placement.read_storePage (p : Placement) (i d : Nat) {b : Bytes} (hb : b.length = 4096) (a : Nat) :
    (p.storePage i d (some b)).flash.read 0xFF a =
      if flashKey i d ≤ a ∧ a < flashKey i d + 4096 then b.getD (a - flashKey i d) 0xFF else p.flash.read 0xFF a := by
  simp only [Placement.storePage, Mem.read_writeN, Mem.read_eraseN, hb, pageSize]
  split <;> rfl

/-- The next page of the extent is stored on the TARGET. -/
def State.storeOnTarget (s : State) (x : Extent) (b : Bytes) : State :=
  s.modPlc fun p => p.copyPage (s.selAt x.target.index).nand x.target.index (x.target.dpage + x.copied) b

theorem State.storeOnTarget_frame (s : State) (x : Extent) (b : Bytes) : s.storeOnTarget x b =
    { s with plc := { s.plc with flash := (s.storeOnTarget x b).plc.flash, spare := (s.storeOnTarget x b).plc.spare } } :=
  congrArg (fun p => { s with plc := p }) (Placement.copyPage_frame ..)

theorem State.storeOnTarget_extents (s : State) (x : Extent) (b : Bytes) : (s.storeOnTarget x b).plc.extents = s.plc.extents := by
  rw [State.storeOnTarget_frame]

/-- It is stored and COPIED advances. -/
def State.copyToTarget (s : State) (h : Host24) (e : Nat) (x : Extent) (b : Bytes) : State :=
  (s.storeOnTarget x b).modExtent h e fun y => { y with copied := y.copied + 1 }

theorem State.copyToTarget_extentAt {s : State} {h : Host24} {e : Nat} {x : Extent} (hx : s.extentAt h e = some x) (b : Bytes) :
    (s.copyToTarget h e x b).extentAt h e = some { x with copied := x.copied + 1 } :=
  have hxe := State.index_of_extentAt hx
  have hstored : (s.storeOnTarget x b).extentAt h e = some x := (State.extentAt_of_extents (s.storeOnTarget_extents x b) h e).trans hx
  State.extentAt_modExtent hstored hxe

theorem State.copyToTarget_extents_ne (s : State) {h k : Host24} (hk : k ≠ h) (e : Nat) (x : Extent) (b : Bytes) :
    (s.copyToTarget h e x b).extents k = s.extents k := by
  rw [State.copyToTarget, State.extents_modExtent_ne _ hk, State.extents, State.storeOnTarget_extents, State.extents]

/-- The bytes of the TARGET's page are the copied ones; every other byte of flash stays. -/
theorem State.copyToTarget_flash (s : State) (h : Host24) (e : Nat) (x : Extent) {b : Bytes} (hb : b.length = 4096) (a : Nat) :
    (s.copyToTarget h e x b).plc.flash.read 0xFF a =
      if flashKey x.target.index (x.target.dpage + x.copied) ≤ a ∧ a < flashKey x.target.index (x.target.dpage + x.copied) + 4096
      then b.getD (a - flashKey x.target.index (x.target.dpage + x.copied)) 0xFF else s.plc.flash.read 0xFF a :=
  (congrArg (fun m => Mem.read 0xFF m a) (Placement.copyPage_flash ..)).trans (s.plc.read_storePage _ _ hb a)

theorem State.copyToTarget_frame (s : State) (h : Host24) (e : Nat) (x : Extent) (b : Bytes) : s.copyToTarget h e x b = { s with
    plc := { s.plc with
      extents := (s.copyToTarget h e x b).plc.extents, flash := (s.copyToTarget h e x b).plc.flash
      spare := (s.copyToTarget h e x b).plc.spare } } :=
  congrArg (fun u : State => { u with plc := { u.plc with extents := (s.copyToTarget h e x b).plc.extents } }) (s.storeOnTarget_frame x b)

theorem exec_relocationPageCopied {s : State} {h : Host24} {e : Nat} {x : Extent} {r : Reloc} {b : Bytes}
    (hx : s.extentAt h e = some x) (hr : s.relocOf h e = some r) (hd : r.draining = none) (hm : x.moving = true) (hc : x.copied < x.pages)
    (ht : (s.selAt x.target.index).state = .ready) (hb : s.copySource h x (x.vbase + x.copied) = some b) :
    exec (.relocationPageCopied h e) s = .next ((s.copyToTarget h e x b).resumeWrite h) := by
  change execRelocationPageCopied h e s = _
  unfold execRelocationPageCopied
  rw [hx, hr]
  dsimp only
  rw [if_neg (by simp [hm, hd, ht, hc, SelState.servesReads]), hb]
  simp only [Option.isNone_some, Bool.false_and, Bool.false_eq_true, if_false]
  rfl

/-! ## The mapping changes (steps 4 to 6) -/

/-- Step 5 in one equation: TARGET takes the position that it replaces, or the one that holds no copy. -/
theorem Extent.place_eq (x : Extent) : x.place = { x with
    copy0 := if x.replaces = 0 ∨ (x.replaces ≠ 1 ∧ x.copy0.valid = false) then x.target else x.copy0
    copy1 := if x.replaces = 1 ∨ (x.replaces ≠ 0 ∧ x.copy0.valid = true) then x.target else x.copy1 } := by
  unfold Extent.place
  split
  · next h0 => simp [h0]
  · next h0 =>
    split
    · next h1 => simp [h1]
    · next h1 => cases x.copy0.valid <;> simp [h0, h1]

/-- The entry after the commit; the fold mark, DEGRADED and JOURNAL are as the case requires. -/
def Extent.afterMove (x : Extent) (mark : Nat) (degraded byFailure journal : Bool) : Extent :=
  { x.place with
    target := {}, moving := false, copied := 0, gen := x.gen + 1, mark := mark, degraded := degraded, byFailure := byFailure
    journal := journal }

theorem Extent.afterMove_index (x : Extent) (mark : Nat) (degraded byFailure journal : Bool) :
    (x.afterMove mark degraded byFailure journal).index = x.index := by
  rw [Extent.afterMove, Extent.place_eq]

/-- The state in which the mapping has changed and the old run drains. -/
def State.remap (s : State) (h : Host24) (e : Nat) (y : Extent) (l : Loc) (mark : Nat) : State :=
  (((s.modExtent h e fun _ => y).modPlc fun p => { p with
    journal := p.journal.filter fun j => !(j.host = h.val && j.extent = e && j.wseq ≤ mark) }).appendRegistry.bumpEpoch h).modReloc h e
      fun r => { r with draining := some l }

theorem State.remap_frame (s : State) (h : Host24) (e : Nat) (y : Extent) (l : Loc) (mark : Nat) : s.remap h e y l mark = { s with
    ports := (s.remap h e y l mark).ports, tt := (s.remap h e y l mark).tt, plc := (s.remap h e y l mark).plc
    evl := (s.remap h e y l mark).evl } := by
  simp [State.remap, State.modReloc, State.bumpEpoch, State.appendRegistry, State.modExtent, State.setExtents, State.modPlc, State.modPort]

theorem State.remap_extents (s : State) (h : Host24) (e : Nat) (y : Extent) (l : Loc) (mark : Nat) :
    (s.remap h e y l mark).plc.extents = (s.modExtent h e fun _ => y).plc.extents := by
  simp [State.remap, State.modReloc, State.bumpEpoch, State.appendRegistry]

theorem State.remap_extentAt {s : State} {h : Host24} {e : Nat} {x y : Extent} (hx : s.extentAt h e = some x) (hy : y.index = e) (l : Loc)
    (mark : Nat) : (s.remap h e y l mark).extentAt h e = some y :=
  (State.extentAt_of_extents (State.remap_extents ..) h e).trans (State.extentAt_modExtent hx hy)

theorem State.remap_relocs (s : State) (h : Host24) (e : Nat) (y : Extent) (l : Loc) (mark : Nat) :
    (s.remap h e y l mark).plc.relocs =
      s.plc.relocs.map fun r => if r.host = h.val && r.extent = e then { r with draining := some l } else r := rfl

@[simp] theorem State.remap_flash (s : State) (h : Host24) (e : Nat) (y : Extent) (l : Loc) (mark : Nat) :
    (s.remap h e y l mark).plc.flash = s.plc.flash := rfl

theorem State.remap_xepoch (s : State) (h : Host24) (e : Nat) (y : Extent) (l : Loc) (mark : Nat) :
    (s.remap h e y l mark).plc.xepoch.get h = s.plc.xepoch.get h + 1 := updV_get_self ..

theorem State.remap_port_self (s : State) (h : Host24) (e : Nat) (y : Extent) (l : Loc) (mark : Nat) : (s.remap h e y l mark).port h =
    { (s.port h).dropPrefetch with epochNews := true, hpw := setCause causeEpoch (s.port h).hpw } := by
  simp [State.remap, State.modReloc, State.bumpEpoch, State.appendRegistry, State.modExtent, State.setExtents]

theorem State.remap_ttOf (s : State) (h : Host24) (e : Nat) (y : Extent) (l : Loc) (mark : Nat) (k : Host24) :
    (s.remap h e y l mark).ttOf k = s.ttOf k := by
  simp [State.remap, State.modReloc, State.bumpEpoch, State.appendRegistry, State.modExtent, State.setExtents]

theorem exec_relocationCommit {s : State} {h : Host24} {e : Nat} {x : Extent} {r : Reloc} (hx : s.extentAt h e = some x)
    (hr : s.relocOf h e = some r) (hd : r.draining = none) (hm : x.moving = true) (hc : x.copied = x.pages)
    (hp : (s.port h).pending = none) (hw : (s.ttOf h).waiting = none) :
    ∃ mark degraded byFailure journal healed, exec (.relocationCommit h e) s =
      .next ((s.remap h e (x.afterMove mark degraded byFailure journal) x.replaced mark).raiseIf healed 0x0607 srcPLC
        (p8 h.val ++ p16 e)).checkSteady := by
  let mark := if (s.selAt x.target.index).nand then r.startWseq else s.plc.wseq.toNat
  let whole := decide (x.need ≤ x.place.copies.length)
  let journal := s.wantsJournal (x.afterMove mark (x.degraded && !whole) (x.byFailure && !whole) x.place.journal)
  refine ⟨mark, x.degraded && !whole, x.byFailure && !whole, journal, x.degraded && whole, ?_⟩
  generalize hy : x.afterMove mark (x.degraded && !whole) (x.byFailure && !whole) journal = y
  have hstep : exec (.relocationCommit h e) s =
      .next ((((s.remap h e y x.replaced mark).raiseIf (x.degraded && whole) 0x0607 srcPLC
        (p8 h.val ++ p16 e)).resumeWrite h).settleTt h).checkSteady := by
    change execRelocationCommit h e s = _
    unfold execRelocationCommit
    rw [hx, hr]
    dsimp only
    rw [if_neg (by simp [hm, hd, hc, hp]), ← hy]
    rfl
  rw [hstep, State.resumeWrite_of_no_pending, State.settleTt_of_no_waiting]
  · rwa [State.raiseIf_ttOf, State.remap_ttOf]
  · rwa [State.raiseIf_port, State.remap_port_self]

/-- After the change every relocation of the extent drains. -/
theorem State.remap_relocs_drain (s : State) (h : Host24) (e : Nat) (y : Extent) (l : Loc) (mark : Nat) :
    ∀ q ∈ (s.remap h e y l mark).plc.relocs, q.host = h.val → q.extent = e → q.draining.isSome = true := by
  intro q hq hh he
  rw [State.remap_relocs] at hq
  obtain ⟨r, -, rfl⟩ := List.mem_map.1 hq
  by_cases hr : (r.host = h.val && r.extent = e) = true
  · simp [hr]
  · rw [if_neg hr] at hh he
    simp [hh, he] at hr

/-- The relocation that was in progress is there and drains what it replaced. -/
theorem State.remap_relocs_mem {s : State} {h : Host24} {e : Nat} {r : Reloc} (hr : s.relocOf h e = some r) (y : Extent) (l : Loc)
    (mark : Nat) : { r with draining := some l } ∈ (s.remap h e y l mark).plc.relocs := by
  obtain ⟨hmem, hh, he⟩ := State.relocOf_names hr
  rw [State.remap_relocs]
  exact List.mem_map.2 ⟨r, hmem, by simp [hh, he]⟩

/-- The judgement of Steady mode that follows does not touch the entry, since nothing of it is given up any more. -/
theorem State.checkSteady_extentAt_of_remap {s u : State} {h : Host24} {e : Nat} {x y : Extent} {l : Loc} {mark : Nat}
    (hu : u.plc = (s.remap h e y l mark).plc) (hx : s.extentAt h e = some x) (hy : y.index = e) :
    u.checkSteady.extentAt h e = some y := calc
  u.checkSteady.extentAt h e = u.extentAt h e := State.checkSteady_extentAt (by rw [hu]; exact s.remap_relocs_drain h e y l mark)
  _ = (s.remap h e y l mark).extentAt h e := State.extentAt_of_extents (by rw [hu]) h e
  _ = some y := State.remap_extentAt hx hy l mark

/-! ## The old run has drained (step 7), and the deadline (R153) -/

/-- The tables without the relocation. -/
def State.dropReloc (s : State) (h : Host24) (e : Nat) : State :=
  (s.modPlc fun p => { p with relocs := p.relocs.filter fun q => !(q.host = h.val && q.extent = e) }).modExtent h e
    fun x => { x with rrec := 0 }

theorem exec_relocationDrainDone {s : State} {h : Host24} {e : Nat} {r : Reloc} {l : Loc} (hr : s.relocOf h e = some r)
    (hd : r.draining = some l) : exec (.relocationDrainDone h e) s = .next (s.dropReloc h e).checkSteady := by
  change execRelocationDrainDone h e s = _
  unfold execRelocationDrainDone
  rw [hr]
  simp only [hd, Option.isNone_some, Bool.false_eq_true, if_false]
  rfl

/-- A relocation that something waits on is overdue at its deadline. -/
def Reloc.late (h : Host24) (e : Nat) (r : Reloc) : Reloc :=
  if r.host = h.val && r.extent = e && r.waitedOn && r.draining.isNone then { r with overdue := true } else r

theorem Reloc.late_eq (h : Host24) (e : Nat) : Reloc.late h e = fun r : Reloc =>
    if r.host = h.val ∧ r.extent = e ∧ r.waitedOn = true ∧ r.draining = none then { r with overdue := true } else r := by
  funext r
  simp only [Reloc.late, Bool.and_eq_true, decide_eq_true_eq, Option.isNone_iff_eq_none, and_assoc]

/-- In Steady mode the deadline marks what is overdue and the reasons are judged again. -/
theorem exec_relocationDeadline {s : State} (hs : s.plc.steady = true) (h : Host24) (e : Nat) :
    exec (.relocationDeadline h e) s = .next (s.modPlc fun p => { p with
      relocs := p.relocs.map (Reloc.late h e), queued := p.queued.map (Reloc.late h e) }).updReasons :=
  congrArg Host.Outcome.next (State.checkSteady_of_steady hs)

end Sys2Proof.Machine

namespace Sys2Proof.Proofs
open Sys2Proof Sys2Proof.Machine

/-- Settles O23: each command is its equation above, read through the rules of the extent and relocation tables. -/
theorem relocations : Obligations.Relocations := by
  intro h e x s hx
  have hxe := State.index_of_extentAt hx
  refine ⟨fun target p fold hlive hm hr hn hsteady h0 h1 h2 ht => ?start, fun r b hr hd hm hc ht' hb hlen => ?copy,
    fun r hr hd hm hc hp hw => ?commit, fun r l hr hd => ?drain, fun hs => ?deadline⟩
  case start =>
    obtain ⟨hhost, hext, hfold⟩ := s.startedReloc_names h e fold
    exact ⟨_, s.startedReloc h e fold, _, exec_relocationStart hx hlive hm hr hn hsteady ⟨h0, h1, h2⟩ ht, rfl, hhost, hext, hfold, rfl,
      freeSlot_unused (by omega), State.extentAt_modExtent (s := s.listReloc h e fold) hx hxe,
      fun k hk => State.extents_modExtent_ne (s.listReloc h e fold) hk e _, rfl⟩
  case copy =>
    obtain ⟨g, n, c, ht⟩ := (s.copyToTarget h e x b).resumeWrite_frame h
    refine ⟨_, exec_relocationPageCopied hx hr hd hm hc ht' hb, ?_⟩
    rw [ht]
    exact ⟨State.copyToTarget_extentAt hx b, s.copyToTarget_flash h e x hlen,
      congrArg (fun u : State => ({ u with free := n, chans := c } : State).modPort h g) (s.copyToTarget_frame h e x b),
      fun k hk => ⟨State.modPort_port_ne _ g hk, s.copyToTarget_extents_ne hk e x b⟩⟩
  case commit =>
    obtain ⟨mark, degraded, byFailure, journal, healed, hstep⟩ := exec_relocationCommit hx hr hd hm hc hp hw
    generalize hy : x.afterMove mark degraded byFailure journal = y at hstep
    have hye : y.index = e := by rw [← hy, Extent.afterMove_index, hxe]
    have hraise := (s.remap h e y x.replaced mark).raiseIf_steadyChange healed 0x0607 srcPLC (p8 h.val ++ p16 e)
    have hplc := State.raiseIf_plc (s.remap h e y x.replaced mark) healed 0x0607 srcPLC (p8 h.val ++ p16 e)
    generalize (s.remap h e y x.replaced mark).raiseIf healed 0x0607 srcPLC (p8 h.val ++ p16 e) = u at hstep hraise hplc
    have hch := hraise.trans u.checkSteady_steadyChange
    have hmem : { r with draining := some x.replaced } ∈ u.plc.relocs := hplc ▸ State.remap_relocs_mem hr y x.replaced mark
    obtain ⟨-, hhost, hext⟩ := State.relocOf_names hr
    refine ⟨_, y, hstep, State.checkSteady_extentAt_of_remap hplc hx hye, ?copy0, ?copy1, ?moving, ?target, ?gen, ?vbase,
      ?pages, ?xepoch, ?news, ?prefetch,
      ⟨_, State.mem_checkSteady_relocs_of_draining hmem rfl, hhost, hext, rfl⟩, ?flash, hch.frame_of (s.remap_frame h e y x.replaced mark)⟩
    case copy0 | copy1 | moving | target | gen | vbase | pages => simp [← hy, Extent.afterMove, Extent.place_eq]
    case xepoch => rw [hch.xepoch, State.remap_xepoch]
    case news => rw [hch.port h, State.remap_port_self]
    case prefetch => rw [hch.port h, State.remap_port_self, Port.dropPrefetch]
    case flash => rw [hch.flash, State.remap_flash]
  case drain =>
    have hch := (s.dropReloc h e).checkSteady_steadyChange
    refine ⟨_, exec_relocationDrainDone hr hd, fun q hq => ?_, hch.flash, hch.frame⟩
    have hkept : q ∈ s.plc.relocs.filter fun q => !(q.host = h.val && q.extent = e) := State.mem_of_mem_checkSteady_relocs hq
    rintro ⟨hh, he⟩
    simp [hh, he] at hkept
  case deadline =>
    refine ⟨_, exec_relocationDeadline hs h e, ?_, ?_, rfl⟩
    · rw [← Reloc.late_eq]; rfl
    · rw [← Reloc.late_eq]; rfl

end Sys2Proof.Proofs

/-! PROOFS. The digest cluster (R195 to R214): register writes through the gates, result sets, submission, the words of a PUSH job, the start of
a job and its end. -/
namespace Sys2Proof.Machine

/-! ## Register writes through the gates (R404, R408) -/

theorem State.busWrite_of_reaches {s : State} {m : Master} {a : Nat} (h : s.reaches m a) (k : State → State) : s.busWrite m a k = k s := by
  obtain ⟨hd, hj⟩ := h
  simp [State.busWrite, hd, hj]

theorem State.busWrite_refused {s : State} {m : Master} {a r : Nat} (hd : s.debugStopped m = false)
    (hj : s.judge m a true s.lists false = some r) (k : State → State) : s.busWrite m a k = s.refuseAccess m a accWrite r := by
  simp [State.busWrite, hd, hj]

theorem exec_dgcSubmit (m : Master) (a : Word) (s : State) :
    exec (.dgcSubmit m a) s = .next (s.busWrite m 0x4009000C fun t => t.submitJob m a.toNat) := rfl

theorem exec_dgcResRel (m : Master) (k : Fin 64) (s : State) :
    exec (.dgcResRel m k) s = .next (s.busWrite m 0x40090014 fun t => t.releaseSet k.val m) := rfl

theorem exec_dgcAbort (m : Master) (k : Fin 64) (s : State) :
    exec (.dgcAbort m k) s = .next (s.busWrite m 0x40090018 fun t => t.abortJob k.val m) := rfl

/-- The result sets stand 0x80 apart (Table 7.6). -/
theorem resBase_add (k o : Nat) : resBase k + o = 0x40091000 + o + k * 0x80 := by
  unfold resBase; omega

theorem exec_dgcResDin (m : Master) (k : Fin 64) (v : Word) (s : State) :
    exec (.dgcResDin m k v) s = .next (s.busWrite m (0x40091050 + k.val * 0x80) fun t => t.feedWord k.val m v) :=
  congrArg (fun a => done (s.busWrite m a fun t => t.feedWord k.val m v)) (resBase_add k.val 0x50)

theorem exec_dgcLastw (m : Master) (k : Fin 64) (v : Word) (s : State) :
    exec (.dgcLastw m k v) s = .next (s.busWrite m (0x40091054 + k.val * 0x80) fun t => t.lastWord k.val m (v.toNat % 4)) :=
  congrArg (fun a => done (s.busWrite m a fun t => t.lastWord k.val m (v.toNat % 4))) (resBase_add k.val 0x54)

/-! ## Result sets -/

theorem State.resSet_val (s : State) (k : Fin 64) : s.resSet k.val = s.dgc.sets.get k := by simp [State.resSet]

theorem State.modSet_val (s : State) (k : Fin 64) (f : ResSet → ResSet) :
    s.modSet k.val f = { s with dgc := { s.dgc with sets := s.dgc.sets.set k (f (s.resSet k.val)) } } := by
  simp [State.modSet, State.resSet_val, updV]

/-- The set as the end of its job leaves it, with the result that `r` holds (R213). -/
def ResSet.ended (r : ResSet) : ResSet := { r with queued := false, running := false, done := true, dinWords := 64 }

theorem State.endJob_of_wanted {s : State} {k : Fin 64} (ho : (s.resSet k.val).orphan = false) (f : ResSet → ResSet) :
    s.endJob k.val f = { s with dgc := { s.dgc with
      running := s.dgc.running.filter (fun x => x.2.set ≠ k.val), queue := s.dgc.queue.filter (fun j => j.set ≠ k.val)
      sets := s.dgc.sets.set k (f (s.resSet k.val)).ended } } := by
  rw [State.resSet_val] at ho
  simp [State.endJob, State.modSet_val, State.resSet_val, ho, ResSet.ended]

theorem State.endJob_resSet {s : State} {k : Fin 64} (ho : (s.resSet k.val).orphan = false) (f : ResSet → ResSet) :
    (s.endJob k.val f).resSet k.val = (f (s.resSet k.val)).ended := by
  simp [State.endJob_of_wanted ho, State.resSet_val]

/-- A set is freed by the owner of its DONE job, and by nobody else (R214). -/
theorem State.releaseSet_own {s : State} {k : Fin 64} {m : Master} (hd : (s.resSet k.val).done = true)
    (ho : (s.resSet k.val).owner = some m) :
    s.releaseSet k.val m = { s with dgc := { s.dgc with sets := s.dgc.sets.set k {} } } := by
  simp [State.releaseSet, hd, ho, State.modSet_val]

theorem State.releaseSet_other {s : State} {k : Nat} {m : Master} (h : (s.resSet k).done = false ∨ (s.resSet k).owner ≠ some m) :
    s.releaseSet k m = s := by
  rcases h with hd | ho
  · simp [State.releaseSet, hd]
  · simp [State.releaseSet, ho]

theorem State.abortJob_own {s : State} {k : Nat} {m : Master} (ho : (s.resSet k).owner = some m)
    (hj : (s.resSet k).queued = true ∨ (s.resSet k).running = true) :
    s.abortJob k m = s.endJob k fun r => { r with aborted := true } := by
  simp [State.abortJob, ho, hj]

theorem State.abortJob_other {s : State} {k : Nat} {m : Master}
    (h : (s.resSet k).owner ≠ some m ∨ ((s.resSet k).queued = false ∧ (s.resSet k).running = false)) : s.abortJob k m = s := by
  rcases h with ho | ⟨hq, hr⟩
  · simp [State.abortJob, ho]
  · simp [State.abortJob, hq, hr]

/-! ## Submission (R197, R201, Table 7.3) -/

/-- The job and the result set of an accepted descriptor. -/
def Desc.freshJob (d : Desc) (m : Master) (k : Nat) : DgcJob :=
  { set := k, master := m, desc := d, fed := [], ended := false, buffered := 0, started := 0 }

def Desc.freshSet (d : Desc) (m : Master) : ResSet :=
  { alloc := true, queued := true, alg := BitVec.ofNat 3 d.alg, tag := BitVec.ofNat 32 (d.word 5)
    owner := some m, push := d.src = 1, lenMode := d.lenMode }

/-- Of the digest cluster a change of power state touches the cores' power and tests only (R194, R195). -/
theorem State.setPower_frame (s : State) (p : PowerState) :
    ∃ w on ok r, s.setPower p = { s with power := p, pwr := w, dgc := { s.dgc with on := on, ok := ok }, rng := r } := by
  unfold State.setPower
  split
  case isTrue h => subst h; exact ⟨s.pwr, s.dgc.on, s.dgc.ok, s.rng, rfl⟩
  case isFalse => exact ⟨_, _, _, _, rfl⟩

/-- A wake leads to P0 from every state, and the digest cluster keeps its jobs (R362). -/
theorem State.wake_frame (s : State) (kind port : Nat) :
    ∃ w on ok r e, s.wake kind port = { s with power := .p0, pwr := w, dgc := { s.dgc with on := on, ok := ok }, rng := r, evl := e } := by
  have deep : ∀ (x : Pwr) (b : Bool) (code source : Nat) (ps : Bytes), ∃ w on ok r e,
      (({ s with pwr := x } : State).setPower .p0).raiseIf b code source ps =
        { s with power := .p0, pwr := w, dgc := { s.dgc with on := on, ok := ok }, rng := r, evl := e } := by
    intro x b code source ps
    obtain ⟨w, on, ok, r, ht⟩ := State.setPower_frame { s with pwr := x } .p0
    rw [ht]
    cases b with
    | false => exact ⟨_, _, _, _, _, rfl⟩
    | true => exact ⟨_, _, _, _, _, rfl⟩
  unfold State.wake
  split
  case h_1 hp => exact ⟨s.pwr, s.dgc.on, s.dgc.ok, s.rng, s.evl, by rw [← hp]⟩
  case h_2 =>
    obtain ⟨w, on, ok, r, ht⟩ := s.setPower_frame .p0
    exact ⟨w, on, ok, r, s.evl, ht⟩
  case h_3 => exact deep _ _ _ _ _

theorem State.submitJob_unaligned {s : State} {a : Nat} (ha : a % 32 ≠ 0) (m : Master) :
    s.submitJob m a = s.setLastSub m { code := BitVec.ofNat 3 lsBadDesc } := by
  simp [State.submitJob, ha]

theorem State.submitJob_read {s : State} {m : Master} {a : Nat} {b : Bytes} {d : Desc} (ha : a % 32 = 0)
    (hr : s.memRead m a 32 = (some b, s)) (hd : d = { w := (List.range 8).map fun i => u32 b (4 * i) }) :
    s.submitJob m a = if !s.descOk m d then s.setLastSub m { code := BitVec.ofNat 3 lsBadDesc }
      else if !s.keyOk m d then s.setLastSub m { code := BitVec.ofNat 3 lsKeyRefused } else s.enqueueJob m d := by
  simp [State.submitJob, ha, hr, hd]

theorem State.enqueueJob_full {s : State} (hf : s.freeSet = none ∨ 64 ≤ s.dgc.queue.length) (m : Master) (d : Desc) :
    ∃ n, s.enqueueJob m d =
      ({ s with dgc := { s.dgc with busyCnt := s.dgc.busyCnt.inc } } : State).setLastSub m { code := 1, set := 0, retry := n } := by
  unfold State.enqueueJob
  cases hs : s.freeSet with
  | none => exact ⟨_, rfl⟩
  | some k =>
    have hq : 64 ≤ s.dgc.queue.length := hf.resolve_left (by simp [hs])
    simp only [hq, if_true]
    exact ⟨_, rfl⟩

theorem State.enqueueJob_room {s : State} {k : Fin 64} (hs : s.freeSet = some k) (hq : s.dgc.queue.length < 64) (m : Master) (d : Desc) :
    ∃ w on ok r e, s.enqueueJob m d = { s with
      power := .p0, pwr := w, rng := r, evl := e
      dgc := { s.dgc with
        on := on, ok := ok, queue := s.dgc.queue ++ [d.freshJob m k.val], sets := s.dgc.sets.set k (d.freshSet m)
        lastSubs := s.dgc.lastSubs.filter (fun x => x.1 ≠ masterId m) ++
          [(masterId m, { code := 0, set := BitVec.ofNat 6 k.val, retry := 0 })] } } := by
  simp only [State.enqueueJob, hs, Nat.not_le.2 hq, if_false, State.modSet_val]
  obtain ⟨w, on, ok, r, e, ht⟩ :=
    State.wake_frame { s with dgc := { s.dgc with sets := s.dgc.sets.set k (d.freshSet m) } } wkInternal 0
  simp only [Desc.freshSet] at ht
  rw [ht]
  exact ⟨w, on, ok, r, e, rfl⟩

/-! ## Words of a PUSH job (R206, R208) -/

/-- The set takes words of master `m`. -/
def State.takesPush (s : State) (k : Nat) (m : Master) : Prop :=
  (s.resSet k).alloc = true ∧ (s.resSet k).push = true ∧ (s.resSet k).owner = some m

theorem State.feedWord_not_taken {s : State} {k : Nat} {m : Master}
    (h : (s.resSet k).alloc = false ∨ (s.resSet k).push = false ∨ (s.resSet k).owner ≠ some m) (v : Word) :
    s.feedWord k m v = s.stickyIf m := by
  rcases h with h | h | h <;> simp [State.feedWord, h]

theorem State.lastWord_not_taken {s : State} {k : Nat} {m : Master}
    (h : (s.resSet k).alloc = false ∨ (s.resSet k).push = false ∨ (s.resSet k).owner ≠ some m) (valid : Nat) :
    s.lastWord k m valid = s := by
  rcases h with h | h | h <;> simp [State.lastWord, h]

section
variable {s : State} {k : Nat} {m : Master} {j : DgcJob} (ht : s.takesPush k m)
include ht

theorem State.lastWord_with_len (hl : (s.resSet k).lenMode = false) (valid : Nat) :
    s.lastWord k m valid = s.modSet k fun r => { r with lastwIgn := true } := by
  obtain ⟨ha, hp, ho⟩ := ht
  simp [State.lastWord, ha, hp, ho, hl]

theorem State.lastWord_ends (hl : (s.resSet k).lenMode = true) (valid : Nat) :
    s.lastWord k m valid = s.modJob k fun x =>
      if x.ended then x
      else { x with ended := true, fed := if x.fed.isEmpty || valid = 0 then x.fed else x.fed.take (x.fed.length - (4 - valid)) } := by
  obtain ⟨ha, hp, ho⟩ := ht
  simp [State.lastWord, ha, hp, ho, hl]

variable (hd : (s.resSet k).done = false) (hj : s.jobOfSet k = some j)
include hd hj

theorem State.feedWord_excess (hl : j.desc.lenMode = false) (hfull : j.desc.len ≤ j.fed.length) (v : Word) :
    s.feedWord k m v = s.excessWord k m := by
  obtain ⟨ha, hp, ho⟩ := ht
  simp [State.feedWord, ha, hp, ho, hd, hj, hl, hfull]

/-- The message of the job is still open: LEN is not reached, or DGC_LASTW not written. -/
theorem State.feedWord_buffer_full (hm : j.desc.lenMode = true → j.ended = false) (hl : j.desc.lenMode = false → j.fed.length < j.desc.len)
    (hq : (s.resSet k).queued = true) (hb : 64 ≤ j.buffered) (v : Word) :
    s.feedWord k m v = (s.modSet k fun r => { r with dinFull := true }).stickyIf m := by
  obtain ⟨ha, hp, ho⟩ := ht
  cases hlm : j.desc.lenMode with
  | false => simp [State.feedWord, ha, hp, ho, hd, hj, hlm, Nat.not_le.2 (hl hlm), hq, hb]
  | true => simp [State.feedWord, ha, hp, ho, hd, hj, hlm, hm hlm, hq, hb]

/-- Bytes beyond LEN are cut off; a job on its core buffers nothing. -/
theorem State.feedWord_running (hl : j.desc.lenMode = false) (hopen : j.fed.length < j.desc.len) (hq : (s.resSet k).queued = false)
    (v : Word) :
    s.feedWord k m v = (s.modJob k fun x => { x with
      fed := j.fed ++ (leBytes 4 v.toNat).take (j.desc.len - j.fed.length), buffered := 0 }).modSet k fun r =>
        { r with dinFull := false, dinWords := 64 } := by
  obtain ⟨ha, hp, ho⟩ := ht
  simp [State.feedWord, ha, hp, ho, hd, hj, hl, Nat.not_le.2 hopen, hq]

theorem State.feedWord_waiting (hl : j.desc.lenMode = true) (he : j.ended = false) (hq : (s.resSet k).queued = true)
    (hb : j.buffered < 64) (v : Word) :
    s.feedWord k m v = (s.modJob k fun x => { x with
      fed := j.fed ++ leBytes 4 v.toNat, buffered := j.buffered + 1 }).modSet k fun r =>
        { r with dinFull := false, dinWords := BitVec.ofNat 7 (64 - (j.buffered + 1)) } := by
  obtain ⟨ha, hp, ho⟩ := ht
  simp [State.feedWord, ha, hp, ho, hd, hj, hl, he, hq, Nat.not_le.2 hb]

end

/-! ## The start of a job (R195, R198, R199, R210) -/

/-- Job `j` leaves the queue and runs on core `c`. -/
def State.runOn (s : State) (c : Nat) (j : DgcJob) : State :=
  ({ s with dgc := { s.dgc with
      queue := s.dgc.queue.erase j, ok := s.dgc.ok ||| BitVec.ofNat 16 (2 ^ c)
      running := s.dgc.running ++ [(c, { j with buffered := 0, started := s.timeBase.toNat })] } } : State).modSet j.set fun r =>
    { r with queued := false, running := true, dinWords := 64 }

theorem State.startJob_empty {s : State} (hq : s.dgc.queue = []) : s.startJob = s := by
  simp [State.startJob, firstJob, hq]

theorem State.startJob_no_core {s : State} (hc : s.coresOn.filter s.coreFree = []) : s.startJob = s := by
  unfold State.startJob
  cases firstJob s.dgc.queue with
  | none => rfl
  | some j => simp only [hc]

section
variable {s : State} {j : DgcJob} {c : Nat} {cs : List Nat} (hj : firstJob s.dgc.queue = some j)
  (hc : s.coresOn.filter s.coreFree = c :: cs)
include hj hc

theorem State.startJob_reserved (hv : s.verifying = true) (hr : cs.length + 1 ≤ s.dgc.reserve.toNat) : s.startJob = s := by
  simp [State.startJob, hj, hc, hv, hr]

theorem State.startJob_unreserved (hfree : s.verifying = false ∨ s.dgc.reserve.toNat < cs.length + 1) :
    s.startJob = if s.keyOk j.master j.desc then s.runOn c j
      else (s.endJob j.set fun r => { r with keyRefused := true }).raise 0x0505 srcDGC (p8 j.desc.keySlot ++ p8 j.whom) := by
  have hno : (s.verifying && decide ((c :: cs).length ≤ s.dgc.reserve.toNat)) = false := by
    rcases hfree with hv | hr
    · rw [hv, Bool.false_and]
    · rw [List.length_cons, decide_eq_false (Nat.not_le.2 hr), Bool.and_false]
  simp only [State.startJob, hj, hc, hno, Bool.false_eq_true, if_false]
  cases s.keyOk j.master j.desc <;> rfl

end

theorem State.failCores_one {s : State} {c : Nat} (hc : c < 16) (hok : s.dgc.ok.getLsbD c = false) (hex : s.dgc.excluded.getLsbD c = false)
    (a : Nat) :
    s.failCores [(c, a)] = ({ s with dgc := { s.dgc with excluded := s.dgc.excluded ||| BitVec.ofNat 16 (2 ^ c) } } : State).raise
      0x0501 srcDGC (p8 c ++ p8 a) := by
  simp only [State.failCores, List.foldl_cons, List.foldl_nil, hc, hok, hex, decide_true, Bool.not_false, Bool.and_self, if_true]

/-! ## Sessions that close with their role's key (R315, R381) -/

/-- Only messages, sessions and events differ. -/
def State.NetChange (s t : State) : Prop := t = { s with net := t.net, evl := t.evl }

theorem State.NetChange.refl (s : State) : s.NetChange s := rfl
theorem State.NetChange.trans {s t u : State} (hst : s.NetChange t) (htu : t.NetChange u) : s.NetChange u := by
  unfold State.NetChange at hst htu ⊢
  rw [htu, hst]
theorem State.NetChange.dgc {s t : State} (h : s.NetChange t) : t.dgc = s.dgc := by rw [h]
theorem State.NetChange.keys {s t : State} (h : s.NetChange t) : t.keys = s.keys := by rw [h]

theorem State.modNet_netChange (s : State) (f : Net → Net) : s.NetChange (s.modNet f) := rfl
theorem State.raise_netChange (s : State) (code source : Nat) (ps : Bytes) : s.NetChange (s.raise code source ps) := rfl

theorem State.setSession_netChange (s : State) (k : Nat) (x : Option Session) : s.NetChange (s.setSession k x) := by
  unfold State.setSession
  split
  · exact s.modNet_netChange _
  · exact .refl s

theorem State.modSession_netChange (s : State) (k : Nat) (f : Session → Session) : s.NetChange (s.modSession k f) := by
  unfold State.modSession
  split
  · exact s.setSession_netChange k _
  · exact .refl s

theorem State.sendRaw_netChange (s : State) (k typ flags xid : Nat) (body : Bytes) : s.NetChange (s.sendRaw k typ flags xid body) := by
  unfold State.sendRaw
  split
  · exact ((s.modNet_netChange _).trans (State.modNet_netChange _ _)).trans (State.modSession_netChange _ k _)
  · exact .refl s

theorem State.closeSession_netChange (s : State) (k cause : Nat) (send : Bool) : s.NetChange (s.closeSession k cause send) := by
  unfold State.closeSession
  split
  case h_1 => exact .refl s
  case h_2 x hx =>
    dsimp only
    refine State.NetChange.trans ?_ (State.raise_netChange _ _ _ _)
    refine State.NetChange.trans ?_ (State.setSession_netChange _ k none)
    refine State.NetChange.trans ?_ (State.modNet_netChange _ _)
    refine State.NetChange.trans ?sent
      (List.foldlRecOn _ _ (.refl _) fun t ht y _ => ht.trans (t.raise_netChange _ _ _))
    split
    · exact s.sendRaw_netChange k _ _ _ _
    · exact .refl s

theorem State.closeRole_netChange (s : State) (role : Nat) : s.NetChange (s.closeRole role) := by
  refine List.foldlRecOn _ _ (.refl s) fun t ht k _ => ?_
  split
  · exact ht.trans (t.closeSession_netChange k 4 true)
  · exact ht

theorem State.NetChange.slot {s t : State} (h : s.NetChange t) (k : Nat) : t.slot k = s.slot k := by
  simp only [State.slot, h.keys]

theorem State.NetChange.resSet {s t : State} (h : s.NetChange t) (k : Nat) : t.resSet k = s.resSet k := by
  simp only [State.resSet, h.dgc]

theorem State.writeRoleKey_resSet (s : State) (k n : Nat) (key : Bytes) : (s.writeRoleKey k key).resSet n = s.resSet n := by
  simp only [State.writeRoleKey, State.modSlot]
  split <;> rfl

theorem State.writeRoleKey_slot (s : State) {k : Nat} (hk : k < 64) (key : Bytes) :
    ((s.writeRoleKey k key).slot k).key = key ∧ ((s.writeRoleKey k key).slot k).typ = typRole := by
  simp [State.writeRoleKey, State.modSlot, State.slot, hk]

/-! ## The end of a job (R203 to R213) -/

theorem exec_jobComplete {s : State} {k : Fin 64} {c : Nat} {j : DgcJob}
    (hr : s.dgc.running.find? (fun x => x.2.set = k.val) = some (c, j)) :
    exec (.jobComplete k) s = .next (if j.complete then s.finishJob j else s) := by
  change done _ = _
  simp only [hr]

theorem exec_jobStall {s : State} {k : Fin 64} {c : Nat} {j : DgcJob}
    (hr : s.dgc.running.find? (fun x => x.2.set = k.val) = some (c, j)) :
    exec (.jobStall k) s = .next (if j.complete then s
      else (s.endJob k.val fun r => { r with lengthShort := true, count := BitVec.ofNat 64 j.fed.length }).shortEvent j) := by
  change done _ = _
  simp only [hr]

theorem State.finishJob_unreadable {s s1 : State} {j : DgcJob} (hd : s.jobData j = (none, s1)) :
    s.finishJob j = s1.jobReadErr j (s.failAddr j) := by
  simp [State.finishJob, hd]

section
variable {s : State} {j : DgcJob} {msg out : Bytes} {n : Nat} (hd : s.jobData j = (some msg, s)) (hs : j.desc.stateIn = false)
  (ho : jobOutput j.desc (s.slot j.desc.keySlot).key none msg = some (out, n))
include hd hs ho

theorem State.finishJob_to_set (h0 : j.desc.dest = 0) :
    s.finishJob j = s.endJob j.set fun r =>
      { r with count := BitVec.ofNat 64 n, out := out, outLen := BitVec.ofNat 7 out.length } := by
  simp [State.finishJob, hd, hs, ho, h0]

theorem State.finishJob_compared {e : Bytes} (h1 : j.desc.dest = 1)
    (he : s.memRead j.master j.desc.aux j.desc.outBytes = (some e, s)) :
    s.finishJob j = s.endJob j.set fun r => { r with count := BitVec.ofNat 64 n, cmpFail := out ≠ e } := by
  simp [State.finishJob, hd, hs, ho, h1, he]

theorem State.finishJob_to_slot (h2 : j.desc.dest = 2) :
    s.finishJob j =
      ((s.endJob j.set fun r => { r with count := BitVec.ofNat 64 n }).writeRoleKey j.desc.dstSlot out).closeRole j.desc.dstSlot := by
  simp [State.finishJob, hd, hs, ho, h2]

end

/-- EV 0x0502 and its count touch nothing else of the cluster (R207). -/
theorem State.shortEvent_frame (s : State) (j : DgcJob) :
    ∃ l e, s.shortEvent j = { s with dgc := { s.dgc with shortCnt := s.dgc.shortCnt.inc, shortLogged := l }, evl := e } := by
  simp only [State.shortEvent]
  split
  · exact ⟨_, _, rfl⟩
  · exact ⟨_, _, rfl⟩

end Sys2Proof.Machine

namespace Sys2Proof.Proofs
open Sys2Proof Sys2Proof.Machine

/-- Settles O29: each clause is one case of the submission, of a set's release or abort, or of a word of a PUSH job. -/
theorem digestJobs : Obligations.DigestJobs := by
  refine ⟨⟨fun m a s hm => ?submit, fun m k s => ⟨fun hm => ?release, fun hm => ?abort, fun a r v hd => ?refused⟩⟩,
    fun m k v j s hdin hlast => ⟨fun hnot => ?notTaken, fun ha hp ho hd hj => ?words, fun ha hp ho => ?ends⟩⟩
  case submit =>
    simp only [exec_dgcSubmit, State.busWrite_of_reaches hm]
    refine ⟨fun ha => ?_, fun b d ha hr hd => ⟨fun hbad => ?_, fun hok hkey => ?_, fun hok hkey hfull => ?_, fun k hok hkey hs hq => ?_⟩⟩
    · rw [State.submitJob_unaligned ha]; rfl
    · rw [State.submitJob_read ha hr hd, hbad]; rfl
    · rw [State.submitJob_read ha hr hd, hok, hkey]; rfl
    · obtain ⟨n, hn⟩ := State.enqueueJob_full hfull m d
      refine ⟨n, ?_⟩
      rw [State.submitJob_read ha hr hd, hok, hkey, ← hn]; rfl
    · obtain ⟨w, on, ok, r, e, ht⟩ := State.enqueueJob_room hs hq m d
      refine ⟨s.enqueueJob m d, ?_, ?_⟩
      · rw [State.submitJob_read ha hr hd, hok, hkey]; rfl
      · rw [ht]
        exact ⟨rfl, rfl, rfl, rfl, rfl⟩
  case release =>
    simp only [exec_dgcResRel, State.busWrite_of_reaches hm]
    exact ⟨fun hd ho => by rw [State.releaseSet_own hd ho], fun hno => by rw [State.releaseSet_other hno]⟩
  case abort =>
    simp only [exec_dgcAbort, State.busWrite_of_reaches hm]
    exact ⟨fun ho hj hw => by rw [State.abortJob_own ho hj, State.endJob_of_wanted hw]; rfl, fun hno => by rw [State.abortJob_other hno]⟩
  case refused =>
    refine ⟨fun hj => ?_, fun hj => ?_, fun ha hj => ?_⟩
    · rw [exec_dgcResRel, State.busWrite_refused hd hj]; rfl
    · rw [exec_dgcAbort, State.busWrite_refused hd hj]; rfl
    · subst ha
      rw [exec_dgcResDin, State.busWrite_refused hd hj]; rfl
  case notTaken =>
    rw [exec_dgcResDin, State.busWrite_of_reaches hdin, State.feedWord_not_taken hnot, exec_dgcLastw, State.busWrite_of_reaches hlast,
      State.lastWord_not_taken hnot]
    exact ⟨rfl, rfl⟩
  case words =>
    have ht : s.takesPush k.val m := ⟨ha, hp, ho⟩
    simp only [exec_dgcResDin, State.busWrite_of_reaches hdin]
    refine ⟨fun hl hopen hq => ?_, fun hl hfull => ?_, fun hl he hq hb => ?_, fun hq hb hm hl => ?_⟩
    · rw [State.feedWord_running ht hd hj hl hopen hq]
    · rw [State.feedWord_excess ht hd hj hl hfull, State.excessWord]
    · rw [State.feedWord_waiting ht hd hj hl he hq hb]
    · rw [State.feedWord_buffer_full ht hd hj hm hl hq hb]
  case ends =>
    have ht : s.takesPush k.val m := ⟨ha, hp, ho⟩
    simp only [exec_dgcLastw, State.busWrite_of_reaches hlast]
    exact ⟨fun hl => by rw [State.lastWord_with_len ht hl], fun hl => by rw [State.lastWord_ends ht hl]⟩

/-- Settles O30: the first waiting job meets the first free core, and a running job ends in the way that its destination or its error gives. -/
theorem digestRuns : Obligations.DigestRuns := by
  refine ⟨fun s => ⟨fun hq => ?empty, fun j hj => ⟨fun hc => ?noCore, fun c cs hc => ⟨fun hv hr => ?reserved, fun hfree => ?starts⟩⟩,
    fun c a hc hok hex hq => ?failed⟩, fun k c j s hr hset ho => ⟨fun hn => ?notYet, fun m out n hfull hd hs hout => ?output,
      fun s1 hfull hd => ?unreadable, fun hfull => ?noStall, fun hn => ?stall⟩⟩
  case empty => exact congrArg Host.Outcome.next (State.startJob_empty hq)
  case noCore => exact congrArg Host.Outcome.next (State.startJob_no_core hc)
  case reserved => exact congrArg Host.Outcome.next (State.startJob_reserved hj hc hv hr)
  case starts =>
    have hstart : exec (.jobStart []) s = .next s.startJob := rfl
    rw [hstart, State.startJob_unreserved hj hc hfree]
    exact ⟨fun hk => by rw [hk]; rfl, fun hk => by rw [hk]; rfl⟩
  case failed =>
    have hstart : exec (.jobStart [(c, a)]) s = .next (s.failCores [(c, a)]).startJob := rfl
    rw [hstart, State.failCores_one hc hok hex, State.startJob_empty]
    exact hq
  case notYet => rw [exec_jobComplete hr, hn]; rfl
  case output =>
    rw [exec_jobComplete hr, hfull, if_pos rfl, ← hset]
    refine ⟨fun h0 => ?_, fun e h1 he => ?_, fun h2 => ?_⟩
    · rw [State.finishJob_to_set hd hs hout h0]
    · rw [State.finishJob_compared hd hs hout h1 he]
    · refine ⟨_, rfl, fun hslot => ?_, ?_⟩
      · rw [State.finishJob_to_slot hd hs hout h2, (State.closeRole_netChange _ _).slot]
        exact State.writeRoleKey_slot _ hslot out
      · rw [State.finishJob_to_slot hd hs hout h2, (State.closeRole_netChange _ _).resSet, State.writeRoleKey_resSet, hset,
          State.endJob_resSet ho]
        exact ⟨rfl, rfl⟩
  case unreadable =>
    rw [exec_jobComplete hr, hfull, if_pos rfl, State.finishJob_unreadable hd, State.jobReadErr, hset]
  case noStall => rw [exec_jobStall hr, hfull]; rfl
  case stall =>
    obtain ⟨l, e, ht⟩ := State.shortEvent_frame
      (s.endJob k.val fun r => { r with lengthShort := true, count := BitVec.ofNat 64 j.fed.length }) j
    rw [exec_jobStall hr, hn, if_neg Bool.false_ne_true, ht, State.endJob_of_wanted ho]
    refine ⟨_, rfl, ?done, ?short, ?count, rfl, fun x hx => ?gone, rfl⟩
    case done | short | count => simp [State.resSet_val, ResSet.ended]
    case gone => simpa using (List.mem_filter.1 hx).2

end Sys2Proof.Proofs
